-- ==== Sys2Proof/Word.lean ====
section
/-! DEFINITION. The byte of the floor bus and of the configuration plug. Everything the spec counts
(beats, kilograms, bay numbers, pallet IDs) is a plain number, so no other word type is needed. -/

namespace Sys2Proof

/-- One byte of a frame (section 2.4) or of the plug's image (R172). -/
abbrev Byte := BitVec 8

end Sys2Proof
end

