-- ==== Sys2Proof/Config.lean ====
section
/-! DEFINITION. The shape of the configuration record (section 11.1, R101): what one installation of
the bay fixes. The values in force at a moment are State's (Machine/State.lean); the ranges and the
defaults of the fields are in Machine/Operands.lean. The three free values stand at the end: the loads READ PLAN
reports while no trailer class is bound (notes/assumptions/1.md), and the trailer ID of a closing record
(notes/assumptions/40.md) and the cut-off remaining (notes/assumptions/43.md) while no binding is held. -/

namespace Sys2Proof

/-- Handling of a destination by the destination map (R62), codes 0, 1, 2 of section 11.1. -/
inductive Handling where
  | direct
  | hold
  | except
  deriving DecidableEq, Repr

/-- One of the 8 entries of the destination map (R62). -/
structure MapEntry where
  first : Nat
  last : Nat
  handling : Handling
  deriving DecidableEq, Repr

/-- The parameters of one trailer class (R101); distances in cm, weights in kg, height in mm. -/
structure TrailerClass where
  d : Int
  p : Int
  l : Int
  k0 : Int
  b0 : Int
  kmax : Int
  bmax : Int
  gmax : Int
  kmin : Int
  h : Nat
  deriving DecidableEq, Repr

/-- The level and the slope class of one intensity group (R155). -/
structure IntensityGroup where
  level : Nat
  slope : Nat
  deriving DecidableEq, Repr

/-- The configuration record of the SCU (section 11.1): one member per row of its table. -/
structure ConfigRecord where
  bay : Nat
  advertPeriod : Nat
  ageLimit : Nat
  answerTimeout : Nat
  holdBeats : Nat
  guardMargin : Nat
  closingGrace : Nat
  levellerGrace : Nat
  laneCount : Nat
  highMark : Nat
  lowMark : Nat
  minimumDwell : Nat
  showTime : Nat
  map : Vector MapEntry 8
  classes : Vector TrailerClass 4
  channelGroup : Vector Nat 12
  groups : Vector IntensityGroup 4
  deriving DecidableEq, Repr

/-- The fields a service terminal may name in WRITE FIELD and READ FIELD (R176, R178); `unknown`
stands for a name the SCU does not know. DESIGN CHOICE: notes/assumptions/28.md. -/
inductive FieldName where
  | bayNumber | advertPeriod | ageLimit | answerTimeout | holdBeats | guardMargin
  | closingGrace | levellerGrace | laneCount | highMark | lowMark | minimumDwell | showTime
  | mapFirst | mapLast | mapHandling
  | classD | classP | classL | classK0 | classB0 | classKmax | classBmax | classGmax
  | classKmin | classH
  | channelGroup | groupLevel | slopeClass
  | unknown
  deriving DecidableEq, Repr

/-- The rounded gross, kingpin and bogie loads of R106, in kg. -/
structure Loads where
  gross : Int
  kingpin : Int
  bogie : Int
  deriving DecidableEq, Repr, Inhabited

/-- DESIGN CHOICE (notes/assumptions/1.md): R99 has READ PLAN report the three loads in every bay
state, and R101 gives the parameters only of a bound class; with no class bound the reported loads
are this free value, applied to the state's serial number. Nothing constrains it. -/
opaque Config.unboundLoads : Nat → Loads

/-- DESIGN CHOICE (notes/assumptions/40.md): R167 gives a closing record the bound trailer's ID, and no rule gives
one where the LPU holds no copy of a binding. The 8 bytes are then this free value, applied to the state's serial
number and cut to the 7 bits of a character. Nothing constrains it. -/
opaque Config.unboundTrailerId : Nat → Vector Byte 8

/-- DESIGN CHOICE (notes/assumptions/43.md): R95 and R113 compute the cut-off remaining from the cut-off beat of the
binding, and no rule gives it where the LPU holds no copy of one. It is then this free value, applied to the state's
serial number and to now, and cut to the greatest figure of R95. Nothing constrains it. -/
opaque Config.unboundCutOff : Nat → Nat → Nat

end Sys2Proof
end

