-- ==== Sys2Proof/Syntax.lean ====
section
/-! DEFINITION. The commands of the block: `Instr` has one constructor per row of
spec/opcode_table.json, in the table's order, with the row's operands. The operand types (reads,
frame bodies, indications, candidates) follow the tables of the chapters named in their docstrings. -/

namespace Sys2Proof

/-- The eight blocks of the bay (section 0.5). -/
inductive Block where
  | dcu | fbi | pdr | dsu | lpu | mlu | gdu | scu
  deriving DecidableEq, Repr

/-- The four door lines (section 1.1). -/
inductive Line where
  | trailerPresent | levellerDown | doorOpen | closePush
  deriving DecidableEq, Repr

/-- The bay states (section 1.3). -/
inductive BayState where
  | listen | unconfigured | empty | docked | blocked | inbound | outbound | closing | closed
  deriving DecidableEq, Repr

/-- Which drop of the bound trunk is loaded (0.4.35), and the drop of a tier (R84). -/
inductive Phase where
  | far | near
  deriving DecidableEq, Repr

inductive HeightClass where
  | full | half | quarter | mini
  deriving DecidableEq, Repr

/-- The scale status of a door read (section 1.2). -/
inductive Scale where
  | ok (kg : Nat)
  | zero
  | overload
  deriving DecidableEq, Repr

inductive Direction where
  | intoTrailer | outOfTrailer
  deriving DecidableEq, Repr

inductive Side where
  | left | right
  deriving DecidableEq, Repr

inductive PlaceKind where
  | trailer | lane
  deriving DecidableEq, Repr

/-- A place: row, side and tier of a trailer, or a lane (section 2.4.1). -/
inductive Place where
  | trailer (row : Nat) (side : Side) (tier : Nat)
  | lane (number : Nat)
  deriving DecidableEq, Repr

/-- The reasons of a REFUSE (section 2.3). -/
inductive RefuseReason where
  | closed | wrongDest | order | duplicate | full | gross | axle | noLane | busy | held
  deriving DecidableEq, Repr

/-- The reasons of a RELEASE (section 2.3). -/
inductive ReleaseReason where
  | expired | stranded | cutoff | undock | late | cancel
  deriving DecidableEq, Repr

/-- The assignment of a lane (section 8.1). -/
inductive Assignment where
  | free | assigned | suspect
  deriving DecidableEq, Repr

/-! ## Reads (section 1.2) -/

/-- A door read as the reader port delivers it; the height class is a code still to be judged. -/
structure DoorRead where
  pallet : Nat
  dest : Nat
  classCode : Nat
  stackable : Bool
  scale : Scale
  direction : Direction
  deriving DecidableEq, Repr

/-- A door read as R3 has normalised it and the DCU has passed it on. -/
structure PalletRead where
  pallet : Nat
  dest : Nat
  height : HeightClass
  stackable : Bool
  scale : Scale
  deriving DecidableEq, Repr

/-- A card read. -/
structure CardRead where
  trailerId : Vector Byte 8
  cls : Nat
  arrivesLoaded : Bool
  near : Nat
  far : Option Nat
  farCut : Option Nat
  cutOff : Nat
  deriving DecidableEq, Repr

/-- A lane read as the reader port delivers it. -/
structure LaneRead where
  lane : Nat
  pallet : Nat
  dest : Nat
  classCode : Nat
  stackable : Bool
  deriving DecidableEq, Repr

/-- A lane read as R3 has normalised it. -/
structure LanePut where
  lane : Nat
  pallet : Nat
  dest : Nat
  height : HeightClass
  stackable : Bool
  deriving DecidableEq, Repr

/-! ## Frames (sections 2.3 and 2.4) -/

/-- Four counts, one per height class. -/
structure Openings where
  full : Nat
  half : Nat
  quarter : Nat
  mini : Nat
  deriving DecidableEq, Repr

structure LaneAdvert where
  number : Nat
  assignment : Assignment
  high : Bool
  dest : Nat
  fill : Nat
  deriving DecidableEq, Repr

structure AdvertBody where
  state : BayState
  phase : Option Phase
  accepting : Nat
  cutOff : Nat
  margin : Nat
  openings : Openings
  lanes : List LaneAdvert
  deriving DecidableEq, Repr

structure AskBody where
  seq : Nat
  target : Nat
  kind : PlaceKind
  pallet : Nat
  dest : Nat
  weight : Nat
  height : HeightClass
  stackable : Bool
  deriving DecidableEq, Repr

structure GrantBody where
  asker : Nat
  seq : Nat
  pallet : Nat
  place : Place
  hold : Nat
  margin : Nat
  deriving DecidableEq, Repr

structure RefuseBody where
  asker : Nat
  seq : Nat
  pallet : Nat
  reason : RefuseReason
  deriving DecidableEq, Repr

structure PlacedBody where
  pallet : Nat
  asker : Nat
  place : Place
  margin : Nat
  deriving DecidableEq, Repr

structure ReleaseBody where
  pallet : Nat
  asker : Nat
  seq : Nat
  reason : ReleaseReason
  deriving DecidableEq, Repr

structure CloseBody where
  trailerId : Vector Byte 8
  cls : Nat
  near : Nat
  far : Nat
  landedNear : Nat
  landedFar : Nat
  payload : Int
  gross : Int
  kingpin : Int
  bogie : Int
  aborted : Bool
  overLimit : Bool
  lightNose : Bool
  deriving DecidableEq, Repr

/-- The body of a frame: one constructor per kind of section 2.3. -/
inductive Body where
  | advert (b : AdvertBody)
  | ask (b : AskBody)
  | grant (b : GrantBody)
  | refuse (b : RefuseBody)
  | placed (b : PlacedBody)
  | release (b : ReleaseBody)
  | close (b : CloseBody)
  deriving DecidableEq, Repr

/-- A frame as it passed R24: the header fields software reads, and the body. -/
structure Frame where
  sender : Nat
  seq : Nat
  restart : Bool
  body : Body
  deriving DecidableEq, Repr

/-! ## Requests between blocks -/

/-- Who asked the PDR for candidates: a pallet record's search or a lane's drain search. The token is
the model's own mark of the one search the request belongs to (notes/assumptions/5.md). -/
inductive Requester where
  | record (pallet : Nat) (token : Nat)
  | drain (lane : Nat) (token : Nat)
  deriving DecidableEq, Repr

/-- A copy of a TRAILER entry as the PDR answers it (R56), or the own trailer as a candidate (R140). -/
structure TrailerCandidate where
  bay : Nat
  cutOff : Nat
  margin : Nat
  openings : Openings
  deriving DecidableEq, Repr

/-- A copy of a LANE entry as the PDR answers it (R57). -/
structure LaneCandidate where
  bay : Nat
  lane : Nat
  fill : Nat
  high : Bool
  deriving DecidableEq, Repr

/-- The own-trailer summary of R98. -/
structure OwnSummary where
  dest : Nat
  cutOff : Nat
  margin : Nat
  openings : Openings
  deriving DecidableEq, Repr

/-- What a self-put request names of the pallet (R66). -/
structure SelfPut where
  pallet : Nat
  dest : Nat
  weight : Nat
  estimated : Bool
  height : HeightClass
  stackable : Bool
  deriving DecidableEq, Repr

/-- The kind of a self-put request (R66). -/
inductive SelfPutKind where
  | assigned | free
  deriving DecidableEq, Repr

/-- The lane and the hold remaining of a self-put that was given (R66). -/
structure SelfPutGiven where
  lane : Nat
  hold : Nat
  deriving DecidableEq, Repr

/-- A drain's ask of the bay's own trailer: an ask with asker 0 and no sequence (R114, R140). -/
structure OwnAsk where
  pallet : Nat
  dest : Nat
  weight : Nat
  height : HeightClass
  stackable : Bool
  deriving DecidableEq, Repr

/-- What the LPU hands the MLU about an own-trailer ask or an asker-0 reservation (R114 to R117). -/
inductive OwnAnswer where
  | granted (row : Nat) (side : Side) (tier : Nat) (hold : Nat)
  | refused (reason : RefuseReason)
  | released (reason : ReleaseReason)
  deriving DecidableEq, Repr

/-! ## Indications (section 9.2) -/

inductive Colour where
  | red | amber | green
  deriving DecidableEq, Repr

inductive Pattern where
  | off | steady | slow | fast
  deriving DecidableEq, Repr

inductive Display where
  | blank | dashes | number (n : Nat)
  deriving DecidableEq, Repr

/-- The named indications of R151, with their parameters; `dark` is the idle indication with no lamp. -/
inductive IndicationName where
  | wait
  | goDoor (bay : Nat)
  | goLane (lane : Nat)
  | goRemoteLane (bay : Nat)
  | except
  | fullTable
  | loadAt (row : Nat) (side : Side) (tier : Nat)
  | walkinAt (row : Nat) (side : Side) (tier : Nat)
  | refused
  | drain (lane : Nat) (bay : Nat)
  | holding
  | closed
  | dark
  deriving DecidableEq, Repr

/-- An indication: the record of section 9.2. -/
structure Indication where
  name : IndicationName
  colour : Option Colour
  pattern : Pattern
  display : Display
  side : Option Side
  tier : Option Nat
  lane : Option Nat
  lanePattern : Pattern
  deriving DecidableEq, Repr

/-- A request to the GDU (section 9.2): the record, its source and the DSU's pallet ID if any. -/
structure IndicationRequest where
  source : Block
  indication : Indication
  pallet : Option Nat
  deriving DecidableEq, Repr

/-- What a sensing of a lamp's current finds (R156). -/
inductive LampFinding where
  | normal | tooLow | tooHigh
  deriving DecidableEq, Repr

/-- The two fault flags of a channel (section 9.5). -/
inductive FaultKind where
  | openFault | shortFault
  deriving DecidableEq, Repr

/-- The 19 notice kinds (section 11.3). -/
inductive NoticeKind where
  | configBad | configClamped | cardRefused | tableFull | exception | orphan | busFault | loss
  | bayClash | lampFault | walkinRefused | planMismatch | overLimit | undockAbort | laneHigh
  | unguidedRemoval | scaleFault | lightNose | strayRead
  deriving DecidableEq, Repr

/-! ## The commands -/

/-- One constructor per row of spec/opcode_table.json, in its order. A row that one block hands to
another carries what the spec says is handed. -/
inductive Instr where
  | powerOnReset
  | configurationReadEnd (image : Option (List Byte))
  | resetLineAsserted
  | resetLineReleased
  | floorReset
  | floorResetTaken
  | beat
  | advertTick
  | advertDebtRise
  | agingEvent
  | drainTick
  | doorLineChange (line : Line) (value : Bool)
  | doorRead (r : DoorRead)
  | cardRead (r : CardRead)
  | laneRead (r : LaneRead)
  | exitEvent (lane : Nat)
  | joinDeadlineExpiry
  | cutOffExpiry
  | farCutExpiry
  | levellerGraceExpiry
  | closingGraceExpiry
  | noReservationReport
  | sensorRead
  | declareEmpty
  | attemptStart
  | frameSent
  | collision
  | backoffEnd
  | fragmentReceived
  | frameArrival (bytes : List Byte)
  | frameTaking
  | doubtAll
  | doubtSender (bay : Nat)
  | pdrAdvert (sender : Nat) (restart : Bool) (b : AdvertBody)
  | pdrAsk (sender : Nat) (b : AskBody)
  | askNote (b : AskBody)
  | pdrGrant (sender : Nat) (b : GrantBody)
  | pdrPlaced (sender : Nat) (b : PlacedBody)
  | pdrRefuse (sender : Nat) (b : RefuseBody)
  | pdrClose (sender : Nat)
  | trailerCandidatesRequest (dest : Nat) (who : Requester)
  | laneCandidatesRequest (dest : Nat) (pallet : Nat) (token : Nat)
  | readDirectoryEntry (setNo : Nat) (way : Nat)
  | dsuDoorReadOut (r : PalletRead)
  | dsuDoorReadInto (r : PalletRead)
  | trailerCandidatesAnswer (pallet : Nat) (token : Nat) (found : List TrailerCandidate)
  | laneCandidatesAnswer (pallet : Nat) (token : Nat) (found : List LaneCandidate)
  | selfPutAnswer (pallet : Nat) (token : Nat) (given : Option SelfPutGiven)
  | answerDeadlineExpiry (pallet : Nat)
  | guardDeadlineExpiry (pallet : Nat)
  | retryAfterExpiry (pallet : Nat)
  | dsuGrant (sender : Nat) (b : GrantBody)
  | dsuRefuse (sender : Nat) (b : RefuseBody)
  | dsuRelease (sender : Nat) (b : ReleaseBody)
  | dsuPlaced (sender : Nat) (b : PlacedBody)
  | placedNote (pallet : Nat) (asker : Nat) (place : Place)
  | dsuRestartAdvert (sender : Nat)
  | dsuClose (sender : Nat) (b : CloseBody)
  | selfPutRelease (pallet : Nat) (reason : ReleaseReason)
  | askSequenceRequest (lane : Nat) (pallet : Nat) (target : Nat)
  | shownReport (pallet : Nat) (indication : Indication)
  | droppedReport (pallet : Nat) (indication : Indication)
  | removeRecord (pallet : Nat)
  | readAskTable
  | beginPlan (cls : Nat) (near : Nat) (far : Option Nat) (phase : Phase)
  | lpuAsk (sender : Nat) (b : AskBody)
  | ownTrailerAsk (a : OwnAsk)
  | reservationExpiry (pallet : Nat)
  | lpuRelease (sender : Nat) (b : ReleaseBody)
  | ownDrainRelease (pallet : Nat) (reason : ReleaseReason)
  | lpuDoorReadInto (r : PalletRead)
  | lpuDoorReadOut (r : PalletRead)
  | ownTrailerSummary (lane : Nat) (token : Nat)
  | closeRequestClosing
  | closeRequestClosed
  | departureRequest
  | abortRequest
  | readPlan
  | clearHold
  | readClosingRecord
  | mluAsk (sender : Nat) (b : AskBody)
  | selfPutRequest (p : SelfPut) (kind : SelfPutKind) (token : Nat)
  | selfPutCancel (pallet : Nat)
  | putExpiry (pallet : Nat)
  | mluRelease (sender : Nat) (b : ReleaseBody)
  | mluLaneRead (r : LanePut)
  | mluExitEvent (lane : Nat)
  | drainCandidatesAnswer (lane : Nat) (token : Nat) (found : List TrailerCandidate) (own : Option OwnSummary)
  | askSequenceReturn (lane : Nat) (pallet : Nat) (target : Nat) (value : Nat)
  | mluGrant (sender : Nat) (b : GrantBody)
  | mluRefuse (sender : Nat) (b : RefuseBody)
  | ownTrailerAnswer (pallet : Nat) (answer : OwnAnswer)
  | drainAnswerDeadlineExpiry (lane : Nat)
  | drainRetryAfterExpiry (lane : Nat)
  | drainGuardDeadlineExpiry (lane : Nat)
  | mluPlaced (sender : Nat) (b : PlacedBody)
  | lampFaultReport (lane : Nat)
  | lampClearReport (lane : Nat)
  | clearLane (lane : Nat)
  | readLanes
  | indicationRequest (r : IndicationRequest)
  | dwellExpiry
  | showExpiry
  | bayStateChange
  | lampSensing (channel : Nat) (finding : LampFinding)
  | clearLamp (channel : Nat) (kind : Option FaultKind)
  | sealRequest
  | sealConfig
  | writeField (field : FieldName) (index : Option Nat) (value : Int)
  | readField (field : FieldName) (index : Option Nat)
  | readState
  | readNotices
  | noticeEnable (kind : Option NoticeKind)
  | noticeDisable (kind : Option NoticeKind)
  | clearNotice (kind : Option NoticeKind)
  | unknown
  | noticeRaise (kind : NoticeKind)
  | beamInterrupted (lane : Nat)
  | patternHalfEnd (channel : Nat)
  | serviceAnswerSent
  deriving DecidableEq, Repr

end Sys2Proof
end

