-- ==== Sys2Proof/Machine/Operands.lean ====
section
/-! DEFINITION. Operand values and operand forms: the tables of heights, weights and codes, the
configuration fields with their ranges, defaults and order in the plug's image, and the named
indications. Nothing here reads the machine's state. -/

namespace Sys2Proof.Machine

/-! ## Capacities and limits the spec fixes -/

/-- The beat counter holds at this value (R7). -/
def maxBeat : Nat := 4294967295

/-- Places of the transmit queue (R32). -/
def txCapacity : Nat := 12

/-- Places of the receive queue (R28). -/
def rxCapacity : Nat := 16

/-- Greatest pallet ID (section 0.7). -/
def maxPallet : Nat := 999999999999

/-- Greatest weight of a tier or an item in kg (sections 5.2, 8.1). -/
def maxWeight : Nat := 1500

/-- Places of an owed list of PLACED and RELEASE frames (R130, R147). -/
def owedCapacity : Nat := 8

/-- Items, and puts, a lane holds at most (R132). -/
def laneCapacity : Nat := 8

/-- Bays an exclusion list holds at most (0.4.18). -/
def exclusionCapacity : Nat := 4

/-- Requests the indication FIFO holds (section 9.3). -/
def fifoCapacity : Nat := 4

/-- Collisions at which a frame is discarded (R21). -/
def collisionLimit : Nat := 16

/-! ## Pallets and destinations -/

/-- A height class code, 0 to 3; any other code is taken as FULL (R3, section 2.4.1). -/
def heightOfCode : Nat → HeightClass
  | 1 => .half
  | 2 => .quarter
  | 3 => .mini
  | _ => .full

/-- Nominal height in mm (R85). -/
def nominalHeight : HeightClass → Nat
  | .full => 2200
  | .half => 1100
  | .quarter => 800
  | .mini => 600

/-- Class maximum weight in kg (R61, R123, R138). -/
def classMaxWeight : HeightClass → Nat
  | .full => 1200
  | .half => 600
  | .quarter => 300
  | .mini => 150

/-- A destination code 1 to 999 (section 0.7). -/
def validDest (d : Nat) : Bool := decide (1 ≤ d) && decide (d ≤ 999)

/-- A weight a place may carry, 1 to 1500 kg. -/
def validWeight (w : Nat) : Bool := decide (1 ≤ w) && decide (w ≤ maxWeight)

/-- R3: a scale status OK with a weight outside 1 to 1500 is taken as OVER. -/
def normalScale : Scale → Scale
  | .ok kg => if validWeight kg then .ok kg else .overload
  | sc => sc

/-- R3: a door read made ready for the DSU or the LPU. -/
def normalDoorRead (r : DoorRead) : PalletRead :=
  { pallet := r.pallet, dest := r.dest, height := heightOfCode r.classCode,
    stackable := r.stackable, scale := normalScale r.scale }

/-- R3: a lane read made ready for the MLU. -/
def normalLaneRead (r : LaneRead) : LanePut :=
  { lane := r.lane, pallet := r.pallet, dest := r.dest, height := heightOfCode r.classCode,
    stackable := r.stackable }

/-- R3 and R61: whether the scale status raises SCALE_FAULT. -/
def scaleFaulty : Scale → Bool
  | .ok _ => false
  | _ => true

/-- The opening count of a height class. -/
def openingsFor (o : Openings) : HeightClass → Nat
  | .full => o.full
  | .half => o.half
  | .quarter => o.quarter
  | .mini => o.mini

/-- The four counts of a function of the class. -/
def openingsOf (f : HeightClass → Nat) : Openings :=
  { full := f .full, half := f .half, quarter := f .quarter, mini := f .mini }

/-- R51: the count of one class set to 0. -/
def openingsWithout (o : Openings) (h : HeightClass) : Openings :=
  openingsOf fun c => if c = h then 0 else openingsFor o c

def noOpenings : Openings := { full := 0, half := 0, quarter := 0, mini := 0 }

/-- The kind of a place. -/
def placeKind : Place → PlaceKind
  | .trailer _ _ _ => .trailer
  | .lane _ => .lane

/-- The hard reasons of section 2.3; BUSY and HELD are soft. -/
def hardReason : RefuseReason → Bool
  | .busy => false
  | .held => false
  | _ => true

/-- The RELEASE reasons that a granting bay sends (section 2.3); LATE and CANCEL are the asker's. -/
def granterReason : ReleaseReason → Bool
  | .late => false
  | .cancel => false
  | _ => true

/-- An exclusion list with a bay added at its end, if the list does not hold it and has room (R58). -/
def excludeBay (l : List Nat) (b : Nat) : List Nat :=
  if l.contains b then l else if l.length < exclusionCapacity then l ++ [b] else l

/-- The first element that no other beats under `before`, the earliest of the list among equals. -/
def firstBest {α : Type} (before : α → α → Bool) : List α → Option α
  | [] => none
  | a :: l =>
    match firstBest before l with
    | none => some a
    | some b => if before b a then some b else some a

/-- R65 and R140: least cut-off remaining first, then lowest bay number. -/
def trailerBefore (a b : TrailerCandidate) : Bool :=
  decide (a.cutOff < b.cutOff) || (decide (a.cutOff = b.cutOff) && decide (a.bay < b.bay))

/-- R67: lowest bay number first; among entries of one bay the order of the answer stands. -/
def laneBefore (a b : LaneCandidate) : Bool := decide (a.bay < b.bay)

/-- The three tests a trailer candidate must meet (R65, R140). -/
def trailerFits (excluded : List Nat) (weight : Nat) (h : HeightClass) (c : TrailerCandidate) : Bool :=
  !excluded.contains c.bay && decide (weight ≤ c.margin) && decide (1 ≤ openingsFor c.openings h)

/-- The place of a notice kind among the 19 flags, in the order of the table of section 11.3. -/
def noticeIndex : NoticeKind → Nat
  | .configBad => 0
  | .configClamped => 1
  | .cardRefused => 2
  | .tableFull => 3
  | .exception => 4
  | .orphan => 5
  | .busFault => 6
  | .loss => 7
  | .bayClash => 8
  | .lampFault => 9
  | .walkinRefused => 10
  | .planMismatch => 11
  | .overLimit => 12
  | .undockAbort => 13
  | .laneHigh => 14
  | .unguidedRemoval => 15
  | .scaleFault => 16
  | .lightNose => 17
  | .strayRead => 18

/-! ## The trunk card (R12, R13) -/

/-- A far destination read as 0 is taken as absent (R12). -/
def cardFar (r : CardRead) : Option Nat :=
  match r.far with
  | some 0 => none
  | f => f

/-- Far-cut minutes count only beside a far destination (R12). -/
def cardFarCut (r : CardRead) : Option Nat := if (cardFar r).isSome then r.farCut else none

/-- The cases in which a card read in DOCKED is refused (R12). -/
def cardBad (r : CardRead) : Bool :=
  decide (3 < r.cls) || !validDest r.near ||
    (match cardFar r with
     | none => false
     | some f => decide (999 < f) || decide (f = r.near) || r.farCut.isNone)

/-- Cut-off minutes clamped to 10 to 600 (R13). -/
def clampedCutOff (r : CardRead) : Nat := min (max r.cutOff 10) 600

/-- Far-cut minutes clamped to 0 to the clamped cut-off minutes (R13). -/
def clampedFarCut (r : CardRead) : Option Nat := (cardFarCut r).map fun m => min m (clampedCutOff r)

/-! ## Configuration fields (section 11.1, R101, R172, R173, R176) -/

def clampInt (lo hi v : Int) : Int := if v < lo then lo else if hi < v then hi else v

/-- Least and greatest value of a field. -/
def fieldRange : FieldName → Int × Int
  | .bayNumber => (1, 63)
  | .advertPeriod => (2, 60)
  | .ageLimit => (2, 7)
  | .answerTimeout => (1, 10)
  | .holdBeats => (30, 900)
  | .guardMargin => (5, 60)
  | .closingGrace => (0, 300)
  | .levellerGrace => (0, 120)
  | .laneCount => (0, 4)
  | .highMark => (2, 8)
  | .lowMark => (0, 7)
  | .minimumDwell => (1, 10)
  | .showTime => (3, 60)
  | .mapFirst => (1, 999)
  | .mapLast => (1, 999)
  | .mapHandling => (0, 2)
  | .classD => (-200, 0)
  | .classP => (90, 110)
  | .classL => (500, 1100)
  | .classK0 => (0, 20000)
  | .classB0 => (0, 20000)
  | .classKmax => (1000, 60000)
  | .classBmax => (1000, 60000)
  | .classGmax => (1000, 60000)
  | .classKmin => (0, 20000)
  | .classH => (2400, 3000)
  | .channelGroup => (1, 4)
  | .groupLevel => (0, 255)
  | .slopeClass => (0, 3)
  | .unknown => (0, 0)

/-- The index range of a field, or none for a field without an index. -/
def fieldIndices : FieldName → Option (Nat × Nat)
  | .mapFirst | .mapLast | .mapHandling => some (1, 8)
  | .classD | .classP | .classL | .classK0 | .classB0 | .classKmax | .classBmax | .classGmax
  | .classKmin | .classH => some (0, 3)
  | .channelGroup => some (1, 12)
  | .groupLevel | .slopeClass => some (1, 4)
  | _ => none

/-- R176 case 1: the field is known and carries an index in range exactly when it needs one. -/
def fieldNamed (f : FieldName) (i : Option Nat) : Bool :=
  match f, fieldIndices f, i with
  | .unknown, _, _ => false
  | _, none, none => true
  | _, some (lo, hi), some k => decide (lo ≤ k) && decide (k ≤ hi)
  | _, _, _ => false

def fieldInRange (f : FieldName) (v : Int) : Bool :=
  decide ((fieldRange f).1 ≤ v) && decide (v ≤ (fieldRange f).2)

/-- R101: an odd pitch is rounded down to the even value below it. -/
def evenPitch (p : Int) : Int := p - p % 2

def handlingOfCode (v : Int) : Handling := if v = 0 then .direct else if v = 1 then .hold else .except

def codeOfHandling : Handling → Int
  | .direct => 0
  | .hold => 1
  | .except => 2

/-- An element of a vector changed in place; an index out of bounds changes nothing. -/
def vectorUpdate {α : Type} {n : Nat} (v : Vector α n) (i : Nat) (f : α → α) : Vector α n :=
  match v[i]? with
  | some x => v.setIfInBounds i (f x)
  | none => v

/-- The record with a map entry, class or group changed (index as the terminal names it). -/
def withMapEntry (c : ConfigRecord) (i : Nat) (f : MapEntry → MapEntry) : ConfigRecord :=
  { c with map := vectorUpdate c.map (i - 1) f }

def withClass (c : ConfigRecord) (i : Nat) (f : TrailerClass → TrailerClass) : ConfigRecord :=
  { c with classes := vectorUpdate c.classes i f }

def withGroup (c : ConfigRecord) (i : Nat) (f : IntensityGroup → IntensityGroup) : ConfigRecord :=
  { c with groups := vectorUpdate c.groups (i - 1) f }

/-- The record with one field written; an odd pitch is written even (R101, R176). -/
def setField (c : ConfigRecord) (f : FieldName) (i : Nat) (v : Int) : ConfigRecord :=
  match f with
  | .bayNumber => { c with bay := v.toNat }
  | .advertPeriod => { c with advertPeriod := v.toNat }
  | .ageLimit => { c with ageLimit := v.toNat }
  | .answerTimeout => { c with answerTimeout := v.toNat }
  | .holdBeats => { c with holdBeats := v.toNat }
  | .guardMargin => { c with guardMargin := v.toNat }
  | .closingGrace => { c with closingGrace := v.toNat }
  | .levellerGrace => { c with levellerGrace := v.toNat }
  | .laneCount => { c with laneCount := v.toNat }
  | .highMark => { c with highMark := v.toNat }
  | .lowMark => { c with lowMark := v.toNat }
  | .minimumDwell => { c with minimumDwell := v.toNat }
  | .showTime => { c with showTime := v.toNat }
  | .mapFirst => withMapEntry c i fun e => { e with first := v.toNat }
  | .mapLast => withMapEntry c i fun e => { e with last := v.toNat }
  | .mapHandling => withMapEntry c i fun e => { e with handling := handlingOfCode v }
  | .classD => withClass c i fun t => { t with d := v }
  | .classP => withClass c i fun t => { t with p := evenPitch v }
  | .classL => withClass c i fun t => { t with l := v }
  | .classK0 => withClass c i fun t => { t with k0 := v }
  | .classB0 => withClass c i fun t => { t with b0 := v }
  | .classKmax => withClass c i fun t => { t with kmax := v }
  | .classBmax => withClass c i fun t => { t with bmax := v }
  | .classGmax => withClass c i fun t => { t with gmax := v }
  | .classKmin => withClass c i fun t => { t with kmin := v }
  | .classH => withClass c i fun t => { t with h := v.toNat }
  | .channelGroup => { c with channelGroup := vectorUpdate c.channelGroup (i - 1) fun _ => v.toNat }
  | .groupLevel => withGroup c i fun g => { g with level := v.toNat }
  | .slopeClass => withGroup c i fun g => { g with slope := v.toNat }
  | .unknown => c

/-- The value the record holds in a field (READ FIELD, R178); none for a field or index unknown. -/
def getField (c : ConfigRecord) (f : FieldName) (i : Nat) : Option Int :=
  match f with
  | .bayNumber => some c.bay
  | .advertPeriod => some c.advertPeriod
  | .ageLimit => some c.ageLimit
  | .answerTimeout => some c.answerTimeout
  | .holdBeats => some c.holdBeats
  | .guardMargin => some c.guardMargin
  | .closingGrace => some c.closingGrace
  | .levellerGrace => some c.levellerGrace
  | .laneCount => some c.laneCount
  | .highMark => some c.highMark
  | .lowMark => some c.lowMark
  | .minimumDwell => some c.minimumDwell
  | .showTime => some c.showTime
  | .mapFirst => c.map[i - 1]?.map fun e => (e.first : Int)
  | .mapLast => c.map[i - 1]?.map fun e => (e.last : Int)
  | .mapHandling => c.map[i - 1]?.map fun e => codeOfHandling e.handling
  | .classD => c.classes[i]?.map (·.d)
  | .classP => c.classes[i]?.map (·.p)
  | .classL => c.classes[i]?.map (·.l)
  | .classK0 => c.classes[i]?.map (·.k0)
  | .classB0 => c.classes[i]?.map (·.b0)
  | .classKmax => c.classes[i]?.map (·.kmax)
  | .classBmax => c.classes[i]?.map (·.bmax)
  | .classGmax => c.classes[i]?.map (·.gmax)
  | .classKmin => c.classes[i]?.map (·.kmin)
  | .classH => c.classes[i]?.map fun t => (t.h : Int)
  | .channelGroup => c.channelGroup[i - 1]?.map fun g => (g : Int)
  | .groupLevel => c.groups[i - 1]?.map fun g => (g.level : Int)
  | .slopeClass => c.groups[i - 1]?.map fun g => (g.slope : Int)
  | .unknown => none

/-- The class defaults of section 11.1. -/
def defaultClass : TrailerClass :=
  { d := -120, p := 102, l := 780, k0 := 2300, b0 := 4700, kmax := 12000, bmax := 24000,
    gmax := 34000, kmin := 3500, h := 2700 }

/-- Every field at its default, with the bay number held as 0 (section 11.1, R172). -/
def defaultConfig : ConfigRecord :=
  { bay := 0, advertPeriod := 10, ageLimit := 3, answerTimeout := 2, holdBeats := 240,
    guardMargin := 10, closingGrace := 120, levellerGrace := 30, laneCount := 0, highMark := 7,
    lowMark := 5, minimumDwell := 2, showTime := 15,
    map := Vector.replicate 8 { first := 999, last := 1, handling := .direct },
    classes := Vector.replicate 4 defaultClass,
    channelGroup := Vector.replicate 12 1,
    groups := Vector.replicate 4 { level := 255, slope := 0 } }

/-- One name under each of several indices, index by index. -/
def fieldRows (names : List FieldName) (indices : List Nat) : List (FieldName × Nat) :=
  indices.flatMap fun i => names.map fun n => (n, i)

/-- The fields of the image after the bay number, in the order R172 gives: the rows of section 11.1,
a row with an index standing index by index, in ascending order of index. -/
def imageFields : List (FieldName × Nat) :=
  List.flatten
    [fieldRows [.advertPeriod, .ageLimit, .answerTimeout, .holdBeats, .guardMargin, .closingGrace,
       .levellerGrace, .laneCount, .highMark, .lowMark, .minimumDwell, .showTime] [0],
     fieldRows [.mapFirst, .mapLast, .mapHandling] [1, 2, 3, 4, 5, 6, 7, 8],
     fieldRows [.classD, .classP, .classL, .classK0, .classB0, .classKmax, .classBmax, .classGmax,
       .classKmin, .classH] [0, 1, 2, 3],
     fieldRows [.channelGroup] [1, 2, 3, 4, 5, 6, 7, 8, 9, 10, 11, 12],
     fieldRows [.groupLevel, .slopeClass] [1, 2, 3, 4]]

/-- A signed 32-bit number, most significant byte first (R172). -/
def signed32 (a b c d : Byte) : Int := (a ++ b ++ c ++ d : BitVec 32).toInt

/-- The 32-bit numbers of a run of bytes; a last part shorter than four bytes is left off. -/
def signedWords : List Byte → List Int
  | a :: b :: c :: d :: rest => signed32 a b c d :: signedWords rest
  | _ => []

/-- R173: the fields written in turn, each clamped to the nearer bound; the Bool says whether any
was clamped. -/
def loadFields : List ((FieldName × Nat) × Int) → ConfigRecord → Bool → ConfigRecord × Bool
  | [], c, clamped => (c, clamped)
  | ((f, i), v) :: rest, c, clamped =>
    loadFields rest (setField c f i (clampInt (fieldRange f).1 (fieldRange f).2 v))
      (clamped || !fieldInRange f v)

/-! ## Named indications (R151) -/

def plainIndication (n : IndicationName) (colour : Option Colour) (p : Pattern) (d : Display) : Indication :=
  { name := n, colour := colour, pattern := p, display := d, side := none, tier := none, lane := none,
    lanePattern := .off }

/-- The record of each named indication; `own` is the bay's own number, which GO_LANE displays. -/
def indicationOf (own : Nat) : IndicationName → Indication
  | .wait => plainIndication .wait (some .amber) .steady .dashes
  | .goDoor b => plainIndication (.goDoor b) (some .green) .steady (.number b)
  | .goLane k =>
    { plainIndication (.goLane k) (some .green) .steady (.number own) with
      lane := some k, lanePattern := .steady }
  | .goRemoteLane b => plainIndication (.goRemoteLane b) (some .green) .slow (.number b)
  | .except => plainIndication .except (some .red) .steady .blank
  | .fullTable => plainIndication .fullTable (some .red) .fast .dashes
  | .loadAt r sd t =>
    { plainIndication (.loadAt r sd t) (some .green) .steady (.number r) with
      side := some sd, tier := some t }
  | .walkinAt r sd t =>
    { plainIndication (.walkinAt r sd t) (some .green) .slow (.number r) with
      side := some sd, tier := some t }
  | .refused => plainIndication .refused (some .red) .fast .blank
  | .drain k b =>
    { plainIndication (.drain k b) none .off (.number b) with lane := some k, lanePattern := .slow }
  | .holding => plainIndication .holding (some .amber) .slow .blank
  | .closed => plainIndication .closed (some .red) .steady .dashes
  | .dark => plainIndication .dark none .off .blank

/-- The idle indication of a bay state and SUSPENDED (R151); no bay state yet is dark. -/
def idleIndication (st : Option BayState) (suspended : Bool) : IndicationName :=
  match st with
  | none => .dark
  | some .listen | some .unconfigured | some .blocked => .holding
  | some .inbound | some .outbound | some .closing => if suspended then .holding else .dark
  | some .empty | some .docked => .dark
  | some .closed => .closed

/-- Ramp time in ms of a slope class (R155). -/
def rampTime : Nat → Nat
  | 0 => 0
  | 1 => 100
  | 2 => 300
  | _ => 600

end Sys2Proof.Machine
end

