-- ==== Sys2Proof/Machine/State.lean ====
section
/-! DEFINITION. The state of the bay as plain data: one structure per block of section 0.5, what each
holds as its chapter lists it, the queue of waiting commands, and the state right after power-on
reset. Fields that the model adds to the spec's (the hand-over list, the serial number, the search
tokens) are named as such in their docstrings and in INVENTORY.md. -/

namespace Sys2Proof.Machine

/-! ## Door and cycle unit (chapter 1) -/

/-- A door line (section 1.1): its present value, its last-taken value and its change flag. -/
structure DoorLine where
  current : Bool
  lastTaken : Bool
  changed : Bool
  deriving DecidableEq, Repr

/-- A lane exit beam (R6); true while interrupted. -/
structure Beam where
  current : Bool
  lastTaken : Bool
  deriving DecidableEq, Repr

/-- The trunk binding (section 1.4); times are beats. -/
structure Binding where
  trailerId : Vector Byte 8
  cls : Nat
  arrivesLoaded : Bool
  near : Nat
  far : Option Nat
  readBeat : Nat
  cutOff : Nat
  farCut : Option Nat
  deriving DecidableEq, Repr

/-- The DCU's state (R19). `bayState` is none until the power-on configuration read ends. `returnDue` is the
model's mark that the leveller has not come back since a grace-expiry undock (R16). DEDUCED:
notes/assumptions/31.md. -/
structure Dcu where
  bayState : Option BayState
  suspended : Bool
  phase : Option Phase
  binding : Option Binding
  beat : Nat
  join : Option Nat
  cutOff : Option Nat
  farCut : Option Nat
  leveller : Option Nat
  closingGrace : Option Nat
  returnDue : Bool
  trailerPresent : DoorLine
  levellerDown : DoorLine
  doorOpen : DoorLine
  closePush : DoorLine
  beams : Vector Beam 4
  deriving DecidableEq, Repr

/-! ## Floor bus interface (chapter 2) -/

/-- The blocks that own frames and owed frames (R22, R34). -/
inductive Owner where
  | lpu | mlu | dsu
  deriving DecidableEq, Repr

/-- A frame a block has built: its owner, the model's number of its building (by which "oldest" is
judged, R34), the bay it is meant for (0 where no one bay is), and its body. -/
structure OwnedFrame where
  owner : Owner
  built : Nat
  target : Nat
  body : Body
  deriving DecidableEq, Repr

/-- A place of the transmit queue: an ADVERT, whose body is formed at each attempt (R25), or a
block's frame. -/
inductive Outgoing where
  | advert
  | owned (f : OwnedFrame)
  deriving DecidableEq, Repr

/-- The transmitter's four states (R20); BACKOFF holds its wait in slot times (R21). -/
inductive Transmitter where
  | idle
  | deferring
  | sending
  | backoff (slots : Nat)
  deriving DecidableEq, Repr

/-- What the bay last drove on the floor bus: nothing yet, the bytes of an attempt under way, the bytes of a
frame that went out whole, or a jam. -/
inductive LineOut where
  | quiet
  | attempt (bytes : List Byte)
  | whole (bytes : List Byte)
  | jam
  deriving DecidableEq, Repr

/-- The FBI's state (R38), and its output. -/
structure Fbi where
  tx : List Outgoing
  transmitter : Transmitter
  inHand : Bool
  collisions : Nat
  rx : List Frame
  seq : Nat
  lastHeard : Vector (Option Nat) 63
  mute : Bool
  debt : Nat
  owedAdvert : Bool
  restartMark : Bool
  turn : Owner
  lineOut : LineOut
  sentAs : Nat
  deriving DecidableEq, Repr

/-! ## Peer directory (chapter 3) -/

/-- What an entry describes, with the fields of its kind (section 3.1). -/
inductive EntryKind where
  | trailer (cutOff : Nat) (margin : Nat) (openings : Openings)
  | lane (number : Nat) (fill : Nat) (high : Bool)
  deriving DecidableEq, Repr

/-- A valid directory entry; an invalid one is `none`. -/
structure Entry where
  doubtful : Bool
  dest : Nat
  bay : Nat
  kind : EntryKind
  age : Nat
  deriving DecidableEq, Repr

/-- A last-ask-heard slot (section 3.3). -/
structure AskSlot where
  seq : Nat
  target : Nat
  pallet : Nat
  kind : PlaceKind
  dest : Nat
  height : HeightClass
  weight : Nat
  deriving DecidableEq, Repr

/-- The PDR's state: way w of set n is element 4n + w - 1 of `entries`; the slot of bay b is element
b - 1 of `heard`. -/
structure Pdr where
  entries : Vector (Option Entry) 128
  heard : Vector (Option AskSlot) 63
  deriving DecidableEq, Repr

/-! ## Discharge unit (chapter 4) -/

/-- An owed frame with the number of its building. -/
structure Owed (α : Type) where
  built : Nat
  item : α
  deriving DecidableEq, Repr

/-- An owed RELEASE of the DSU, with the bay it is for (R79, R81). -/
structure OwedRelease where
  built : Nat
  target : Nat
  body : ReleaseBody
  deriving DecidableEq, Repr

inductive RecordState where
  | seeking | asked | guided | orphan | exception
  deriving DecidableEq, Repr

/-- The steps of a search that make a request (R64). -/
inductive SearchStep where
  | trailerStage | ownAssigned | peerAssigned | ownFree | peerFree
  deriving DecidableEq, Repr

/-- The search step outstanding, with the model's token of that one request. -/
structure Search where
  step : SearchStep
  token : Nat
  deriving DecidableEq, Repr

/-- A pallet record (section 4.1). `askKind` is the place kind of the record's ask, which R69 and R70
compare with a GRANT's. DEDUCED: notes/assumptions/21.md. -/
structure PalletRecord where
  pallet : Nat
  dest : Nat
  weight : Nat
  estimated : Bool
  height : HeightClass
  stackable : Bool
  handling : Handling
  state : RecordState
  excluded : List Nat
  trailerAsks : Nat
  totalAsks : Nat
  search : Option Search
  seq : Option Nat
  target : Option Nat
  place : Option Place
  askKind : Option PlaceKind
  owedAsk : Option (Owed AskBody)
  answerBy : Option Nat
  guardBy : Option Nat
  retryAt : Option Nat
  owedRelease : Option OwedRelease
  indication : Option Indication
  shown : Bool
  deriving DecidableEq, Repr

/-- A slot of the ask table (R58). -/
inductive Slot where
  | free
  | record (r : PalletRecord)
  | lone (o : OwedRelease)
  deriving DecidableEq, Repr

/-- Which block borrowed an ask sequence value (R59). -/
inductive Borrower where
  | dsu | mlu
  deriving DecidableEq, Repr

structure Dsu where
  slots : Vector Slot 8
  seq : Nat
  borrowers : Vector (Option Borrower) 256
  deriving DecidableEq, Repr

/-! ## Load plan unit (chapters 5, 6, 7, 10) -/

structure Landed where
  pallet : Nat
  grant : Nat
  measured : Nat
  height : HeightClass
  stackable : Bool
  drop : Phase
  asker : Nat
  deriving DecidableEq, Repr

/-- A reservation (section 5.2); the bay's own drain has asker 0 and no sequence. -/
structure Reservation where
  pallet : Nat
  asker : Nat
  seq : Option Nat
  grant : Nat
  height : HeightClass
  stackable : Bool
  drop : Phase
  expiry : Nat
  deriving DecidableEq, Repr

inductive Tier where
  | landed (l : Landed)
  | reserved (r : Reservation)
  deriving DecidableEq, Repr

inductive PlanState where
  | absent | opened | final
  deriving DecidableEq, Repr

/-- The plan (sections 5.1 to 5.6): element 2(row - 1) + side of `floorStacks` is a position's stack, from
tier 1 upward. -/
structure Plan where
  state : PlanState
  cls : Nat
  near : Nat
  far : Option Nat
  phase : Option Phase
  face : Nat
  floorStacks : Vector (List Tier) 26
  payload : Int
  moment : Int
  overLimit : Bool
  mismatch : Bool
  deriving DecidableEq, Repr

/-- The closing record (R167): what the CLOSE carries, and the two fields it does not. -/
structure ClosingRecord where
  body : CloseBody
  mismatch : Bool
  formedAt : Nat
  deriving DecidableEq, Repr

/-- The LPU's state (R100): `owed` is the list of R130, `owedClose` its one CLOSE place. -/
structure Lpu where
  plan : Plan
  binding : Option Binding
  closing : Option ClosingRecord
  owed : List OwnedFrame
  owedClose : Option OwnedFrame
  deriving DecidableEq, Repr

/-! ## Marshalling lane unit (chapter 8) -/

structure Item where
  pallet : Nat
  weight : Nat
  estimated : Bool
  height : HeightClass
  stackable : Bool
  foreign : Bool
  deriving DecidableEq, Repr

/-- A pending put; a self-put has the own bay number as asker and no sequence. -/
structure Put where
  pallet : Nat
  asker : Nat
  seq : Option Nat
  weight : Nat
  estimated : Bool
  height : HeightClass
  stackable : Bool
  expiry : Nat
  deriving DecidableEq, Repr

inductive DrainState where
  | seeking | asked | granted | inTransit
  deriving DecidableEq, Repr

/-- The two answers a drain search waits for, as they come (R140), under the search's token. -/
structure DrainSearch where
  token : Nat
  found : Option (List TrailerCandidate)
  own : Option (Option OwnSummary)
  deriving DecidableEq, Repr

/-- A drain record (section 8.4), and the search it waits on. -/
structure Drain where
  pallet : Nat
  state : DrainState
  excluded : List Nat
  target : Option Nat
  seq : Option Nat
  place : Option Place
  deadline : Option Nat
  retryAt : Option Nat
  owedAsk : Option (Owed AskBody)
  search : Option DrainSearch
  deriving DecidableEq, Repr

/-- A lane record (section 8.1). -/
structure Lane where
  number : Nat
  assignment : Assignment
  dest : Option Nat
  high : Bool
  noPut : Bool
  blocked : Bool
  items : List Item
  puts : List Put
  drain : Option Drain
  deriving DecidableEq, Repr

/-- The MLU's state (R148): the records of the lanes present, in number order, and its owed list. -/
structure Mlu where
  lanes : List Lane
  owed : List OwnedFrame
  deriving DecidableEq, Repr

/-! ## Guidance unit (chapter 9) -/

/-- A lamp channel: the pattern it follows, its target now, its drive in 600ths of a level unit, the
level and ramp time latched at its last change of target (R155), and its two fault flags. DESIGN CHOICE:
notes/assumptions/15.md. -/
structure Channel where
  pattern : Pattern
  on : Bool
  drive : Nat
  level : Nat
  ramp : Nat
  openFault : Bool
  shortFault : Bool
  deriving DecidableEq, Repr

/-- The GDU's state (section 9.3, R159). `request` is the request the current indication was committed
from, none while the idle indication is current. -/
structure Gdu where
  current : Indication
  request : Option IndicationRequest
  commitBeat : Nat
  buffer : Option IndicationRequest
  fifo : List IndicationRequest
  dwellRunning : Bool
  dwell : Option Nat
  showBy : Option Nat
  channels : Vector Channel 12
  deriving DecidableEq, Repr

/-! ## Service and configuration unit (chapter 11) -/

/-- The names of the service requests (R175 to R181). -/
inductive RequestName where
  | sensorRead | declareEmpty | readDirectoryEntry | removeRecord | readAskTable | readPlan
  | clearHold | readLanes | clearLane | clearLamp | readClosingRecord | floorReset | sealConfig
  | writeField | readField | readState | readNotices | noticeEnable | noticeDisable | clearNotice
  | unknown
  deriving DecidableEq, Repr

inductive AnswerCode where
  | ok | range | sealed | state | unknown
  deriving DecidableEq, Repr

/-- What READ PLAN returns (R99). -/
structure PlanReport where
  state : PlanState
  binding : Option Binding
  phase : Option Phase
  face : Nat
  band : List Nat
  floorStacks : Vector (List Tier) 26
  payload : Int
  moment : Int
  loads : Loads
  overLimit : Bool
  mismatch : Bool
  closing : Option ClosingRecord
  deriving DecidableEq, Repr

/-- The GDU's part of READ STATE (R160). -/
structure GduReport where
  current : Indication
  request : Option IndicationRequest
  commitBeat : Nat
  buffer : Option IndicationRequest
  fifo : List IndicationRequest
  dwellRunning : Bool
  dwell : Option Nat
  showBy : Option Nat
  openFaults : List Bool
  shortFaults : List Bool
  channelGroup : Vector Nat 12
  groups : Vector IntensityGroup 4
  redSubstitute : Bool
  deriving DecidableEq, Repr

/-- What READ STATE gathers (R178). -/
structure StateReport where
  beat : Nat
  bayState : Option BayState
  phase : Option Phase
  suspended : Bool
  binding : Option Binding
  join : Option Nat
  cutOff : Option Nat
  farCut : Option Nat
  leveller : Option Nat
  closingGrace : Option Nat
  mute : Bool
  restartMark : Bool
  debt : Nat
  seq : Nat
  txCount : Nat
  rxCount : Nat
  lastHeard : Vector (Option Nat) 63
  gdu : GduReport
  sealed : Bool
  fromPlug : Bool
  deriving DecidableEq, Repr

/-- The data an answer carries. -/
inductive AnswerData where
  | nothing
  | sensors (trailerPresent levellerDown doorOpen closePush : Bool × Bool)
  | entry (e : Option Entry)
  | askTable (seq : Nat) (slots : Vector Slot 8)
  | plan (r : PlanReport)
  | lanes (l : List Lane)
  | closing (c : Option ClosingRecord)
  | field (v : Int)
  | state (r : StateReport)
  | notices (pending enabled : Vector Bool 19) (line : Bool)
  deriving DecidableEq, Repr

/-- An answer on the service line (section 11.2). -/
structure Answer where
  request : RequestName
  code : AnswerCode
  data : AnswerData
  deriving DecidableEq, Repr

/-- The SCU's state (R182). `answer` is the answer being sent, present while a request is held. -/
structure Scu where
  config : ConfigRecord
  sealed : Bool
  fromPlug : Bool
  pending : Vector Bool 19
  enabled : Vector Bool 19
  noticeLine : Bool
  answer : Option Answer
  deriving DecidableEq, Repr

/-! ## The machine -/

/-- The whole bay. `pending` is the queue of commands from outside, first in first out. `handed` is the
model's list of the events one block has handed another and which have not been taken yet
(notes/assumptions/2.md). `serial` is the model's own counter: it numbers the frames built and the
searches begun, and feeds the free value. `resetLine` is the level of the reset line. -/
structure State where
  pending : List Instr
  handed : List Instr
  serial : Nat
  resetLine : Bool
  dcu : Dcu
  fbi : Fbi
  pdr : Pdr
  dsu : Dsu
  lpu : Lpu
  mlu : Mlu
  gdu : Gdu
  scu : Scu
  deriving DecidableEq, Repr

/-- No command of this block faults: the spec gives every event an effect, if only none. -/
inductive Fault where
  deriving DecidableEq, Repr

/-- Why a command has no meaning. -/
inductive Refusal where
  /-- Raised by an arm of `exec` whose command has no meaning yet; safe. No arm is so. -/
  | notModelled (mnemonic : String)
  deriving DecidableEq, Repr

/-! ## The reset values -/

/-- A line or beam whose three values are all false. -/
def quietLine : DoorLine := { current := false, lastTaken := false, changed := false }

/-- R19. -/
def resetDcu : Dcu :=
  { bayState := none, suspended := false, phase := none, binding := none, beat := 0, join := none,
    cutOff := none, farCut := none, leveller := none, closingGrace := none, returnDue := false,
    trailerPresent := quietLine, levellerDown := quietLine, doorOpen := quietLine,
    closePush := quietLine, beams := Vector.replicate 4 { current := false, lastTaken := false } }

/-- R38. -/
def resetFbi : Fbi :=
  { tx := [], transmitter := .idle, inHand := false, collisions := 0, rx := [], seq := 0,
    lastHeard := Vector.replicate 63 none, mute := false, debt := 0, owedAdvert := false,
    restartMark := true, turn := .lpu, lineOut := .quiet, sentAs := 0 }

/-- R41. -/
def resetPdr : Pdr := { entries := Vector.replicate 128 none, heard := Vector.replicate 63 none }

/-- R59. -/
def resetDsu : Dsu :=
  { slots := Vector.replicate 8 .free, seq := 0, borrowers := Vector.replicate 256 none }

/-- The plan while ABSENT (section 5.1, R100). DESIGN CHOICE: notes/assumptions/19.md. -/
def absentPlan : Plan :=
  { state := .absent, cls := 0, near := 0, far := none, phase := none, face := 0,
    floorStacks := Vector.replicate 26 [], payload := 0, moment := 0, overLimit := false, mismatch := false }

/-- R100. -/
def resetLpu : Lpu :=
  { plan := absentPlan, binding := none, closing := none, owed := [], owedClose := none }

/-- R148, with no lane present yet. -/
def resetMlu : Mlu := { lanes := [], owed := [] }

/-- R159. -/
def resetChannel : Channel :=
  { pattern := .off, on := false, drive := 0, level := 0, ramp := 0, openFault := false,
    shortFault := false }

def resetGdu : Gdu :=
  { current := indicationOf 0 .dark, request := none, commitBeat := 0, buffer := none, fifo := [],
    dwellRunning := false, dwell := none, showBy := none, channels := Vector.replicate 12 resetChannel }

/-- R182: the state at the start of the power-on configuration read. -/
def resetScu : Scu :=
  { config := defaultConfig, sealed := false, fromPlug := false, pending := Vector.replicate 19 false,
    enabled := Vector.replicate 19 true, noticeLine := false, answer := none }

/-- The machine right after power-on reset, the configuration read under way (R8, R19, R182). DESIGN CHOICE for
what the spec does not give: notes/assumptions/13.md. -/
def State.reset : State :=
  { pending := [], handed := [], serial := 0, resetLine := false, dcu := resetDcu, fbi := resetFbi,
    pdr := resetPdr, dsu := resetDsu, lpu := resetLpu, mlu := resetMlu, gdu := resetGdu, scu := resetScu }

end Sys2Proof.Machine
end

