-- ==== Sys2Proof/Machine/Ops.lean ====
section
/-! DEFINITION. The operations every block shares: taking an event, handing an event to another block,
raising a notice, requesting an indication, deadlines, offering a frame to the transmit queue, and
answering on the service line. -/

namespace Sys2Proof.Machine

/-! ## Reading the state -/

/-- "Now" (section 0.7). -/
def State.now (s : State) : Nat := s.dcu.beat

/-- The configured bay number; 0 means none (section 0.7). -/
def State.own (s : State) : Nat := s.scu.config.bay

/-- Whether a bay number in a frame is this bay's; 0 is no bay (section 0.7). -/
def State.isOwn (s : State) (b : Nat) : Bool := decide (b ≠ 0) && decide (b = s.own)

def State.inState (s : State) (st : BayState) : Bool := decide (s.dcu.bayState = some st)

/-- The power-on configuration read is under way (R8, R172). -/
def State.reading (s : State) : Bool := s.dcu.bayState.isNone

/-- A set deadline whose beat the counter has reached; a cleared one never expires (R7). DEDUCED:
notes/assumptions/3.md. -/
def due (deadline : Option Nat) (now : Nat) : Bool :=
  match deadline with
  | some b => decide (b ≤ now)
  | none => false

/-- The advert period in force (R7, R174). -/
def State.advertPeriod (s : State) : Nat :=
  if s.inState .unconfigured then 10 else s.scu.config.advertPeriod

/-- The directory age limit in force (R55, R174). -/
def State.ageLimit (s : State) : Nat :=
  if s.inState .unconfigured then 3 else s.scu.config.ageLimit

/-- The lane count in force (R174); no lane is present before the configuration is read. -/
def State.laneCount (s : State) : Nat :=
  if s.inState .unconfigured || s.reading then 0 else s.scu.config.laneCount

/-- The minimum dwell in force (section 9.3, R174). -/
def State.minimumDwell (s : State) : Nat :=
  if s.inState .unconfigured then 2 else s.scu.config.minimumDwell

/-- The show time in force (section 9.3, R174). -/
def State.showTime (s : State) : Nat :=
  if s.inState .unconfigured then 15 else s.scu.config.showTime

/-! ## Taking an event -/

/-- An event from outside the bay. While the reset line is asserted the bay takes no events (R179). DEDUCED:
notes/assumptions/7.md. -/
def event (s : State) (f : State → State) : Host.Outcome State Fault Refusal :=
  .next (if s.resetLine then s else f s)

/-- The state with one hand-over of `c` taken off the list, if one waits there. -/
def State.drop (s : State) (c : Instr) : State := { s with handed := s.handed.erase c }

/-- An event that one block hands another: its hand-over, if it waits, is taken off the list, and the
event has its effect. While the reset line is asserted it is lost (R179). DESIGN CHOICE:
notes/assumptions/2.md. -/
def taken (c : Instr) (s : State) (f : State → State) : Host.Outcome State Fault Refusal :=
  .next (if s.resetLine then s.drop c else f (s.drop c))

/-! ## Handing on -/

/-- An event handed to a block, behind those already handed. -/
def State.hand (s : State) (c : Instr) : State := { s with handed := s.handed ++ [c] }

/-- Several events handed, in order. -/
def State.handAll (s : State) (l : List Instr) : State := { s with handed := s.handed ++ l }

/-- An event that falls at once, as the next event of its block (R7). -/
def State.handNext (s : State) (c : Instr) : State := { s with handed := c :: s.handed }

/-- A raise hands the SCU a notice kind (R180). -/
def State.raiseNotice (s : State) (k : NoticeKind) : State := s.hand (.noticeRaise k)

def State.raiseIf (s : State) (b : Bool) (k : NoticeKind) : State := if b then s.raiseNotice k else s

/-- An indication requested of the GDU (R151, R152). -/
def State.indicate (s : State) (source : Block) (n : IndicationName) (pallet : Option Nat) : State :=
  s.hand (.indicationRequest { source := source, indication := indicationOf s.own n, pallet := pallet })

/-- R7: a deadline set to a value the counter has already reached expires at once. -/
def State.expireAtOnce (s : State) (deadline : Nat) (c : Instr) : State :=
  if deadline ≤ s.now then s.handNext c else s

/-- The serial number advanced by one. DESIGN CHOICE: notes/assumptions/4.md. -/
def State.bump (s : State) : State := { s with serial := s.serial + 1 }

/-- R95 and R113: whole minutes from now to a beat, a part of a minute counting as one, at most 600. -/
def minutesUntil (beat now : Nat) : Nat := min ((beat - now + 59) / 60) 600

/-! ## The transmit queue (R32, R33) -/

inductive OfferResult where
  | placed | noRoom | muted
  deriving DecidableEq, Repr

/-- What an offer of a block's frame meets (R31, R32, R33). A muted queue answers "muted" first
(notes/assumptions/8.md). -/
def State.offerResult (s : State) : OfferResult :=
  if s.fbi.mute then .muted
  else if s.reading || s.inState .listen || s.inState .unconfigured || s.fbi.restartMark ||
      decide (txCapacity ≤ s.fbi.tx.length) then .noRoom
  else .placed

/-- A frame at the tail of the transmit queue; a frame in an empty queue puts the transmitter in
DEFER (R20). -/
def State.placeFrame (s : State) (o : Outgoing) : State :=
  { s with fbi := { s.fbi with
      tx := s.fbi.tx ++ [o]
      transmitter := if s.fbi.transmitter = .idle then .deferring else s.fbi.transmitter } }

/-- The frame that an owner builds now. -/
def State.frameNow (s : State) (owner : Owner) (target : Nat) (b : Body) : OwnedFrame :=
  { owner := owner, built := s.serial, target := target, body := b }

/-- A GRANT or REFUSE offered: placed, or dropped (R32). -/
def State.offerAnswer (s : State) (owner : Owner) (target : Nat) (b : Body) : State :=
  match s.offerResult with
  | .placed => s.bump.placeFrame (.owned (s.frameNow owner target b))
  | _ => s

/-! ### Owed frames of the LPU (R130) -/

/-- A PLACED or RELEASE at the tail of the LPU's owed list, or dropped when the list holds 8. -/
def State.lpuOwe (s : State) (f : OwnedFrame) : State :=
  if s.lpu.owed.length < owedCapacity then { s with lpu := { s.lpu with owed := s.lpu.owed ++ [f] } } else s

/-- A CLOSE in the LPU's CLOSE place; of two trailers' CLOSEs the earlier is dropped. -/
def State.lpuOweClose (s : State) (f : OwnedFrame) : State :=
  match s.lpu.owedClose with
  | some g => if g.built ≤ f.built then { s with lpu := { s.lpu with owedClose := some f } } else s
  | none => { s with lpu := { s.lpu with owedClose := some f } }

/-- A PLACED or RELEASE of the LPU offered: placed, owed, or dropped when muted (R130, R131). -/
def State.lpuOffer (s : State) (target : Nat) (b : Body) : State :=
  match s.offerResult with
  | .placed => s.bump.placeFrame (.owned (s.frameNow .lpu target b))
  | .noRoom => s.bump.lpuOwe (s.frameNow .lpu target b)
  | .muted => s

/-- A CLOSE offered: placed, owed, or dropped when muted (R168). -/
def State.lpuOfferClose (s : State) (b : CloseBody) : State :=
  match s.offerResult with
  | .placed => s.bump.placeFrame (.owned (s.frameNow .lpu 0 (.close b)))
  | .noRoom => s.bump.lpuOweClose (s.frameNow .lpu 0 (.close b))
  | .muted => s

/-! ### Owed frames of the MLU (R147) -/

/-- A PLACED or RELEASE at the tail of the MLU's owed list, or dropped when the list holds 8. -/
def State.mluOwe (s : State) (f : OwnedFrame) : State :=
  if s.mlu.owed.length < owedCapacity then { s with mlu := { s.mlu with owed := s.mlu.owed ++ [f] } } else s

/-- A PLACED or RELEASE of the MLU offered: placed, owed, or dropped when muted. -/
def State.mluOffer (s : State) (target : Nat) (b : Body) : State :=
  match s.offerResult with
  | .placed => s.bump.placeFrame (.owned (s.frameNow .mlu target b))
  | .noRoom => s.bump.mluOwe (s.frameNow .mlu target b)
  | .muted => s

/-! ## Lane records, and a drain search's two answers (R140) -/

/-- The lane record of a number. -/
def State.lane? (s : State) (k : Nat) : Option Lane := s.mlu.lanes.find? fun l => decide (l.number = k)

/-- The lane record of a number changed. -/
def State.updateLane (s : State) (k : Nat) (f : Lane → Lane) : State :=
  { s with mlu := { s.mlu with lanes := s.mlu.lanes.map fun l => if l.number = k then f l else l } }

/-- A change of a lane's drain record, if it has one. -/
def State.updateDrain (s : State) (k : Nat) (f : Drain → Drain) : State :=
  s.updateLane k fun l => { l with drain := l.drain.map f }

/-- The search a lane's drain waits on, if it bears the token. -/
def State.drainSearch? (s : State) (k token : Nat) : Option DrainSearch :=
  ((s.lane? k).bind fun l => l.drain.bind fun d => d.search).filter fun q => decide (q.token = token)

/-- R140: an answer of the PDR or the LPU joined to the search it belongs to; when both have come the
MLU takes them together. An answer to a search no longer waiting is disregarded. -/
def State.joinDrain (s : State) (k token : Nat) (f : DrainSearch → DrainSearch) : State :=
  match s.drainSearch? k token with
  | none => s
  | some q =>
    let s' := s.updateDrain k fun d => { d with search := some (f q) }
    match (f q).found, (f q).own with
    | some found, some own => s'.hand (.drainCandidatesAnswer k token found own)
    | _, _ => s'

/-! ## The service line (R175) -/

/-- The state with an answer being sent. -/
def State.answer (s : State) (r : RequestName) (code : AnswerCode) (data : AnswerData) : State :=
  { s with scu := { s.scu with answer := some { request := r, code := code, data := data } } }

/-- A request that arrives on the service line: discarded while the bay is held in reset, during the
power-on configuration read, and while an earlier request is held; carried out otherwise (R175). DESIGN CHOICE:
notes/assumptions/9.md. -/
def request (s : State) (f : State → State) : Host.Outcome State Fault Refusal :=
  .next (if s.resetLine || s.reading || s.scu.answer.isSome then s else f s)

end Sys2Proof.Machine
end

