-- ==== Sys2Proof/Machine/Flags.lean ====
section
/-! DEFINITION. Marks and flags the bay computes: the notice line from the pending flags and the
enables (R180), a lane's high flag (R133), and the faults of a lamp channel (R156, R157). The load
marks OVER and LIGHT_NOSE are in Machine/Loads.lean. -/

namespace Sys2Proof.Machine

/-- R180: asserted while at least one kind has both its pending flag and its enable set. -/
def lineAsserted (pending enabled : Vector Bool 19) : Bool :=
  (pending.toList.zip enabled.toList).any fun x => x.1 && x.2

/-- The SCU with its notice line judged from the flags and the enables. -/
def judgedLine (u : Scu) : Scu := { u with noticeLine := lineAsserted u.pending u.enabled }

/-- A kind's pending flag set or cleared, and the line judged again (R180, R181). -/
def withPending (u : Scu) (k : NoticeKind) (b : Bool) : Scu :=
  judgedLine { u with pending := u.pending.setIfInBounds (noticeIndex k) b }

/-- A kind's enable set or cleared, and the line judged again (R181). -/
def withEnable (u : Scu) (k : NoticeKind) (b : Bool) : Scu :=
  judgedLine { u with enabled := u.enabled.setIfInBounds (noticeIndex k) b }

def pendingFlag (u : Scu) (k : NoticeKind) : Bool := u.pending[noticeIndex k]?.getD false

/-- The fill of a lane: items plus pending puts (section 8.1). -/
def laneFill (l : Lane) : Nat := l.items.length + l.puts.length

/-- R133: a low mark at or above the high mark is taken as one less than the high mark. -/
def lowMarkInUse (c : ConfigRecord) : Nat :=
  if c.highMark ≤ c.lowMark then c.highMark - 1 else c.lowMark

/-- R133: the high flag after a change; between the marks it keeps its value. -/
def highAfter (c : ConfigRecord) (l : Lane) : Bool :=
  if c.highMark ≤ laneFill l && !l.high then true
  else if laneFill l ≤ lowMarkInUse c && l.high then false
  else l.high

/-- A channel with a fault flag set. -/
def faulted (c : Channel) : Bool := c.openFault || c.shortFault

/-- R157: the RED substitute is in force while channel 1 has a flag set. -/
def redFaulted (g : Gdu) : Bool :=
  match g.channels[0]? with
  | some c => faulted c
  | none => false

end Sys2Proof.Machine
end

