-- ==== Sys2Proof/Machine/Pdr.lean ====
section
/-! DEFINITION. The peer directory (chapter 3): insertion and eviction, adverts, the last ask heard,
snooping, doubt, aging and the candidate requests. -/

namespace Sys2Proof.Machine

/-- The key of an entry: destination, bay, and the lane number of a LANE entry (section 3.1). -/
structure EntryKey where
  dest : Nat
  bay : Nat
  lane : Option Nat
  deriving DecidableEq, Repr

def entryKey (e : Entry) : EntryKey :=
  { dest := e.dest, bay := e.bay,
    lane := match e.kind with
      | .trailer _ _ _ => none
      | .lane n _ _ => some n }

def isTrailerEntry (e : Entry) : Bool :=
  match e.kind with
  | .trailer _ _ _ => true
  | .lane _ _ _ => false

/-- R39: the set of a destination. -/
def setOf (dest : Nat) : Nat := dest % 32

/-- The four ways of a set, lowest-numbered first, as indices of the entries. -/
def waysOf (setNo : Nat) : List Nat := [4 * setNo, 4 * setNo + 1, 4 * setNo + 2, 4 * setNo + 3]

def entryAt (p : Pdr) (i : Nat) : Option Entry := p.entries[i]?.getD none

def putEntry (p : Pdr) (i : Nat) (e : Entry) : Pdr :=
  { p with entries := p.entries.setIfInBounds i (some e) }

/-- Every entry changed by `f`, which may make it invalid. -/
def mapEntries (p : Pdr) (f : Entry → Option Entry) : Pdr :=
  { p with entries := p.entries.map fun e => e.bind f }

/-- The way of a set that holds a valid entry with a key (R39). -/
def findWay (p : Pdr) (k : EntryKey) : Option Nat :=
  (waysOf (setOf k.dest)).find? fun i =>
    match entryAt p i with
    | some e => decide (entryKey e = k)
    | none => false

/-- R40 case 3: of two ways with their ages, the one evicted first is the older, then the lower. -/
def evictBefore (a b : Nat × Nat) : Bool := decide (b.2 < a.2)

/-- R40: the way an insertion takes: the key's own, else the lowest invalid way, else the eligible way
of highest age (the lowest among equals); none when no way is eligible. -/
def wayFor (p : Pdr) (kept : List Nat) (k : EntryKey) : Option Nat :=
  match findWay p k with
  | some i => some i
  | none =>
    match (waysOf (setOf k.dest)).find? fun i => (entryAt p i).isNone with
    | some i => some i
    | none =>
      let eligible := (waysOf (setOf k.dest)).filter fun i => !kept.contains i
      (firstBest evictBefore (eligible.map fun i => (i, ((entryAt p i).map Entry.age).getD 0))).map
        Prod.fst

/-- The directory with an entry inserted by R40, and the ways this ADVERT has written. -/
def insertEntry (p : Pdr) (kept : List Nat) (e : Entry) : Pdr × List Nat :=
  match wayFor p kept (entryKey e) with
  | some i => (putEntry p i e, i :: kept)
  | none => (p, kept)

/-! ## Adverts (R42 to R46) -/

/-- R45: the four openings clamped to 4. -/
def clampedOpenings (o : Openings) : Openings := openingsOf fun h => min (openingsFor o h) 4

/-- R45, R46: the TRAILER entry of an ADVERT. -/
def advertTrailer (b : Nat) (a : AdvertBody) : Entry :=
  { doubtful := false, dest := a.accepting, bay := b, age := 0,
    kind := .trailer (min a.cutOff 600) a.margin (clampedOpenings a.openings) }

/-- R44: the destination a lane of an ADVERT is entered under, or none when it is skipped. -/
def advertLaneDest (l : LaneAdvert) : Option Nat :=
  if 1 ≤ l.number ∧ l.number ≤ 4 then
    match l.assignment with
    | .suspect => none
    | .free => some 0
    | .assigned => if validDest l.dest then some l.dest else none
  else none

/-- R45, R46: the LANE entry of an ADVERT's lane under a destination. -/
def advertLane (b dest : Nat) (l : LaneAdvert) : Entry :=
  { doubtful := false, dest := dest, bay := b, age := 0,
    kind := .lane l.number (min l.fill 8) l.high }

/-- R44: the lanes of an ADVERT inserted in turn; the keys named are returned with the directory. -/
def insertLanes (b : Nat) : List LaneAdvert → Pdr → List Nat → List EntryKey → Pdr × List EntryKey
  | [], p, _, named => (p, named)
  | l :: rest, p, kept, named =>
    match advertLaneDest l with
    | none => insertLanes b rest p kept named
    | some dest =>
      let e := advertLane b dest l
      insertLanes b rest (insertEntry p kept e).1 (insertEntry p kept e).2 (named ++ [entryKey e])

/-- R43: whether the ADVERT names a trailer. -/
def advertsTrailer (a : AdvertBody) : Bool := decide (a.state = .outbound) && validDest a.accepting

/-- R42: every entry of a bay made invalid. -/
def forgetBay (p : Pdr) (b : Nat) : Pdr := mapEntries p fun e => if e.bay = b then none else some e

/-- R43: the trailer part of an ADVERT, with the ways written: the entry is inserted, then the bay's other TRAILER
entries go. DESIGN CHOICE: notes/assumptions/38.md. -/
def trailerPart (p : Pdr) (b : Nat) (a : AdvertBody) : Pdr × List Nat :=
  if advertsTrailer a then
    let r := insertEntry p [] (advertTrailer b a)
    (mapEntries r.1 fun e =>
      if e.bay = b ∧ isTrailerEntry e ∧ e.dest ≠ a.accepting then none else some e, r.2)
  else (mapEntries p fun e => if e.bay = b ∧ isTrailerEntry e then none else some e, [])

/-- R44: the lane part: the named lanes inserted, then every other LANE entry of the bay removed. -/
def lanePart (p : Pdr) (kept : List Nat) (b : Nat) (a : AdvertBody) : Pdr :=
  let r := insertLanes b a.lanes p kept []
  mapEntries r.1 fun e =>
    if e.bay = b ∧ !isTrailerEntry e ∧ entryKey e ∉ r.2 then none else some e

/-- R42 to R46 in order. -/
def takeAdvert (p : Pdr) (b : Nat) (restart : Bool) (a : AdvertBody) : Pdr :=
  let r := trailerPart (if restart then forgetBay p b else p) b a
  lanePart r.1 r.2 b a

/-! ## The last ask heard (R47) -/

def askSlotOf (a : AskBody) : AskSlot :=
  { seq := a.seq, target := a.target, pallet := a.pallet, kind := a.kind, dest := a.dest,
    height := a.height, weight := a.weight }

/-- The slot of a bay number 1 to 63. -/
def slotOf (p : Pdr) (b : Nat) : Option AskSlot := if b = 0 then none else p.heard[b - 1]?.getD none

def fillSlot (p : Pdr) (b : Nat) (a : AskBody) : Pdr :=
  if b = 0 then p else { p with heard := p.heard.setIfInBounds (b - 1) (some (askSlotOf a)) }

/-! ## Snooping (R48 to R52) -/

/-- R48, R49: the gross margin of a bay's TRAILER entry. -/
def snoopMargin (p : Pdr) (b margin : Nat) : Pdr :=
  mapEntries p fun e =>
    match e.kind with
    | .trailer c _ o => if e.bay = b then some { e with kind := .trailer c margin o } else some e
    | .lane _ _ _ => some e

/-- R48, R49: only a TRAILER place changes a margin. -/
def snoopPlace (p : Pdr) (b : Nat) (place : Place) (margin : Nat) : Pdr :=
  match placeKind place with
  | .trailer => snoopMargin p b margin
  | .lane => p

/-- R50: the slot that a REFUSE from `b` matches. -/
def matchedSlot (p : Pdr) (b : Nat) (r : RefuseBody) : Option AskSlot :=
  (slotOf p r.asker).filter fun t =>
    decide (t.target = b) && decide (t.seq = r.seq) && decide (t.pallet = r.pallet) &&
      decide (t.kind = .trailer)

/-- A change of the TRAILER entry of a bay for a destination. -/
def changeTrailer (p : Pdr) (b dest : Nat) (f : Nat → Nat → Openings → Option EntryKind) : Pdr :=
  mapEntries p fun e =>
    match e.kind with
    | .trailer c m o =>
      if e.bay = b ∧ e.dest = dest then (f c m o).map fun k => { e with kind := k } else some e
    | .lane _ _ _ => some e

/-- R50, R51: what a matching REFUSE does to the sender's TRAILER entry for the slot's destination. -/
def snoopRefuse (p : Pdr) (b : Nat) (r : RefuseBody) : Pdr :=
  match matchedSlot p b r with
  | none => p
  | some t =>
    match r.reason with
    | .closed => changeTrailer p b t.dest fun _ _ _ => none
    | .wrongDest => changeTrailer p b t.dest fun _ _ _ => none
    | .full => changeTrailer p b t.dest fun c m o => some (.trailer c m (openingsWithout o t.height))
    | .gross => changeTrailer p b t.dest fun c m o => some (.trailer c (min m (t.weight - 1)) o)
    | .order => p
    | .duplicate => p
    | .axle => p
    | .noLane => p
    | .busy => p
    | .held => p

/-- R52: every TRAILER entry of a bay made invalid. -/
def forgetTrailers (p : Pdr) (b : Nat) : Pdr :=
  mapEntries p fun e => if e.bay = b ∧ isTrailerEntry e then none else some e

/-! ## Doubt and aging (R53 to R55) -/

def doubtEvery (p : Pdr) : Pdr := mapEntries p fun e => some { e with doubtful := true }

def doubtBay (p : Pdr) (b : Nat) : Pdr :=
  mapEntries p fun e => if e.bay = b then some { e with doubtful := true } else some e

def ageEntries (p : Pdr) (limit : Nat) : Pdr :=
  mapEntries p fun e => if limit ≤ e.age then none else some { e with age := e.age + 1 }

/-! ## Candidates (R56, R57) -/

/-- The valid, not doubtful entries of a destination, in way order. -/
def trustedEntries (p : Pdr) (dest : Nat) : List Entry :=
  (waysOf (setOf dest)).filterMap fun i =>
    (entryAt p i).filter fun e => decide (e.dest = dest) && !e.doubtful

def trailerCandidates (p : Pdr) (dest : Nat) : List TrailerCandidate :=
  (trustedEntries p dest).filterMap fun e =>
    match e.kind with
    | .trailer c m o => some { bay := e.bay, cutOff := c, margin := m, openings := o }
    | .lane _ _ _ => none

def laneCandidates (p : Pdr) (dest : Nat) : List LaneCandidate :=
  (trustedEntries p dest).filterMap fun e =>
    match e.kind with
    | .trailer _ _ _ => none
    | .lane n f h => some { bay := e.bay, lane := n, fill := f, high := h }

/-! ## The commands -/

/-- AGING_EVENT (R55). -/
def execAgingEvent (s : State) : Host.Outcome State Fault Refusal :=
  taken .agingEvent s fun s => { s with pdr := ageEntries s.pdr s.ageLimit }

/-- DOUBT_ALL (R53). -/
def execDoubtAll (s : State) : Host.Outcome State Fault Refusal :=
  taken .doubtAll s fun s => { s with pdr := doubtEvery s.pdr }

/-- DOUBT_SENDER (R54). -/
def execDoubtSender (bay : Nat) (s : State) : Host.Outcome State Fault Refusal :=
  taken (.doubtSender bay) s fun s => { s with pdr := doubtBay s.pdr bay }

/-- PDR_ADVERT (R42 to R46). -/
def execPdrAdvert (sender : Nat) (restart : Bool) (b : AdvertBody) (s : State) :
    Host.Outcome State Fault Refusal :=
  taken (.pdrAdvert sender restart b) s fun s => { s with pdr := takeAdvert s.pdr sender restart b }

/-- PDR_ASK (R47). -/
def execPdrAsk (sender : Nat) (b : AskBody) (s : State) : Host.Outcome State Fault Refusal :=
  taken (.pdrAsk sender b) s fun s => { s with pdr := fillSlot s.pdr sender b }

/-- ASK_NOTE (R47): the own slot. -/
def execAskNote (b : AskBody) (s : State) : Host.Outcome State Fault Refusal :=
  taken (.askNote b) s fun s => { s with pdr := fillSlot s.pdr s.own b }

/-- PDR_GRANT (R48). -/
def execPdrGrant (sender : Nat) (b : GrantBody) (s : State) : Host.Outcome State Fault Refusal :=
  taken (.pdrGrant sender b) s fun s => { s with pdr := snoopPlace s.pdr sender b.place b.margin }

/-- PDR_PLACED (R49). -/
def execPdrPlaced (sender : Nat) (b : PlacedBody) (s : State) : Host.Outcome State Fault Refusal :=
  taken (.pdrPlaced sender b) s fun s => { s with pdr := snoopPlace s.pdr sender b.place b.margin }

/-- PDR_REFUSE (R50, R51). -/
def execPdrRefuse (sender : Nat) (b : RefuseBody) (s : State) : Host.Outcome State Fault Refusal :=
  taken (.pdrRefuse sender b) s fun s => { s with pdr := snoopRefuse s.pdr sender b }

/-- PDR_CLOSE (R52). -/
def execPdrClose (sender : Nat) (s : State) : Host.Outcome State Fault Refusal :=
  taken (.pdrClose sender) s fun s => { s with pdr := forgetTrailers s.pdr sender }

/-- TRAILER_CANDIDATES_REQUEST (R56): the answer returns to the searcher as an event of its own. -/
def execTrailerCandidatesRequest (dest : Nat) (who : Requester) (s : State) :
    Host.Outcome State Fault Refusal :=
  taken (.trailerCandidatesRequest dest who) s fun s =>
    match who with
    | .record pallet token =>
      s.hand (.trailerCandidatesAnswer pallet token (trailerCandidates s.pdr dest))
    | .drain lane token =>
      s.joinDrain lane token fun q => { q with found := some (trailerCandidates s.pdr dest) }

/-- LANE_CANDIDATES_REQUEST (R57). -/
def execLaneCandidatesRequest (dest pallet token : Nat) (s : State) :
    Host.Outcome State Fault Refusal :=
  taken (.laneCandidatesRequest dest pallet token) s fun s =>
    s.hand (.laneCandidatesAnswer pallet token (laneCandidates s.pdr dest))

/-- READ_DIRECTORY_ENTRY (R41): an invalid entry has no field, and no doubtful mark, to answer. DEDUCED:
notes/assumptions/37.md. -/
def execReadDirectoryEntry (setNo way : Nat) (s : State) : Host.Outcome State Fault Refusal :=
  request s fun s =>
    if setNo ≤ 31 ∧ 1 ≤ way ∧ way ≤ 4 then
      s.answer .readDirectoryEntry .ok (.entry (entryAt s.pdr (4 * setNo + (way - 1))))
    else s.answer .readDirectoryEntry .range .nothing

end Sys2Proof.Machine
end

