-- ==== Sys2Proof/Machine/Dsu.lean ====
section
/-! DEFINITION. The discharge unit (chapter 4): pallet records, the search for a home, the answers and
their absence, exceptions, indications and owed frames. -/

namespace Sys2Proof.Machine

/-! ## The ask table (R58) -/

/-- The eight slots by index, lowest-numbered first. -/
def slotIndices : List Nat := [0, 1, 2, 3, 4, 5, 6, 7]

def State.slotAt (s : State) (i : Nat) : Slot := s.dsu.slots[i]?.getD .free

def State.setSlot (s : State) (i : Nat) (v : Slot) : State :=
  { s with dsu := { s.dsu with slots := s.dsu.slots.setIfInBounds i v } }

def holdsPallet (pallet : Nat) : Slot → Bool
  | .record r => decide (r.pallet = pallet)
  | _ => false

/-- The slot of the record with a pallet ID; a lone owed RELEASE is not a record. -/
def State.findRecord (s : State) (pallet : Nat) : Option Nat :=
  slotIndices.find? fun i => holdsPallet pallet (s.slotAt i)

def State.recordAt (s : State) (i : Nat) : Option PalletRecord :=
  match s.slotAt i with
  | .record r => some r
  | _ => none

/-- The lowest-numbered free slot. -/
def State.freeSlot (s : State) : Option Nat :=
  slotIndices.find? fun i => decide (s.slotAt i = .free)

def State.setRecord (s : State) (i : Nat) (r : PalletRecord) : State := s.setSlot i (.record r)

/-- What is done to the record of a pallet, if there is one. -/
def State.onRecord (s : State) (pallet : Nat) (f : Nat → PalletRecord → State) : State :=
  match s.findRecord pallet with
  | none => s
  | some i =>
    match s.recordAt i with
    | some r => f i r
    | none => s

/-! ## Indications of a record (R78) -/

/-- An indication requested for a record: it becomes current and shown becomes no. -/
def State.showRecord (s : State) (i : Nat) (r : PalletRecord) (n : IndicationName) : State :=
  (s.setRecord i { r with indication := some (indicationOf s.own n), shown := false }).indicate .dsu n
    (some r.pallet)

/-- R60: the record's current indication requested again. -/
def State.showAgain (s : State) (i : Nat) (r : PalletRecord) : State :=
  match r.indication with
  | none => s.setRecord i { r with shown := false }
  | some ind =>
    (s.setRecord i { r with shown := false }).hand
      (.indicationRequest { source := .dsu, indication := ind, pallet := some r.pallet })

/-! ## Owed RELEASE frames (R79) -/

/-- A RELEASE the DSU must owe: on the record of its pallet if there is one and it owes none, else in the
lowest-numbered free slot; dropped where neither is. A record made since for the same pallet counts as its record.
DEDUCED: notes/assumptions/42.md. -/
def State.dsuOwe (s : State) (o : OwedRelease) : State :=
  match s.findRecord o.body.pallet with
  | some i =>
    match s.recordAt i with
    | some r => if r.owedRelease.isSome then s else s.setRecord i { r with owedRelease := some o }
    | none => s
  | none =>
    match s.freeSlot with
    | some i => s.setSlot i (.lone o)
    | none => s

/-- A RELEASE of the DSU offered: placed, owed, or dropped when muted (R31, R79). -/
def State.dsuOffer (s : State) (target : Nat) (b : ReleaseBody) : State :=
  match s.offerResult with
  | .placed => s.bump.placeFrame (.owned (s.frameNow .dsu target (.release b)))
  | .noRoom => s.bump.dsuOwe { built := s.serial, target := target, body := b }
  | .muted => s

/-! ## Freeing a record -/

/-- R58: every field discarded; the slot becomes free unless an owed RELEASE remains in it. -/
def State.freeRecord (s : State) (i : Nat) (r : PalletRecord) : State :=
  s.setSlot i (match r.owedRelease with
    | some o => .lone o
    | none => .free)

/-- The CANCEL of a record to a peer that holds or may come to hold a place (R63, R75). -/
def cancelBody (s : State) (r : PalletRecord) : ReleaseBody :=
  { pallet := r.pallet, asker := s.own, seq := r.seq.getD 0, reason := .cancel }

/-- A record freed with a CANCEL offered to its target (R63, R75): the frame is built at the freeing. -/
def State.freeWithCancel (s : State) (i : Nat) (r : PalletRecord) : State :=
  (s.freeRecord i r).dsuOffer (r.target.getD 0) (cancelBody s r)

/-- A record freed with its self-put cancelled within the bay (R63, R75). -/
def State.freeWithSelfCancel (s : State) (i : Nat) (r : PalletRecord) : State :=
  (s.freeRecord i r).hand (.selfPutCancel r.pallet)

/-- A record GUIDED by a peer's grant keeps the grant's ask sequence; one guided to an own lane has none
(section 4.1, R66). -/
def guidedByPeer (r : PalletRecord) : Bool := r.seq.isSome

/-- R63 and R80: the record of a pallet that is taken back. -/
def State.takeBack (s : State) (i : Nat) (r : PalletRecord) : State :=
  match r.state with
  | .seeking => s.freeRecord i r
  | .asked => if r.owedAsk.isSome then s.freeRecord i r else s.freeWithCancel i r
  | .guided => if guidedByPeer r then s.freeWithCancel i r else s.freeWithSelfCancel i r
  | .orphan => s.freeRecord i r
  | .exception => s.freeRecord i r

/-! ## Exceptions and the search (R64, R77) -/

/-- R77: the record enters EXCEPTION. -/
def State.toException (s : State) (i : Nat) (r : PalletRecord) : State :=
  (s.raiseNotice .exception).showRecord i
    { r with state := .exception, answerBy := none, guardBy := none, retryAt := none, search := none }
    .except

def mayAskTrailer (s : State) (r : PalletRecord) : Bool :=
  decide (r.handling = .direct) && decide (r.trailerAsks < 5) && !s.fbi.mute

/-- R64: the step taken at or after a step; none when nothing is left. -/
def stepFrom (s : State) (r : PalletRecord) : SearchStep → Option SearchStep
  | .trailerStage => if mayAskTrailer s r then some .trailerStage else some .ownAssigned
  | .ownAssigned => some .ownAssigned
  | .peerAssigned => if s.fbi.mute then some .ownFree else some .peerAssigned
  | .ownFree => some .ownFree
  | .peerFree => if s.fbi.mute then none else some .peerFree

/-- The step that follows one which yielded nothing. -/
def stepAfter (s : State) (r : PalletRecord) : SearchStep → Option SearchStep
  | .trailerStage => stepFrom s r .ownAssigned
  | .ownAssigned => stepFrom s r .peerAssigned
  | .peerAssigned => stepFrom s r .ownFree
  | .ownFree => stepFrom s r .peerFree
  | .peerFree => none

/-- What a self-put request names of a record (R66). -/
def selfPutOf (r : PalletRecord) : SelfPut :=
  { pallet := r.pallet, dest := r.dest, weight := r.weight, estimated := r.estimated,
    height := r.height, stackable := r.stackable }

/-- The request a step hands to the PDR or the MLU (R65, R66, R67). -/
def searchRequest (r : PalletRecord) (token : Nat) : SearchStep → Instr
  | .trailerStage => .trailerCandidatesRequest r.dest (.record r.pallet token)
  | .ownAssigned => .selfPutRequest (selfPutOf r) .assigned token
  | .peerAssigned => .laneCandidatesRequest r.dest r.pallet token
  | .ownFree => .selfPutRequest (selfPutOf r) .free token
  | .peerFree => .laneCandidatesRequest 0 r.pallet token

/-- The search goes on at a step, or ends in EXCEPTION when none is left (R64 step 6). -/
def State.searchAt (s : State) (i : Nat) (r : PalletRecord) (step : Option SearchStep) : State :=
  match step with
  | none => s.toException i r
  | some st =>
    (s.bump.setRecord i { r with search := some { step := st, token := s.serial } }).hand
      (searchRequest r s.serial st)

/-- R64: a search begins for a record in SEEKING. -/
def State.beginSearch (s : State) (i : Nat) (r : PalletRecord) : State :=
  if 8 ≤ r.totalAsks then s.toException i r else s.searchAt i r (stepFrom s r .trailerStage)

/-- The record back in SEEKING with no ask (R71, R72). -/
def seekingAgain (r : PalletRecord) : PalletRecord :=
  { r with state := .seeking, seq := none, target := none, place := none, askKind := none,
           owedAsk := none, answerBy := none, guardBy := none, retryAt := none, search := none }

/-- R72: the ask has ended without an answer and the search begins. -/
def State.askUnanswered (s : State) (i : Nat) (r : PalletRecord) : State := s.beginSearch i (seekingAgain r)

/-! ## Asks (R59, R68) -/

/-- R59: the sequence counter's value taken by a borrower, and the counter advanced. -/
def State.takeSeq (s : State) (b : Borrower) : State :=
  { s with dsu := { s.dsu with
      seq := (s.dsu.seq + 1) % 256
      borrowers := s.dsu.borrowers.setIfInBounds s.dsu.seq (some b) } }

def borrowerOf (s : State) (seq : Nat) : Option Borrower := s.dsu.borrowers[seq]?.getD none

/-- The ASK of a record (R68). -/
def askOf (s : State) (r : PalletRecord) (target : Nat) (kind : PlaceKind) : AskBody :=
  { seq := s.dsu.seq, target := target, kind := kind, pallet := r.pallet, dest := r.dest,
    weight := r.weight, height := r.height, stackable := r.stackable }

/-- The record ASKED (R68). -/
def askedRecord (s : State) (r : PalletRecord) (target : Nat) (kind : PlaceKind) : PalletRecord :=
  { r with state := .asked, seq := some s.dsu.seq, target := some target, askKind := some kind,
           search := none, totalAsks := r.totalAsks + 1,
           trailerAsks := if kind = .trailer then r.trailerAsks + 1 else r.trailerAsks,
           answerBy := some (s.now + s.scu.config.answerTimeout) }

/-- R68: an ASK built, the record ASKED, and the ASK offered to the transmit queue. -/
def State.makeAsk (s : State) (i : Nat) (r : PalletRecord) (target : Nat) (kind : PlaceKind) : State :=
  let ask := askOf s r target kind
  let r' := askedRecord s r target kind
  let s' := s.bump.takeSeq .dsu
  match s.offerResult with
  | .placed =>
    ((s'.setRecord i r').placeFrame (.owned (s.frameNow .dsu target (.ask ask)))).hand (.askNote ask)
  | .noRoom => s'.setRecord i { r' with owedAsk := some { built := s.serial, item := ask } }
  | .muted => s'.askUnanswered i r'

/-! ## New pallets (R61, R62) -/

/-- R62: the handling of a destination by the first map entry that holds it. -/
def handlingOf (c : ConfigRecord) (dest : Nat) : Handling :=
  match c.map.toList.find? fun e => decide (e.first ≤ dest) && decide (dest ≤ e.last) with
  | some e => e.handling
  | none => .direct

/-- R61: the handling by bad label, scale status OVER and the map, in that order. -/
def newHandling (c : ConfigRecord) (r : PalletRead) : Handling :=
  if !validDest r.dest then .except
  else if r.scale = .overload then .except
  else handlingOf c r.dest

/-- The record a new pallet is given (R61), before its state is chosen. -/
def newRecord (c : ConfigRecord) (r : PalletRead) : PalletRecord :=
  { pallet := r.pallet, dest := r.dest,
    weight := match r.scale with
      | .ok kg => kg
      | _ => classMaxWeight r.height
    estimated := scaleFaulty r.scale, height := r.height, stackable := r.stackable,
    handling := newHandling c r, state := .seeking, excluded := [], trailerAsks := 0, totalAsks := 0,
    search := none, seq := none, target := none, place := none, askKind := none, owedAsk := none,
    answerBy := none, guardBy := none, retryAt := none, owedRelease := none, indication := none,
    shown := false }

/-- The record made in SEEKING: WAIT requested and a search begun (R61, R60). -/
def State.waitAndSearch (s : State) (i : Nat) (r : PalletRecord) : State :=
  (s.showRecord i r .wait).beginSearch i { r with indication := some (indicationOf s.own .wait), shown := false }

/-- R61: a new pallet in a free slot. -/
def State.newPallet (s : State) (i : Nat) (r : PalletRead) : State :=
  let rec' := newRecord s.scu.config r
  let s' := s.raiseIf (scaleFaulty r.scale) .scaleFault
  if rec'.handling = .except then s'.toException i rec' else s'.waitAndSearch i rec'

/-- R60: an ORPHAN record made SEEKING afresh. -/
def freshOrphan (r : PalletRecord) : PalletRecord :=
  { seekingAgain r with excluded := [], trailerAsks := 0, totalAsks := 0 }

/-- R60: a re-read by the record's state. -/
def State.reRead (s : State) (i : Nat) (r : PalletRecord) : State :=
  match r.state with
  | .orphan => s.waitAndSearch i (freshOrphan r)
  | .seeking => s.showAgain i r
  | .asked => s.showAgain i r
  | .guided => s.showAgain i r
  | .exception => s.showAgain i r

/-! ## Answers (R69 to R72) -/

/-- A frame matches a record's live ask: ASKED, the target as sender, the ask sequence (section 4.4). -/
def liveAsk (r : PalletRecord) (sender seq : Nat) : Bool :=
  decide (r.state = .asked) && decide (r.target = some sender) && decide (r.seq = some seq)

/-- A GRANT must also carry a place of the kind asked for (section 4.4). -/
def grantMatches (r : PalletRecord) (sender : Nat) (b : GrantBody) : Bool :=
  liveAsk r sender b.seq && decide (r.askKind = some (placeKind b.place))

/-- R70 case 2: the GRANT is a re-grant of the place the live ask or the guidance already reaches. -/
def alreadyReached (r : PalletRecord) (sender : Nat) (b : GrantBody) : Bool :=
  decide (r.target = some sender) &&
    ((decide (r.state = .asked) && decide (r.askKind = some (placeKind b.place))) ||
      (decide (r.state = .guided) && decide (r.place.map placeKind = some (placeKind b.place))))

/-- R69: the record GUIDED to the place of a GRANT. -/
def guidedRecord (s : State) (r : PalletRecord) (b : GrantBody) : PalletRecord :=
  { r with state := .guided, answerBy := none, owedAsk := none, place := some b.place,
           guardBy := some (s.now + b.hold + s.scu.config.guardMargin) }

def guideName (place : Place) (bay : Nat) : IndicationName :=
  match place with
  | .trailer _ _ _ => .goDoor bay
  | .lane _ => .goRemoteLane bay

/-- R70: a GRANT that matches no live ask. -/
def State.lateGrant (s : State) (sender : Nat) (b : GrantBody) : State :=
  if borrowerOf s b.seq = some .mlu then s
  else
    let reached := match (s.findRecord b.pallet).bind s.recordAt with
      | some r => alreadyReached r sender b
      | none => false
    if reached then s
    else s.dsuOffer sender { pallet := b.pallet, asker := s.own, seq := b.seq, reason := .late }

/-- R71: a matching REFUSE. -/
def State.askRefused (s : State) (i : Nat) (r : PalletRecord) (sender : Nat) (reason : RefuseReason) : State :=
  if hardReason reason then
    if r.excluded.length < exclusionCapacity then
      s.beginSearch i { seekingAgain r with excluded := excludeBay r.excluded sender }
    else s.toException i (seekingAgain r)
  else s.setRecord i { seekingAgain r with retryAt := some (s.now + 2) }

/-- R73, R74, R76: the record in ORPHAN, and ORPHAN raised. -/
def State.orphanRecord (s : State) (i : Nat) (r : PalletRecord) : State :=
  (s.setRecord i { r with state := .orphan, guardBy := none }).raiseNotice .orphan

/-- R75: the record freed by a placing at a bay and a kind of place. -/
def State.recordPlaced (s : State) (i : Nat) (r : PalletRecord) (bay : Nat) (place : Place) : State :=
  match r.state with
  | .guided =>
    if r.target = some bay ∧ r.place.map placeKind = some (placeKind place) then s.freeRecord i r
    else if guidedByPeer r then s.freeWithCancel i r
    else s.freeWithSelfCancel i r
  | .seeking => s.freeRecord i r
  | .asked => s.freeRecord i r
  | .orphan => s.freeRecord i r
  | .exception => s.freeRecord i r

/-- R76: every record that meets a test put in ORPHAN, lowest slot first. -/
def State.orphanWhere (s : State) (p : PalletRecord → Bool) : State :=
  slotIndices.foldl (fun s i =>
    match s.recordAt i with
    | some r => if p r then s.orphanRecord i r else s
    | none => s) s

/-! ## The commands -/

/-- DSU_DOOR_READ_OUT (R60, R61). -/
def execDsuDoorReadOut (r : PalletRead) (s : State) : Host.Outcome State Fault Refusal :=
  taken (.dsuDoorReadOut r) s fun s =>
    match (s.findRecord r.pallet).bind fun i => (s.recordAt i).map fun q => (i, q) with
    | some (i, q) => s.reRead i q
    | none =>
      match s.freeSlot with
      | none => (s.indicate .dsu .fullTable none).raiseNotice .tableFull
      | some i => s.newPallet i r

/-- DSU_DOOR_READ_INTO (R63). -/
def execDsuDoorReadInto (r : PalletRead) (s : State) : Host.Outcome State Fault Refusal :=
  taken (.dsuDoorReadInto r) s fun s => s.onRecord r.pallet s.takeBack

/-- The record that waits on the request of a token (R64). -/
def waitsOn (r : PalletRecord) (token : Nat) (steps : List SearchStep) : Bool :=
  match r.search with
  | some q => decide (r.state = .seeking) && decide (q.token = token) && steps.contains q.step
  | none => false

/-- TRAILER_CANDIDATES_ANSWER (R65). -/
def execTrailerCandidatesAnswer (pallet token : Nat) (found : List TrailerCandidate) (s : State) :
    Host.Outcome State Fault Refusal :=
  taken (.trailerCandidatesAnswer pallet token found) s fun s =>
    s.onRecord pallet fun i r =>
      if waitsOn r token [.trailerStage] then
        match firstBest trailerBefore (found.filter (trailerFits r.excluded r.weight r.height)) with
        | some c => s.makeAsk i r c.bay .trailer
        | none => s.searchAt i r (stepAfter s r .trailerStage)
      else s

/-- R67: the candidates a step keeps. -/
def laneFits (r : PalletRecord) (step : SearchStep) (c : LaneCandidate) : Bool :=
  !r.excluded.contains c.bay && (decide (step = .peerFree) || (!c.high && decide (c.fill < 8)))

/-- LANE_CANDIDATES_ANSWER (R67). -/
def execLaneCandidatesAnswer (pallet token : Nat) (found : List LaneCandidate) (s : State) :
    Host.Outcome State Fault Refusal :=
  taken (.laneCandidatesAnswer pallet token found) s fun s =>
    s.onRecord pallet fun i r =>
      if waitsOn r token [.peerAssigned, .peerFree] then
        match r.search with
        | some q =>
          match firstBest laneBefore (found.filter (laneFits r q.step)) with
          | some c => s.makeAsk i r c.bay .lane
          | none => s.searchAt i r (stepAfter s r q.step)
        | none => s
      else s

/-- R66: the record GUIDED to an own lane. -/
def ownGuidedRecord (s : State) (r : PalletRecord) (g : SelfPutGiven) : PalletRecord :=
  { r with state := .guided, target := some s.own, place := some (.lane g.lane), seq := none,
           askKind := none, search := none,
           guardBy := some (s.now + g.hold + s.scu.config.guardMargin) }

/-- R64: a self-put whose search is over is handed back as cancelled. -/
def State.returnSelfPut (s : State) (pallet : Nat) (given : Option SelfPutGiven) : State :=
  if given.isSome then s.hand (.selfPutCancel pallet) else s

/-- SELF_PUT_ANSWER (R64, R66). -/
def execSelfPutAnswer (pallet token : Nat) (given : Option SelfPutGiven) (s : State) :
    Host.Outcome State Fault Refusal :=
  taken (.selfPutAnswer pallet token given) s fun s =>
    match (s.findRecord pallet).bind fun i => (s.recordAt i).map fun q => (i, q) with
    | none => s.returnSelfPut pallet given
    | some (i, r) =>
      if waitsOn r token [.ownAssigned, .ownFree] then
        match given, r.search with
        | some g, _ => s.showRecord i (ownGuidedRecord s r g) (.goLane g.lane)
        | none, some q => s.searchAt i r (stepAfter s r q.step)
        | none, none => s
      else s.returnSelfPut pallet given

/-- ANSWER_DEADLINE_EXPIRY (R72). -/
def execAnswerDeadlineExpiry (pallet : Nat) (s : State) : Host.Outcome State Fault Refusal :=
  taken (.answerDeadlineExpiry pallet) s fun s =>
    s.onRecord pallet fun i r =>
      if r.state = .asked ∧ due r.answerBy s.now then s.askUnanswered i r else s

/-- GUARD_DEADLINE_EXPIRY (R73). -/
def execGuardDeadlineExpiry (pallet : Nat) (s : State) : Host.Outcome State Fault Refusal :=
  taken (.guardDeadlineExpiry pallet) s fun s =>
    s.onRecord pallet fun i r =>
      if r.state = .guided ∧ due r.guardBy s.now then s.orphanRecord i r else s

/-- RETRY_AFTER_EXPIRY (R64, R71). -/
def execRetryAfterExpiry (pallet : Nat) (s : State) : Host.Outcome State Fault Refusal :=
  taken (.retryAfterExpiry pallet) s fun s =>
    s.onRecord pallet fun i r =>
      if r.state = .seeking ∧ due r.retryAt s.now then s.beginSearch i { r with retryAt := none } else s

/-- DSU_GRANT (R69, R70). -/
def execDsuGrant (sender : Nat) (b : GrantBody) (s : State) : Host.Outcome State Fault Refusal :=
  taken (.dsuGrant sender b) s fun s =>
    match (s.findRecord b.pallet).bind fun i => (s.recordAt i).map fun q => (i, q) with
    | some (i, r) =>
      if grantMatches r sender b then
        s.showRecord i (guidedRecord s r b) (guideName b.place sender)
      else s.lateGrant sender b
    | none => s.lateGrant sender b

/-- DSU_REFUSE (R71). -/
def execDsuRefuse (sender : Nat) (b : RefuseBody) (s : State) : Host.Outcome State Fault Refusal :=
  taken (.dsuRefuse sender b) s fun s =>
    s.onRecord b.pallet fun i r =>
      if liveAsk r sender b.seq then s.askRefused i r sender b.reason else s

/-- A RELEASE names the grant a GUIDED record was given (R74). -/
def releasesGuided (r : PalletRecord) (sender seq : Nat) : Bool :=
  decide (r.state = .guided) && decide (r.target = some sender) && decide (r.seq = some seq)

/-- DSU_RELEASE (R72, R74). -/
def execDsuRelease (sender : Nat) (b : ReleaseBody) (s : State) : Host.Outcome State Fault Refusal :=
  taken (.dsuRelease sender b) s fun s =>
    s.onRecord b.pallet fun i r =>
      if !granterReason b.reason then s
      else if releasesGuided r sender b.seq then s.orphanRecord i r
      else if liveAsk r sender b.seq then s.askUnanswered i r
      else s

/-- DSU_PLACED (R75): a frame; the placing bay is its sender. -/
def execDsuPlaced (sender : Nat) (b : PlacedBody) (s : State) : Host.Outcome State Fault Refusal :=
  taken (.dsuPlaced sender b) s fun s =>
    s.onRecord b.pallet fun i r => s.recordPlaced i r sender b.place

/-- PLACED_NOTE (R75): the bay's own note; the placing bay is the bay itself. -/
def execPlacedNote (pallet asker : Nat) (place : Place) (s : State) :
    Host.Outcome State Fault Refusal :=
  taken (.placedNote pallet asker place) s fun s =>
    s.onRecord pallet fun i r => s.recordPlaced i r s.own place

/-- DSU_RESTART_ADVERT (R76). -/
def execDsuRestartAdvert (sender : Nat) (s : State) : Host.Outcome State Fault Refusal :=
  taken (.dsuRestartAdvert sender) s fun s =>
    s.orphanWhere fun r => decide (r.state = .guided) && decide (r.target = some sender)

/-- DSU_CLOSE (R76). -/
def execDsuClose (sender : Nat) (b : CloseBody) (s : State) : Host.Outcome State Fault Refusal :=
  taken (.dsuClose sender b) s fun s =>
    if b.aborted then
      s.orphanWhere fun r =>
        decide (r.state = .guided) && decide (r.target = some sender) &&
          decide (r.place.map placeKind = some .trailer)
    else s

/-- SELF_PUT_RELEASE (R74): matched to a record GUIDED to an own lane. -/
def execSelfPutRelease (pallet : Nat) (reason : ReleaseReason) (s : State) :
    Host.Outcome State Fault Refusal :=
  taken (.selfPutRelease pallet reason) s fun s =>
    s.onRecord pallet fun i r =>
      if r.state = .guided ∧ !guidedByPeer r then s.orphanRecord i r else s

/-- ASK_SEQUENCE_REQUEST (R59): the MLU borrows the counter's value, which returns as its own event. -/
def execAskSequenceRequest (lane pallet target : Nat) (s : State) : Host.Outcome State Fault Refusal :=
  taken (.askSequenceRequest lane pallet target) s fun s =>
    (s.takeSeq .mlu).hand (.askSequenceReturn lane pallet target s.dsu.seq)

/-- SHOWN_REPORT (R77, R78). -/
def execShownReport (pallet : Nat) (indication : Indication) (s : State) :
    Host.Outcome State Fault Refusal :=
  taken (.shownReport pallet indication) s fun s =>
    s.onRecord pallet fun i r =>
      if r.indication = some indication then
        if r.state = .exception ∧ indication.name = .except then s.freeRecord i r
        else s.setRecord i { r with shown := true }
      else s

/-- DROPPED_REPORT (R78). -/
def execDroppedReport (pallet : Nat) (indication : Indication) (s : State) :
    Host.Outcome State Fault Refusal :=
  taken (.droppedReport pallet indication) s fun s =>
    s.onRecord pallet fun i r =>
      if r.indication = some indication then s.setRecord i { r with shown := false } else s

/-- REMOVE_RECORD (R80). -/
def execRemoveRecord (pallet : Nat) (s : State) : Host.Outcome State Fault Refusal :=
  request s fun s =>
    if pallet = 0 ∨ maxPallet < pallet then s.answer .removeRecord .range .nothing
    else
      match (s.findRecord pallet).bind fun i => (s.recordAt i).map fun q => (i, q) with
      | none => s.answer .removeRecord .state .nothing
      | some (i, r) => (s.takeBack i r).answer .removeRecord .ok .nothing

/-- READ_ASK_TABLE (R81). DESIGN CHOICE: notes/assumptions/25.md. -/
def execReadAskTable (s : State) : Host.Outcome State Fault Refusal :=
  request s fun s => s.answer .readAskTable .ok (.askTable s.dsu.seq s.dsu.slots)

end Sys2Proof.Machine
end

