-- ==== Sys2Proof/Machine/Frames.lean ====
section
/-! DEFINITION. Frames as bytes (section 2.4): the cyclic check of R27, the codes and layouts of sections
2.4.1 and 2.4.2 in both directions, and the acceptance checks of R24. -/

namespace Sys2Proof.Machine

/-! ## The cyclic check (R27) -/

/-- One bit of the check: generator x^16 + x^12 + x^5 + 1. -/
def crcBit (r : BitVec 16) : BitVec 16 := if r.msb then (r <<< 1) ^^^ 0x1021#16 else r <<< 1

/-- One byte of the check, most significant bit first. -/
def crcByte (r : BitVec 16) (b : Byte) : BitVec 16 :=
  crcBit (crcBit (crcBit (crcBit (crcBit (crcBit (crcBit (crcBit
    (r ^^^ (b.setWidth 16 <<< 8)))))))))

/-- The check over a run of bytes, initial value all ones, no final inversion. -/
def crc16 (l : List Byte) : BitVec 16 := l.foldl crcByte 0xFFFF#16

/-! ## Numbers as bytes, most significant first -/

def byteOf (n : Nat) : Byte := BitVec.ofNat 8 n

def bytes2 (n : Nat) : List Byte := [byteOf (n / 256), byteOf n]

def bytes4 (n : Nat) : List Byte :=
  [byteOf (n / 16777216), byteOf (n / 65536), byteOf (n / 256), byteOf n]

def bytes5 (n : Nat) : List Byte := byteOf (n / 4294967296) :: bytes4 n

/-- A signed number in 32 bits of two's complement. -/
def signedBytes4 (v : Int) : List Byte := bytes4 (BitVec.ofInt 32 v).toNat

def crcBytes (l : List Byte) : List Byte := bytes2 (crc16 l).toNat

/-- The number held by a run of bytes. -/
def bigEndian (l : List Byte) : Nat := l.foldl (fun n b => n * 256 + b.toNat) 0

/-- The number at an offset and of a length in a body. -/
def part (l : List Byte) (offset length : Nat) : Nat := bigEndian ((l.drop offset).take length)

/-- The signed number of four bytes at an offset. -/
def signedPart (l : List Byte) (offset : Nat) : Int := (BitVec.ofNat 32 (part l offset 4)).toInt

/-! ## Codes (section 2.4.1) -/

/-- LISTEN and UNCONFIGURED have no code, for no ADVERT is sent in them (R25). DEDUCED:
notes/assumptions/20.md. -/
def stateCode : BayState → Nat
  | .empty => 1
  | .docked => 2
  | .blocked => 3
  | .inbound => 4
  | .outbound => 5
  | .closing => 6
  | .closed => 7
  | .listen => 0
  | .unconfigured => 0

def stateOfCode : Nat → Option BayState
  | 1 => some .empty
  | 2 => some .docked
  | 3 => some .blocked
  | 4 => some .inbound
  | 5 => some .outbound
  | 6 => some .closing
  | 7 => some .closed
  | _ => none

def phaseCode : Option Phase → Nat
  | none => 0
  | some .far => 1
  | some .near => 2

def phaseOfCode : Nat → Option (Option Phase)
  | 0 => some none
  | 1 => some (some .far)
  | 2 => some (some .near)
  | _ => none

def assignmentCode : Assignment → Nat
  | .free => 0
  | .assigned => 1
  | .suspect => 2

def assignmentOfCode : Nat → Option Assignment
  | 0 => some .free
  | 1 => some .assigned
  | 2 => some .suspect
  | _ => none

def heightCode : HeightClass → Nat
  | .full => 0
  | .half => 1
  | .quarter => 2
  | .mini => 3

/-- Unlike a read's, a frame's height class code must be a listed one (R24 check 6). -/
def heightOfFrame : Nat → Option HeightClass
  | 0 => some .full
  | 1 => some .half
  | 2 => some .quarter
  | 3 => some .mini
  | _ => none

def yesCode (b : Bool) : Nat := if b then 1 else 0

def yesOfCode : Nat → Option Bool
  | 0 => some false
  | 1 => some true
  | _ => none

def placeKindCode : PlaceKind → Nat
  | .trailer => 1
  | .lane => 2

def placeKindOfCode : Nat → Option PlaceKind
  | 1 => some .trailer
  | 2 => some .lane
  | _ => none

def sideCode : Side → Nat
  | .left => 1
  | .right => 2

def sideOfCode : Nat → Option Side
  | 1 => some .left
  | 2 => some .right
  | _ => none

def refuseCode : RefuseReason → Nat
  | .closed => 1
  | .wrongDest => 2
  | .order => 3
  | .duplicate => 4
  | .full => 5
  | .gross => 6
  | .axle => 7
  | .noLane => 8
  | .busy => 9
  | .held => 10

def refuseOfCode : Nat → Option RefuseReason
  | 1 => some .closed
  | 2 => some .wrongDest
  | 3 => some .order
  | 4 => some .duplicate
  | 5 => some .full
  | 6 => some .gross
  | 7 => some .axle
  | 8 => some .noLane
  | 9 => some .busy
  | 10 => some .held
  | _ => none

def releaseCode : ReleaseReason → Nat
  | .expired => 1
  | .stranded => 2
  | .cutoff => 3
  | .undock => 4
  | .late => 5
  | .cancel => 6

def releaseOfCode : Nat → Option ReleaseReason
  | 1 => some .expired
  | 2 => some .stranded
  | 3 => some .cutoff
  | 4 => some .undock
  | 5 => some .late
  | 6 => some .cancel
  | _ => none

def kindCode : Body → Nat
  | .advert _ => 1
  | .ask _ => 2
  | .grant _ => 3
  | .refuse _ => 4
  | .placed _ => 5
  | .release _ => 6
  | .close _ => 7

/-! ## Bodies sent (section 2.4.2) -/

def placeBytes : Place → List Byte
  | .trailer row sd tier => [byteOf 1, byteOf row, byteOf (sideCode sd), byteOf tier, byteOf 0]
  | .lane k => [byteOf 2, byteOf 0, byteOf 0, byteOf 0, byteOf k]

def laneBytes (l : LaneAdvert) : List Byte :=
  [byteOf l.number, byteOf (assignmentCode l.assignment), byteOf (yesCode l.high)] ++ bytes2 l.dest ++
    [byteOf l.fill]

def openingBytes (o : Openings) : List Byte :=
  [byteOf o.full, byteOf o.half, byteOf o.quarter, byteOf o.mini]

def advertBytes (a : AdvertBody) : List Byte :=
  [byteOf (stateCode a.state), byteOf (phaseCode a.phase)] ++ bytes2 a.accepting ++ bytes2 a.cutOff ++
    bytes2 a.margin ++ openingBytes a.openings ++ [byteOf a.lanes.length] ++ a.lanes.flatMap laneBytes

def askBytes (a : AskBody) : List Byte :=
  [byteOf a.seq, byteOf a.target, byteOf (placeKindCode a.kind)] ++ bytes5 a.pallet ++ bytes2 a.dest ++
    bytes2 a.weight ++ [byteOf (heightCode a.height), byteOf (yesCode a.stackable)]

def grantBytes (g : GrantBody) : List Byte :=
  [byteOf g.asker, byteOf g.seq] ++ bytes5 g.pallet ++ placeBytes g.place ++ bytes2 g.hold ++ bytes2 g.margin

def refuseBytes (r : RefuseBody) : List Byte :=
  [byteOf r.asker, byteOf r.seq] ++ bytes5 r.pallet ++ [byteOf (refuseCode r.reason)]

def placedBytes (p : PlacedBody) : List Byte :=
  bytes5 p.pallet ++ [byteOf p.asker] ++ placeBytes p.place ++ bytes2 p.margin

def releaseBytes (r : ReleaseBody) : List Byte :=
  bytes5 r.pallet ++ [byteOf r.asker, byteOf r.seq, byteOf (releaseCode r.reason)]

def closeMarks (c : CloseBody) : Nat :=
  yesCode c.aborted + 2 * yesCode c.overLimit + 4 * yesCode c.lightNose

/-- R27: a character of the trailer ID goes out with its top bit 0. -/
def characterByte (b : Byte) : Byte := b &&& 0x7F#8

def closeBytes (c : CloseBody) : List Byte :=
  c.trailerId.toList.map characterByte ++ [byteOf c.cls] ++ bytes2 c.near ++ bytes2 c.far ++
    [byteOf c.landedNear, byteOf c.landedFar] ++ signedBytes4 c.payload ++ signedBytes4 c.gross ++
    signedBytes4 c.kingpin ++ signedBytes4 c.bogie ++ [byteOf (closeMarks c)]

def bodyBytes : Body → List Byte
  | .advert b => advertBytes b
  | .ask b => askBytes b
  | .grant b => grantBytes b
  | .refuse b => refuseBytes b
  | .placed b => placedBytes b
  | .release b => releaseBytes b
  | .close b => closeBytes b

/-- The header of a frame (section 2.4.1). -/
def headerBytes (f : Frame) : List Byte :=
  [byteOf (kindCode f.body), byteOf f.sender, byteOf f.seq, byteOf (yesCode f.restart),
   byteOf (bodyBytes f.body).length]

/-- A frame as it goes on the line: header, body and check (R20, R23, R27). -/
def frameBytes (f : Frame) : List Byte :=
  (headerBytes f ++ bodyBytes f.body) ++ crcBytes (headerBytes f ++ bodyBytes f.body)

/-! ## Bodies taken (R24 checks 6 to 8) -/

def goodPallet (p : Nat) : Bool := decide (1 ≤ p) && decide (p ≤ maxPallet)

def goodBay (b : Nat) : Bool := decide (b ≤ 63)

/-- A value kept only where a check passes. -/
def keepIf {α : Type} (b : Bool) (x : α) : Option α := if b then some x else none

/-- A place group of one of the two forms. -/
def placeOf (kind row sd tier lane : Nat) : Option Place :=
  match placeKindOfCode kind with
  | some .trailer =>
    (sideOfCode sd).bind fun sd =>
      keepIf (decide (1 ≤ row) && decide (row ≤ 13) && decide (1 ≤ tier) && decide (tier ≤ 3) &&
        decide (lane = 0)) (.trailer row sd tier)
  | some .lane =>
    keepIf (decide (row = 0) && decide (sd = 0) && decide (tier = 0) && decide (1 ≤ lane) &&
      decide (lane ≤ 4)) (.lane lane)
  | none => none

def placeAt (l : List Byte) (offset : Nat) : Option Place :=
  placeOf (part l offset 1) (part l (offset + 1) 1) (part l (offset + 2) 1) (part l (offset + 3) 1)
    (part l (offset + 4) 1)

def laneOf (l : List Byte) : Option LaneAdvert :=
  (assignmentOfCode (part l 1 1)).bind fun a =>
    (yesOfCode (part l 2 1)).map fun high =>
      { number := part l 0 1, assignment := a, high := high, dest := part l 3 2, fill := part l 5 1 }

/-- The lane entries of an ADVERT, six bytes each. -/
def lanesOf : Nat → List Byte → Option (List LaneAdvert)
  | 0, _ => some []
  | n + 1, l => (laneOf (l.take 6)).bind fun x => (lanesOf n (l.drop 6)).map fun rest => x :: rest

def advertOf (l : List Byte) : Option AdvertBody :=
  (stateOfCode (part l 0 1)).bind fun st =>
    (phaseOfCode (part l 1 1)).bind fun ph =>
      (lanesOf (part l 12 1) (l.drop 13)).map fun lanes =>
        { state := st, phase := ph, accepting := part l 2 2, cutOff := part l 4 2, margin := part l 6 2,
          openings := { full := part l 8 1, half := part l 9 1, quarter := part l 10 1, mini := part l 11 1 },
          lanes := lanes }

def askBodyOf (l : List Byte) : Option AskBody :=
  (placeKindOfCode (part l 2 1)).bind fun kind =>
    (heightOfFrame (part l 12 1)).bind fun h =>
      (yesOfCode (part l 13 1)).bind fun st =>
        keepIf (goodPallet (part l 3 5) && goodBay (part l 1 1))
          { seq := part l 0 1, target := part l 1 1, kind := kind, pallet := part l 3 5, dest := part l 8 2,
            weight := part l 10 2, height := h, stackable := st }

def grantOf (l : List Byte) : Option GrantBody :=
  (placeAt l 7).bind fun place =>
    keepIf (goodPallet (part l 2 5) && goodBay (part l 0 1))
      { asker := part l 0 1, seq := part l 1 1, pallet := part l 2 5, place := place, hold := part l 12 2,
        margin := part l 14 2 }

def refuseOf (l : List Byte) : Option RefuseBody :=
  (refuseOfCode (part l 7 1)).bind fun reason =>
    keepIf (goodPallet (part l 2 5) && goodBay (part l 0 1))
      { asker := part l 0 1, seq := part l 1 1, pallet := part l 2 5, reason := reason }

def placedOf (l : List Byte) : Option PlacedBody :=
  (placeAt l 6).bind fun place =>
    keepIf (goodPallet (part l 0 5) && goodBay (part l 5 1))
      { pallet := part l 0 5, asker := part l 5 1, place := place, margin := part l 11 2 }

def releaseOf (l : List Byte) : Option ReleaseBody :=
  (releaseOfCode (part l 7 1)).bind fun reason =>
    keepIf (goodPallet (part l 0 5) && goodBay (part l 5 1))
      { pallet := part l 0 5, asker := part l 5 1, seq := part l 6 1, reason := reason }

/-- Eight bytes at the head of a list. -/
def eightBytes (l : List Byte) : Vector Byte 8 := Vector.ofFn fun i => l[i.val]?.getD 0

def closeOf (l : List Byte) : Option CloseBody :=
  keepIf (decide (part l 31 1 ≤ 7))
    { trailerId := eightBytes l, cls := part l 8 1, near := part l 9 2, far := part l 11 2,
      landedNear := part l 13 1, landedFar := part l 14 1, payload := (part l 15 4 : Int),
      gross := signedPart l 19, kingpin := signedPart l 23, bogie := signedPart l 27,
      aborted := (part l 31 1).testBit 0, overLimit := (part l 31 1).testBit 1,
      lightNose := (part l 31 1).testBit 2 }

/-- R24 check 3: the body length that a kind requires. -/
def lengthFits (kind : Nat) (body : List Byte) : Bool :=
  match kind with
  | 1 => decide (13 ≤ body.length) && decide (part body 12 1 ≤ 4) &&
      decide (body.length = 13 + 6 * part body 12 1)
  | 2 => decide (body.length = 14)
  | 3 => decide (body.length = 16)
  | 4 => decide (body.length = 8)
  | 5 => decide (body.length = 13)
  | 6 => decide (body.length = 8)
  | 7 => decide (body.length = 32)
  | _ => false

def bodyOf (kind : Nat) (body : List Byte) : Option Body :=
  match kind with
  | 1 => (advertOf body).map .advert
  | 2 => (askBodyOf body).map .ask
  | 3 => (grantOf body).map .grant
  | 4 => (refuseOf body).map .refuse
  | 5 => (placedOf body).map .placed
  | 6 => (releaseOf body).map .release
  | 7 => (closeOf body).map .close
  | _ => none

/-- R24 check 5: the flags byte. -/
def flagsFit (kind flags : Nat) : Bool := decide (flags = 0) || (decide (flags = 1) && decide (kind = 1))

/-- R27: the bytes of the header and of the body whose length the header gives. -/
def coveredLength (bytes : List Byte) : Nat := 5 + part bytes 4 1

/-- R24 check 1, R27: the two bytes directly after the body, at the point its length gives, against the check of
the header and body; where those bytes did not come the check is not correct. DEDUCED: notes/assumptions/10.md. -/
def checkFits (bytes : List Byte) : Bool :=
  decide (crcBytes (bytes.take (coveredLength bytes)) = (bytes.drop (coveredLength bytes)).take 2)

/-- R24 checks 2 to 8 on a frame whose check is correct; it ends two bytes after the point the header gives. -/
def frameOf (bytes : List Byte) : Option Frame :=
  let body := (bytes.take (coveredLength bytes)).drop 5
  if decide (bytes.length = coveredLength bytes + 2) && lengthFits (part bytes 0 1) body &&
      decide (1 ≤ part bytes 1 1) && decide (part bytes 1 1 ≤ 63) &&
      flagsFit (part bytes 0 1) (part bytes 3 1) then
    (bodyOf (part bytes 0 1) body).map fun b =>
      { sender := part bytes 1 1, seq := part bytes 2 1, restart := decide (part bytes 3 1 = 1), body := b }
  else none

end Sys2Proof.Machine
end

