-- ==== Sys2Proof/Machine/Loads.lean ====
section
/-! DEFINITION. Axle and gross arithmetic (chapter 6): row distance, the three loads with their exact
roundings, the candidate checks, OVER and the gross margin. All of it is whole-number arithmetic. -/

namespace Sys2Proof.Machine

/-- R102: the distance of a row's centre line from the kingpin, in cm. -/
def rowDistance (c : TrailerClass) (row : Nat) : Int := c.d + c.p * (row : Int) - c.p / 2

/-- Division rounded toward minus infinity, for a divisor above 0 (R106 step 1). -/
def floorQuot (m l : Int) : Int := m / l

/-- Division rounded toward plus infinity, for a divisor above 0 (R106 step 2). -/
def ceilQuot (m l : Int) : Int := -((-m) / l)

/-- R106: the loads of a payload sum and a moment sum. -/
def loadsOf (c : TrailerClass) (payload moment : Int) : Loads :=
  { gross := c.k0 + c.b0 + payload
    kingpin := c.k0 + payload - floorQuot moment c.l
    bogie := c.b0 + ceilQuot moment c.l }

/-- R107: the gross check of a candidate's weight, made once per search. -/
def grossFits (c : TrailerClass) (payload : Int) (w : Nat) : Bool :=
  decide (c.k0 + c.b0 + (payload + (w : Int)) ≤ c.gmax)

/-- R107: the bogie and kingpin checks of a candidate at a row, on the trial sums. -/
def axlesFit (c : TrailerClass) (payload moment : Int) (row : Nat) (w : Nat) : Bool :=
  let trial := loadsOf c (payload + (w : Int)) (moment + (w : Int) * rowDistance c row)
  decide (trial.bogie ≤ c.bmax) && decide (trial.kingpin ≤ c.kmax)

/-- R109: whether a load of the current sums exceeds its limit. -/
def overLoaded (c : TrailerClass) (payload moment : Int) : Bool :=
  let x := loadsOf c payload moment
  decide (c.gmax < x.gross) || decide (c.bmax < x.bogie) || decide (c.kmax < x.kingpin)

/-- R112: the gross margin, floored at 0 and clamped to 65,535. -/
def grossMargin (c : TrailerClass) (payload : Int) : Nat :=
  min (c.gmax - (c.k0 + c.b0 + payload)).toNat 65535

/-- R111: the kingpin load below the minimum at close. -/
def lightNose (c : TrailerClass) (x : Loads) : Bool := decide (x.kingpin < c.kmin)

end Sys2Proof.Machine
end

