-- ==== Sys2Proof/Machine/Plan.lean ====
section
/-! DEFINITION. The load plan as data (chapter 5): positions and stacks, face row and open band, the
sums (R103, R104), the steps after a change of contents (R87), candidate spots and the search (R88 to
R90), drops (R91) and openings (R97). Pure functions of a plan and a trailer class. -/

namespace Sys2Proof.Machine

/-! ## Positions -/

def rowNumbers : List Nat := [1, 2, 3, 4, 5, 6, 7, 8, 9, 10, 11, 12, 13]

def sideIndex : Side → Nat
  | .left => 0
  | .right => 1

/-- The place of a position among the 26: row order, LEFT before RIGHT. -/
def stackIndex (row : Nat) (sd : Side) : Nat := 2 * (row - 1) + sideIndex sd

/-- The positions of some rows, LEFT before RIGHT within a row. -/
def positionsIn (rows : List Nat) : List (Nat × Side) := rows.flatMap fun r => [(r, .left), (r, .right)]

def allPositions : List (Nat × Side) := positionsIn rowNumbers

def stackAt (p : Plan) (row : Nat) (sd : Side) : List Tier := p.floorStacks[stackIndex row sd]?.getD []

def setStack (p : Plan) (row : Nat) (sd : Side) (st : List Tier) : Plan :=
  { p with floorStacks := p.floorStacks.setIfInBounds (stackIndex row sd) st }

def tierPallet : Tier → Nat
  | .landed l => l.pallet
  | .reserved r => r.pallet

def tierHeight : Tier → HeightClass
  | .landed l => l.height
  | .reserved r => r.height

def isReserved : Tier → Bool
  | .reserved _ => true
  | .landed _ => false

/-- Where a pallet ID stands in the plan: row, side, number of tiers beneath it, and its tier. -/
structure Standing where
  row : Nat
  side : Side
  beneath : Nat
  tier : Tier
  deriving DecidableEq, Repr

/-- A pallet ID in one stack, counted from the bottom. -/
def findInStack (pallet : Nat) : List Tier → Nat → Option (Nat × Tier)
  | [], _ => none
  | t :: rest, n => if tierPallet t = pallet then some (n, t) else findInStack pallet rest (n + 1)

/-- A pallet ID among all tiers of all positions (R114 check 3, R120, R126). -/
def findInPlan (p : Plan) (pallet : Nat) : Option Standing :=
  allPositions.findSome? fun pos =>
    (findInStack pallet (stackAt p pos.1 pos.2) 0).map fun f =>
      { row := pos.1, side := pos.2, beneath := f.1, tier := f.2 }

/-! ## Face row and open band (R86) -/

def holdsLanded (st : List Tier) : Bool := st.any fun t => !isReserved t

def rowHoldsLanded (p : Plan) (row : Nat) : Bool :=
  holdsLanded (stackAt p row .left) || holdsLanded (stackAt p row .right)

/-- The highest-numbered row that holds a landed pallet, or 0. -/
def faceOf (p : Plan) : Nat := ((rowNumbers.reverse).find? fun r => rowHoldsLanded p r).getD 0

def openBand (face : Nat) : List Nat :=
  if face = 0 then [1] else if 13 ≤ face then [13] else [face, face + 1]

def bandPositions (p : Plan) : List (Nat × Side) := positionsIn (openBand p.face)

/-! ## Reservations and sums (R84, R103, R104) -/

/-- A position's reservation, which is its top tier. -/
def topReservation (st : List Tier) : Option Reservation :=
  match st.getLast? with
  | some (.reserved r) => some r
  | _ => none

/-- R104: a weight added at a row (taken away when negative). -/
def addWeight (c : TrailerClass) (p : Plan) (row : Nat) (w : Int) : Plan :=
  { p with payload := p.payload + w, moment := p.moment + w * rowDistance c row }

/-- A tier set on top of a position. -/
def pushTier (p : Plan) (row : Nat) (sd : Side) (t : Tier) : Plan :=
  setStack p row sd (stackAt p row sd ++ [t])

/-- The top tier of a position taken off. -/
def popTier (p : Plan) (row : Nat) (sd : Side) : Plan := setStack p row sd (stackAt p row sd).dropLast

/-- A position's reservation removed, its grant weight leaving the sums (R104). -/
def dropTopReservation (c : TrailerClass) (p : Plan) (row : Nat) (sd : Side) : Plan :=
  match topReservation (stackAt p row sd) with
  | some r => addWeight c (popTier p row sd) row (-(r.grant : Int))
  | none => p

/-- The reservations at some positions, in the positions' order. -/
def reservationsAt (p : Plan) (l : List (Nat × Side)) : List (Nat × Side × Reservation) :=
  l.filterMap fun pos => (topReservation (stackAt p pos.1 pos.2)).map fun r => (pos.1, pos.2, r)

def allReservations (p : Plan) : List (Nat × Side × Reservation) := reservationsAt p allPositions

/-! ## After a change of contents (R87) -/

/-- A plan after the three steps, with the reservations step 2 strands, in its order. -/
structure Restowed where
  plan : Plan
  stranded : List Reservation
  deriving DecidableEq, Repr

/-- Step 3 (R93, R109). -/
def withOver (c : TrailerClass) (p : Plan) : Plan :=
  { p with overLimit := overLoaded c p.payload p.moment }

/-- Steps 1 to 3 of R87. -/
def restow (c : TrailerClass) (p : Plan) : Restowed :=
  let p1 := { p with face := faceOf p }
  let outside := reservationsAt p1 (allPositions.filter fun pos => !(openBand p1.face).contains pos.1)
  let p2 := outside.foldl (fun q x => dropTopReservation c q x.1 x.2.1) p1
  { plan := withOver c p2, stranded := outside.map fun x => x.2.2 }

/-! ## Finding a spot (R88 to R90) -/

/-- The height of a stack in mm (R85). -/
def stackHeight (st : List Tier) : Nat := (st.map fun t => nominalHeight (tierHeight t)).sum

/-- The fourth test of R88: the top of a stack that is not empty. The weight test is left out for
openings (R97). -/
def restsOn (w : Option Nat) (stackable : Bool) (st : List Tier) : Bool :=
  match st.getLast? with
  | none => true
  | some (.landed l) =>
    l.stackable && stackable &&
      (match w with
       | some w => decide (w ≤ l.grant)
       | none => true)
  | some (.reserved _) => false

/-- R88: whether a position gives a spot. -/
def isCandidate (c : TrailerClass) (h : HeightClass) (stackable : Bool) (w : Option Nat) (st : List Tier) : Bool :=
  !st.any isReserved && decide (st.length < 3) &&
    decide (stackHeight st + nominalHeight h ≤ c.h) && restsOn w stackable st

/-- R90: a position that would be a candidate were its reservation taken away. -/
def reservationBlocked (c : TrailerClass) (h : HeightClass) (stackable : Bool) (w : Nat) (st : List Tier) : Bool :=
  (topReservation st).isSome && isCandidate c h stackable (some w) st.dropLast

/-- What a search names (R89, R90). -/
inductive SpotResult where
  | spot (row : Nat) (side : Side) (tier : Nat)
  | nowhere (reason : RefuseReason)
  deriving DecidableEq, Repr

/-- R89 and R90: the search over the band of a plan. -/
def searchSpot (c : TrailerClass) (p : Plan) (w : Nat) (h : HeightClass) (stackable : Bool) : SpotResult :=
  let cands := (bandPositions p).filter fun pos => isCandidate c h stackable (some w) (stackAt p pos.1 pos.2)
  if cands = [] then
    if (bandPositions p).any fun pos => reservationBlocked c h stackable w (stackAt p pos.1 pos.2)
    then .nowhere .busy else .nowhere .full
  else if !grossFits c p.payload w then .nowhere .gross
  else
    match cands.find? fun pos => axlesFit c p.payload p.moment pos.1 w with
    | some pos => .spot pos.1 pos.2 ((stackAt p pos.1 pos.2).length + 1)
    | none => .nowhere .axle

/-- R97: the opening counts of an OPEN plan. -/
def planOpenings (c : TrailerClass) (p : Plan) : Openings :=
  openingsOf fun h => (bandPositions p).countP fun pos => isCandidate c h true none (stackAt p pos.1 pos.2)

/-! ## Drops and phase (R91) -/

/-- The accepting destination of the phase; 0 where there is none. -/
def acceptingDest (p : Plan) : Nat :=
  match p.phase with
  | some .far => p.far.getD 0
  | some .near => p.near
  | none => 0

/-- The bound trunk's other destination, which only a two-drop trunk has. -/
def otherDest (p : Plan) : Option Nat :=
  match p.phase, p.far with
  | some .far, some _ => some p.near
  | some .near, some f => some f
  | _, _ => none

/-- A destination judged against the plan (R91). -/
inductive DropJudgement where
  | accepted (drop : Phase)
  | other
  | neither
  deriving DecidableEq, Repr

def judgeDest (p : Plan) (dest : Nat) : DropJudgement :=
  match p.phase with
  | none => .neither
  | some ph =>
    if validDest dest ∧ dest = acceptingDest p then .accepted ph
    else if validDest dest ∧ otherDest p = some dest then .other
    else .neither

/-- Landed pallets of a drop (R167). -/
def landedCount (p : Plan) (drop : Phase) : Nat :=
  (allPositions.map fun pos => (stackAt p pos.1 pos.2).countP fun t =>
    match t with
    | .landed l => decide (l.drop = drop)
    | .reserved _ => false).sum

end Sys2Proof.Machine
end

