-- ==== Sys2Proof/Machine/Lpu.lean ====
section
/-! DEFINITION. The load plan unit (chapters 5, 7 and 10): asks for trailer places, landings, walk-ins,
removals, releases, the marks, the figures told to peers, the closing record and the plan's life. -/

namespace Sys2Proof.Machine

/-! ## The plan in the state -/

def State.plan (s : State) : Plan := s.lpu.plan

/-- The parameters of a trailer class of the configuration record (R101). -/
def State.trailerClass (s : State) (cls : Nat) : TrailerClass :=
  (s.scu.config.classes[cls]?).getD defaultClass

/-- The class of the plan. -/
def State.planClass (s : State) : TrailerClass := s.trailerClass s.plan.cls

def State.setPlan (s : State) (p : Plan) : State := { s with lpu := { s.lpu with plan := p } }

def planOpen (s : State) : Bool := decide (s.plan.state = .opened)

/-- The plan stored after a change of contents; OVER is raised when its mark goes from clear to set (R93). -/
def State.storePlan (s : State) (p : Plan) : State :=
  (s.setPlan p).raiseIf (p.overLimit && !s.plan.overLimit) .overLimit

/-- R117, R127, R18: a reservation given up to its asker: to a peer by a RELEASE frame, to the bay's own
MLU within the bay. -/
def State.giveUp (s : State) (reason : ReleaseReason) (r : Reservation) : State :=
  if r.asker = 0 then s.hand (.ownTrailerAnswer r.pallet (.released reason))
  else
    s.lpuOffer r.asker
      (.release { pallet := r.pallet, asker := r.asker, seq := r.seq.getD 0, reason := reason })

def State.giveUpAll (s : State) (reason : ReleaseReason) (l : List Reservation) : State :=
  l.foldl (fun s r => s.giveUp reason r) s

/-- R125, R163: in CLOSING, each change that leaves the plan with no reservation is reported. -/
def State.reportIfEmpty (s : State) : State :=
  if s.inState .closing && (allReservations s.plan).isEmpty then s.hand .noReservationReport else s

/-- R87 and R125: a change of contents stored, the releases it calls for given up after the event's own
answer, and the report of CLOSING made. -/
def State.changePlan (s : State) (p : Plan) (answer : State → State) (taken : List Reservation) : State :=
  let r := restow s.planClass p
  (((answer (s.storePlan r.plan)).giveUpAll .stranded taken).giveUpAll .stranded r.stranded).reportIfEmpty

/-- A reservation removed as a change of contents and given up by `notify` (R117, R118, R119). -/
def State.removeReservation (s : State) (row : Nat) (sd : Side) (notify : State → State) : State :=
  s.changePlan (dropTopReservation s.planClass s.plan row sd) notify []

/-- The reservation of a pallet ID, with its position. -/
def State.findReservation (s : State) (pallet : Nat) : Option (Nat × Side × Reservation) :=
  match findInPlan s.plan pallet with
  | some x =>
    match x.tier with
    | .reserved r => some (x.row, x.side, r)
    | .landed _ => none
  | none => none

/-! ## Figures (R95, R96, R97, R112) -/

/-- The gross margin as it stands; 0 with the plan ABSENT (R96). -/
def State.planMargin (s : State) : Nat :=
  if s.plan.state = .absent then 0 else grossMargin s.planClass s.plan.payload

/-- R95: the accepting destination told to peers. -/
def State.acceptingFigure (s : State) : Nat :=
  if s.inState .outbound && planOpen s then acceptingDest s.plan else 0

/-- R95, R113: the cut-off remaining told to peers; with no copy of the binding held it is a free value.
DESIGN CHOICE: notes/assumptions/43.md. -/
def State.cutOffFigure (s : State) : Nat :=
  if (s.inState .outbound && planOpen s) || (s.inState .closing && planOpen s) ||
      (s.inState .closed && decide (s.plan.state = .final)) then
    match s.lpu.binding with
    | some b => minutesUntil b.cutOff s.now
    | none => min (Config.unboundCutOff s.serial s.now) 600
  else 0

/-- R97: the openings told to peers. -/
def State.openingsFigure (s : State) : Openings :=
  if s.inState .outbound && planOpen s then planOpenings s.planClass s.plan else noOpenings

/-- R98: the own-trailer summary; a bay OUTBOUND whose plan is not OPEN has no own trailer yet. DEDUCED:
notes/assumptions/39.md. -/
def State.ownSummary (s : State) : Option OwnSummary :=
  if s.inState .outbound && planOpen s then
    some { dest := s.acceptingFigure, cutOff := s.cutOffFigure, margin := s.planMargin,
           openings := s.openingsFigure }
  else none

/-! ## Asks (R114 to R116) -/

/-- What an asker asks a trailer place for. -/
structure PlaceAsk where
  asker : Nat
  seq : Option Nat
  pallet : Nat
  dest : Nat
  weight : Nat
  height : HeightClass
  stackable : Bool
  deriving DecidableEq, Repr

inductive AskVerdict where
  | refuse (reason : RefuseReason)
  | regrant (row : Nat) (side : Side) (tier : Nat) (r : Reservation)
  | grant (row : Nat) (side : Side) (tier : Nat) (drop : Phase)
  deriving DecidableEq, Repr

/-- R114 check 4: SUSPENDED, OVER or PLAN_MISMATCH stands. -/
def State.held (s : State) : Bool := s.dcu.suspended || s.plan.overLimit || s.plan.mismatch

/-- R116: the weight judged, then the search. -/
def searchForAsk (s : State) (a : PlaceAsk) (drop : Phase) : AskVerdict :=
  if !validWeight a.weight then .refuse .gross
  else
    match searchSpot s.planClass s.plan a.weight a.height a.stackable with
    | .spot row sd tier => .grant row sd tier drop
    | .nowhere reason => .refuse reason

/-- Checks 3 to 5 of R114 for an ask of the phase's drop. -/
def judgeAccepted (s : State) (a : PlaceAsk) (drop : Phase) : AskVerdict :=
  match findInPlan s.plan a.pallet with
  | some x =>
    match x.tier with
    | .reserved r => if r.asker = a.asker then .regrant x.row x.side (x.beneath + 1) r else .refuse .duplicate
    | .landed _ => .refuse .duplicate
  | none => if s.held then .refuse .held else searchForAsk s a drop

/-- R114: the checks in their order. -/
def judgeAsk (s : State) (a : PlaceAsk) : AskVerdict :=
  if !(s.inState .outbound && planOpen s) then .refuse .closed
  else
    match judgeDest s.plan a.dest with
    | .other => .refuse .order
    | .neither => .refuse .wrongDest
    | .accepted drop => judgeAccepted s a drop

/-- R116: the reservation a grant makes. -/
def newReservation (s : State) (a : PlaceAsk) (drop : Phase) : Reservation :=
  { pallet := a.pallet, asker := a.asker, seq := a.seq, grant := a.weight, height := a.height,
    stackable := a.stackable, drop := drop, expiry := s.now + s.scu.config.holdBeats }

/-- The plan with a reservation set at a spot and counted in the sums (R104). -/
def planWithReservation (s : State) (row : Nat) (sd : Side) (r : Reservation) : Plan :=
  addWeight s.planClass (pushTier s.plan row sd (.reserved r)) row r.grant

/-- The GRANT of a trailer place. -/
def trailerGrant (s : State) (a : PlaceAsk) (row : Nat) (sd : Side) (tier hold : Nat) : Body :=
  .grant { asker := a.asker, seq := a.seq.getD 0, pallet := a.pallet, place := .trailer row sd tier,
           hold := hold, margin := s.planMargin }

/-- The top reservation of a position given a new ask sequence (R115). -/
def withReservationSeq (p : Plan) (row : Nat) (sd : Side) (seq : Option Nat) (r : Reservation) : Plan :=
  setStack p row sd ((stackAt p row sd).dropLast ++ [.reserved { r with seq := seq }])

/-- The place ask of an ASK frame. -/
def placeAskOf (sender : Nat) (b : AskBody) : PlaceAsk :=
  { asker := sender, seq := some b.seq, pallet := b.pallet, dest := b.dest, weight := b.weight,
    height := b.height, stackable := b.stackable }

/-- The place ask of a drain of the bay's own: asker 0, no sequence (R114). -/
def placeAskOfOwn (a : OwnAsk) : PlaceAsk :=
  { asker := 0, seq := none, pallet := a.pallet, dest := a.dest, weight := a.weight,
    height := a.height, stackable := a.stackable }

/-! ## Reads into the trailer (R120 to R124) -/

/-- R121: the measured weight of a landing. -/
def landingWeight (r : PalletRead) (res : Reservation) : Nat :=
  match r.scale with
  | .ok kg => kg
  | _ => res.grant

/-- R123: the weight a walk-in is searched with. -/
def walkinWeight (r : PalletRead) : Nat :=
  match r.scale with
  | .ok kg => kg
  | _ => classMaxWeight r.height

def landedFrom (res : Reservation) (measured : Nat) : Landed :=
  { pallet := res.pallet, grant := res.grant, measured := measured, height := res.height,
    stackable := res.stackable, drop := res.drop, asker := res.asker }

/-- R104, R121: the plan with a reservation made landed at its measured weight. -/
def planWithLanding (s : State) (row : Nat) (sd : Side) (res : Reservation) (m : Nat) : Plan :=
  addWeight s.planClass
    (setStack s.plan row sd ((stackAt s.plan row sd).dropLast ++ [.landed (landedFrom res m)]))
    row ((m : Int) - (res.grant : Int))

/-- R125: a PLACED offered, with its notes to the DSU and the MLU. -/
def State.announcePlaced (s : State) (pallet asker row : Nat) (sd : Side) (tier : Nat) : State :=
  let body : PlacedBody :=
    { pallet := pallet, asker := asker, place := .trailer row sd tier, margin := s.planMargin }
  ((s.lpuOffer 0 (.placed body)).hand (.placedNote pallet asker (.trailer row sd tier))).hand
    (.mluPlaced s.own body)

/-- R121. -/
def State.land (s : State) (r : PalletRead) (row : Nat) (sd : Side) (tier : Nat) (res : Reservation) : State :=
  ((s.raiseIf (scaleFaulty r.scale) .scaleFault).changePlan
    (planWithLanding s row sd res (landingWeight r res))
    (fun t => t.announcePlaced res.pallet res.asker row sd tier) []).indicate .lpu (.loadAt row sd tier) none

/-- R123: a walk-in refused. -/
def State.refuseWalkin (s : State) : State :=
  (s.indicate .lpu .refused none).raiseNotice .walkinRefused

/-- R124: the landed pallet of a walk-in. -/
def walkinLanded (r : PalletRead) (drop : Phase) : Landed :=
  { pallet := r.pallet, grant := walkinWeight r, measured := walkinWeight r, height := r.height,
    stackable := r.stackable, drop := drop, asker := 0 }

def planWithWalkin (s : State) (row : Nat) (sd : Side) (r : PalletRead) (drop : Phase) : Plan :=
  addWeight s.planClass (pushTier s.plan row sd (.landed (walkinLanded r drop))) row (walkinWeight r)

/-- R124: a walk-in landed directly at a spot. -/
def State.landWalkin (s : State) (r : PalletRead) (row : Nat) (sd : Side) (tier : Nat) (drop : Phase) : State :=
  (s.changePlan (planWithWalkin s row sd r drop)
    (fun t => t.announcePlaced r.pallet 0 row sd tier) []).indicate .lpu (.walkinAt row sd tier) none

/-- R123: cases 1 to 5 in their order. -/
def State.judgeWalkin (s : State) (r : PalletRead) : State :=
  if s.inState .closing || !planOpen s then s.refuseWalkin
  else
    match judgeDest s.plan r.dest with
    | .accepted drop =>
      if s.plan.overLimit || s.plan.mismatch || decide (r.scale = .overload) then s.refuseWalkin
      else
        match searchSpot s.planClass s.plan (walkinWeight r) r.height r.stackable with
        | .spot row sd tier => s.landWalkin r row sd tier drop
        | .nowhere _ => s.refuseWalkin
    | .other => s.refuseWalkin
    | .neither => s.refuseWalkin

/-- R123: a walk-in; ZERO and OVER raise SCALE_FAULT whether it is landed or refused. -/
def State.walkin (s : State) (r : PalletRead) : State :=
  (s.raiseIf (scaleFaulty r.scale) .scaleFault).judgeWalkin r

/-! ## Reads out of the trailer (R126 to R128) -/

/-- R126: a landed top removed. -/
def planWithout (s : State) (row : Nat) (sd : Side) (l : Landed) : Plan :=
  addWeight s.planClass (popTier s.plan row sd) row (-(l.measured : Int))

/-- R127: the reservation above a landed pallet removed, then the landed pallet. -/
def planWithoutBoth (s : State) (row : Nat) (sd : Side) (l : Landed) : Plan :=
  addWeight s.planClass (popTier (dropTopReservation s.planClass s.plan row sd) row sd) row (-(l.measured : Int))

/-- R128: PLAN_MISMATCH set. -/
def State.mismatchRead (s : State) : State :=
  ((s.setPlan { s.plan with mismatch := true }).raiseNotice .planMismatch).indicate .lpu .refused none

/-- R126 to R128 for a landed pallet of an OPEN plan. -/
def State.removeLanded (s : State) (x : Standing) (l : Landed) : State :=
  let st := stackAt s.plan x.row x.side
  if !(openBand s.plan.face).contains x.row then s.mismatchRead
  else if x.beneath + 1 = st.length then s.changePlan (planWithout s x.row x.side l) id []
  else if x.beneath + 2 = st.length then
    match topReservation st with
    | some res => s.changePlan (planWithoutBoth s x.row x.side l) id [res]
    | none => s.mismatchRead
  else s.mismatchRead

/-! ## The close (R110, R111, R166 to R168) -/

/-- R167: the trailer ID of a closing record: that of the binding's copy, and with no copy held a free value of
8 characters. DESIGN CHOICE: notes/assumptions/40.md. -/
def State.boundTrailerId (s : State) : Vector Byte 8 :=
  match s.lpu.binding with
  | some b => b.trailerId
  | none => (Config.unboundTrailerId s.serial).map fun x => x &&& 0x7F

/-- R167: the closing record formed from the plan as the releases left it. -/
def closingRecordOf (s : State) (aborted : Bool) : ClosingRecord :=
  let x := loadsOf s.planClass s.plan.payload s.plan.moment
  { body :=
      { trailerId := s.boundTrailerId
        cls := s.plan.cls, near := s.plan.near, far := s.plan.far.getD 0,
        landedNear := landedCount s.plan .near, landedFar := landedCount s.plan .far,
        payload := s.plan.payload, gross := x.gross, kingpin := x.kingpin, bogie := x.bogie,
        aborted := aborted, overLimit := s.plan.overLimit, lightNose := lightNose s.planClass x }
    mismatch := s.plan.mismatch
    formedAt := s.now }

/-- Steps 2 and 3 of R166 and of R18: the record formed and kept, LIGHT_NOSE raised, CLOSE offered. -/
def State.formClosing (s : State) (aborted : Bool) : State :=
  let r := closingRecordOf s aborted
  (({ s with lpu := { s.lpu with closing := some r } }).raiseIf r.body.lightNose .lightNose).lpuOfferClose r.body

/-- Step 1 of R166 and of R18: every reservation released in row order, LEFT before RIGHT, each as a
change of contents. -/
def State.releaseEvery (s : State) (reason : ReleaseReason) : State :=
  (allReservations s.plan).foldl
    (fun s x => s.removeReservation x.1 x.2.1 fun t => t.giveUp reason x.2.2) s

/-! ## Frames that failed (R118, R131) -/

/-- R118: a GRANT reported "send failed" or "muted". -/
def State.lpuGrantFailed (s : State) (b : GrantBody) : State :=
  match s.findReservation b.pallet with
  | some (row, sd, r) =>
    if r.asker = b.asker ∧ r.seq = some b.seq then s.removeReservation row sd id else s
  | none => s

/-! ## The commands -/

/-- BEGIN_PLAN (R82): the plan OPEN and empty; OVER computed from the empty plan, and raised if set. -/
def execBeginPlan (cls near : Nat) (far : Option Nat) (phase : Phase) (s : State) :
    Host.Outcome State Fault Refusal :=
  taken (.beginPlan cls near far phase) s fun s =>
    let p := withOver (s.trailerClass cls)
      { absentPlan with state := .opened, cls := cls, near := near, far := far, phase := some phase }
    (s.setPlan p).raiseIf p.overLimit .overLimit

/-- LPU_ASK (R114 to R116): the answer travels by a frame, and a GRANT the queue refuses leaves the plan
as it stood. -/
def execLpuAsk (sender : Nat) (b : AskBody) (s : State) : Host.Outcome State Fault Refusal :=
  taken (.lpuAsk sender b) s fun s =>
    let a := placeAskOf sender b
    match judgeAsk s a with
    | .refuse reason =>
      s.offerAnswer .lpu sender (.refuse { asker := sender, seq := b.seq, pallet := b.pallet, reason := reason })
    | .regrant row sd tier r =>
      match s.offerResult with
      | .placed =>
        (s.offerAnswer .lpu sender (trailerGrant s a row sd tier (r.expiry - s.now))).setPlan
          (withReservationSeq s.plan row sd a.seq r)
      | _ => s
    | .grant row sd tier drop =>
      match s.offerResult with
      | .placed =>
        s.changePlan (planWithReservation s row sd (newReservation s a drop))
          (fun t => t.offerAnswer .lpu sender (trailerGrant t a row sd tier s.scu.config.holdBeats)) []
      | _ => s

/-- OWN_TRAILER_ASK (R114 to R116): the answer is handed to the MLU in the same event. -/
def execOwnTrailerAsk (a : OwnAsk) (s : State) : Host.Outcome State Fault Refusal :=
  taken (.ownTrailerAsk a) s fun s =>
    match judgeAsk s (placeAskOfOwn a) with
    | .refuse reason => s.hand (.ownTrailerAnswer a.pallet (.refused reason))
    | .regrant row sd tier r =>
      s.hand (.ownTrailerAnswer a.pallet (.granted row sd tier (r.expiry - s.now)))
    | .grant row sd tier drop =>
      s.changePlan (planWithReservation s row sd (newReservation s (placeAskOfOwn a) drop))
        (fun t => t.hand (.ownTrailerAnswer a.pallet (.granted row sd tier s.scu.config.holdBeats))) []

/-- RESERVATION_EXPIRY (R117). -/
def execReservationExpiry (pallet : Nat) (s : State) : Host.Outcome State Fault Refusal :=
  taken (.reservationExpiry pallet) s fun s =>
    match s.findReservation pallet with
    | some (row, sd, r) =>
      if planOpen s ∧ r.expiry ≤ s.now then s.removeReservation row sd fun t => t.giveUp .expired r else s
    | none => s

/-- LPU_RELEASE (R119): LATE or CANCEL, matched by pallet ID and asker bay. -/
def execLpuRelease (sender : Nat) (b : ReleaseBody) (s : State) : Host.Outcome State Fault Refusal :=
  taken (.lpuRelease sender b) s fun s =>
    match s.findReservation b.pallet with
    | some (row, sd, r) =>
      if planOpen s ∧ !granterReason b.reason ∧ r.asker = b.asker then s.removeReservation row sd id else s
    | none => s

/-- OWN_DRAIN_RELEASE (R119): the MLU gives up a reservation with asker 0. -/
def execOwnDrainRelease (pallet : Nat) (reason : ReleaseReason) (s : State) :
    Host.Outcome State Fault Refusal :=
  taken (.ownDrainRelease pallet reason) s fun s =>
    match s.findReservation pallet with
    | some (row, sd, r) =>
      if planOpen s ∧ !granterReason reason ∧ r.asker = 0 then s.removeReservation row sd id else s
    | none => s

/-- LPU_DOOR_READ_INTO (R120 to R124). -/
def execLpuDoorReadInto (r : PalletRead) (s : State) : Host.Outcome State Fault Refusal :=
  taken (.lpuDoorReadInto r) s fun s =>
    match findInPlan s.plan r.pallet with
    | some x =>
      match x.tier with
      | .reserved res => s.land r x.row x.side (x.beneath + 1) res
      | .landed _ => s.raiseNotice .strayRead
    | none => s.walkin r

/-- LPU_DOOR_READ_OUT (R126 to R128); a plan that is not OPEN takes no removal (R83). -/
def execLpuDoorReadOut (r : PalletRead) (s : State) : Host.Outcome State Fault Refusal :=
  taken (.lpuDoorReadOut r) s fun s =>
    match findInPlan s.plan r.pallet with
    | some x =>
      match x.tier with
      | .landed l => if planOpen s then s.removeLanded x l else s.raiseNotice .strayRead
      | .reserved _ => s.raiseNotice .strayRead
    | none => s.raiseNotice .strayRead

/-- OWN_TRAILER_SUMMARY (R98): the answer goes to the drain search that asked. -/
def execOwnTrailerSummary (lane token : Nat) (s : State) : Host.Outcome State Fault Refusal :=
  taken (.ownTrailerSummary lane token) s fun s =>
    s.joinDrain lane token fun q => { q with own := some s.ownSummary }

/-- CLOSE_REQUEST_CLOSING (R162). -/
def execCloseRequestClosing (s : State) : Host.Outcome State Fault Refusal :=
  taken .closeRequestClosing s fun s =>
    if planOpen s && (allReservations s.plan).isEmpty then s.hand .noReservationReport else s

/-- CLOSE_REQUEST_CLOSED (R166): steps 1 to 5 in order. DEDUCED: notes/assumptions/22.md. -/
def execCloseRequestClosed (s : State) : Host.Outcome State Fault Refusal :=
  taken .closeRequestClosed s fun s =>
    if planOpen s then
      let t := ((s.releaseEvery .cutoff).formClosing false).indicate .lpu .closed none
      t.setPlan { t.plan with state := .final }
    else s

/-- DEPARTURE_REQUEST (R83, R170). -/
def execDepartureRequest (s : State) : Host.Outcome State Fault Refusal :=
  taken .departureRequest s fun s => { s with lpu := { s.lpu with plan := absentPlan, binding := none } }

/-- ABORT_REQUEST (R18, R171): steps 1 to 4 in order, and the copy of the binding cleared (R83). -/
def execAbortRequest (s : State) : Host.Outcome State Fault Refusal :=
  taken .abortRequest s fun s =>
    let t := if planOpen s then (s.releaseEvery .undock).formClosing true else s
    { t with lpu := { t.lpu with plan := absentPlan, binding := none } }

/-- The loads READ PLAN reports: those of the bound class; with no class bound, the free value. -/
def reportedLoads (s : State) : Loads :=
  if s.plan.state = .absent then
    match s.lpu.binding with
    | some b => loadsOf (s.trailerClass b.cls) 0 0
    | none => Config.unboundLoads s.serial
  else loadsOf s.planClass s.plan.payload s.plan.moment

/-- READ_PLAN (R99). -/
def execReadPlan (s : State) : Host.Outcome State Fault Refusal :=
  request s fun s =>
    (s.bump).answer .readPlan .ok (.plan
      { state := s.plan.state, binding := s.lpu.binding, phase := s.plan.phase, face := s.plan.face,
        band := openBand s.plan.face, floorStacks := s.plan.floorStacks, payload := s.plan.payload,
        moment := s.plan.moment, loads := reportedLoads s, overLimit := s.plan.overLimit,
        mismatch := s.plan.mismatch, closing := s.lpu.closing })

/-- CLEAR_HOLD (R129). -/
def execClearHold (s : State) : Host.Outcome State Fault Refusal :=
  request s fun s =>
    if planOpen s ∧ s.plan.mismatch then
      (s.setPlan { s.plan with mismatch := false }).answer .clearHold .ok .nothing
    else s.answer .clearHold .state .nothing

/-- READ_CLOSING_RECORD (R178). -/
def execReadClosingRecord (s : State) : Host.Outcome State Fault Refusal :=
  request s fun s => s.answer .readClosingRecord .ok (.closing s.lpu.closing)

end Sys2Proof.Machine
end

