-- ==== Sys2Proof/Machine/Mlu.lean ====
section
/-! DEFINITION. The marshalling lane unit (chapter 8): puts, lane reads, exit events, drains, lamp faults
and recovery. -/

namespace Sys2Proof.Machine

/-! ## Lanes -/

/-- The lane numbers a bay can have (0.4.28). -/
def laneNumbers : List Nat := [1, 2, 3, 4]

/-- A lane newly present, or any lane after a reset (R146, R148). That no-put begins clear in a lane newly present,
though its lamp channel may carry OPEN or SHORT by then, is a DESIGN CHOICE: notes/assumptions/45.md. -/
def suspectLane (k : Nat) : Lane :=
  { number := k, assignment := .suspect, dest := none, high := false, noPut := false, blocked := false,
    items := [], puts := [], drain := none }

/-- The lanes present for a count: those that stand, cut to the count, and new ones SUSPECT (R146), with no-put clear
(notes/assumptions/45.md). -/
def lanesFor (old : List Lane) (count : Nat) : List Lane :=
  (laneNumbers.filter fun k => decide (k ≤ count)).map fun k =>
    (old.find? fun l => decide (l.number = k)).getD (suspectLane k)

/-- The lane count in force made present (R146, R174). -/
def State.setLaneCount (s : State) (count : Nat) : State :=
  { s with mlu := { s.mlu with lanes := lanesFor s.mlu.lanes count } }

/-- The lowest-numbered lane that meets a test. -/
def State.firstLane (s : State) (p : Lane → Bool) : Option Nat := (s.mlu.lanes.find? p).map Lane.number

/-- R134 check 5, R135: an ASSIGNED lane for a destination that may take a put. -/
def takesPut (dest : Nat) (l : Lane) : Bool :=
  decide (l.assignment = .assigned) && decide (l.dest = some dest) && !l.high && !l.noPut &&
    decide (laneFill l < laneCapacity)

/-- R134 check 6, R135: a FREE lane that may take a put. -/
def freeForPut (l : Lane) : Bool := decide (l.assignment = .free) && !l.noPut

def hasItem (pallet : Nat) (l : Lane) : Bool := l.items.any fun x => decide (x.pallet = pallet)

def hasPut (pallet : Nat) (l : Lane) : Bool := l.puts.any fun x => decide (x.pallet = pallet)

/-- R132: a pallet ID among the items or pending puts of any lane. -/
def State.inLanes (s : State) (pallet : Nat) : Bool :=
  s.mlu.lanes.any fun l => hasItem pallet l || hasPut pallet l

/-- A pending put of any lane that meets a test, with its lane's number. -/
def State.findPut (s : State) (p : Put → Bool) : Option (Nat × Put) :=
  s.mlu.lanes.findSome? fun l => (l.puts.find? p).map fun x => (l.number, x)

/-! ## The judgement after a change (R133) -/

/-- R133: an ASSIGNED lane with nothing in it, promised to it or draining from it becomes FREE. -/
def freedIfEmpty (l : Lane) : Lane :=
  if l.assignment = .assigned ∧ l.items = [] ∧ l.puts = [] ∧ l.drain = none then
    { l with assignment := .free, dest := none, high := false, blocked := false }
  else l

/-- R133: the high flag, LANE_HIGH when it goes from clear to set, then the assignment. -/
def State.judgeLane (s : State) (k : Nat) : State :=
  match s.lane? k with
  | none => s
  | some l =>
    (s.updateLane k fun l => freedIfEmpty { l with high := highAfter s.scu.config l }).raiseIf
      (highAfter s.scu.config l && !l.high) .laneHigh

/-! ## Drains (R139, R140) -/

/-- R140: a drain search begun: the PDR and the LPU are asked under a new token. -/
def State.beginDrainSearch (s : State) (k : Nat) : State :=
  match s.lane? k with
  | none => s
  | some l =>
    ((s.bump.updateDrain k fun d =>
        { d with search := some { token := s.serial, found := none, own := none } }).hand
      (.trailerCandidatesRequest (l.dest.getD 0) (.drain k s.serial))).hand (.ownTrailerSummary k s.serial)

/-- A drain record made for a head (R139). -/
def newDrain (pallet : Nat) : Drain :=
  { pallet := pallet, state := .seeking, excluded := [], target := none, seq := none, place := none,
    deadline := none, retryAt := none, owedAsk := none, search := none }

/-- R139: one lane judged for a drain at the end of an MLU event. -/
def State.judgeDrain (s : State) (k : Nat) : State :=
  match s.lane? k with
  | none => s
  | some l =>
    match l.assignment, l.items, l.drain with
    | .assigned, head :: _, none =>
      if head.foreign then s.updateLane k fun l => { l with blocked := true }
      else (s.updateLane k fun l => { l with drain := some (newDrain head.pallet) }).beginDrainSearch k
    | _, _, _ => s

/-- The end of every MLU event (R139). The lanes are judged in number order. DESIGN CHOICE:
notes/assumptions/33.md. -/
def State.mluEnd (s : State) : State := laneNumbers.foldl (fun s k => s.judgeDrain k) s

/-- R139: a change of the head clears a drain record in SEEKING or ASKED, and blocked. -/
def headChanged (l : Lane) : Lane :=
  match l.drain with
  | some d => if d.state = .seeking ∨ d.state = .asked then { l with drain := none, blocked := false } else l
  | none => { l with blocked := false }

/-- The drain back in SEEKING (R142). -/
def drainSeeking (d : Drain) (retryAt : Option Nat) : Drain :=
  { d with state := .seeking, target := none, seq := none, place := none, deadline := none,
           retryAt := retryAt, owedAsk := none, search := none }

/-- R142: back in SEEKING with no retry-after beat, and a search begun. -/
def State.drainSearchAgain (s : State) (k : Nat) : State :=
  (s.updateDrain k fun d => drainSeeking d none).beginDrainSearch k

/-- The drain record cleared, and the lane judged (R133, R144). -/
def State.clearDrain (s : State) (k : Nat) : State :=
  (s.updateLane k fun l => { l with drain := none }).judgeLane k

/-- The lowest-numbered lane whose drain record meets a test, with the record. -/
def State.findDrain (s : State) (p : Drain → Bool) : Option (Nat × Drain) :=
  s.mlu.lanes.findSome? fun l => (l.drain.filter p).map fun d => (l.number, d)

/-- Whether the drain record of some lane meets a test. -/
def State.anyDrain (s : State) (p : Drain → Bool) : Bool := s.mlu.lanes.any fun l => l.drain.any p

def State.drainAt (s : State) (k : Nat) : Option Drain := (s.lane? k).bind fun l => l.drain

/-- An action on the drain record of each lane that meets a test: a pallet may be IN_TRANSIT from one lane and
stand again at the head of another (R143, R144). The lanes act in number order. DESIGN CHOICE:
notes/assumptions/33.md. -/
def State.eachDrain (s : State) (p : Drain → Bool) (f : State → Nat → Drain → State) : State :=
  laneNumbers.foldl (fun s k =>
    match s.drainAt k with
    | some d => if p d then f s k d else s
    | none => s) s

/-- R144: the place of a drain given up with CANCEL, by a RELEASE frame to a peer or within the bay. -/
def State.cancelDrainPlace (s : State) (d : Drain) : State :=
  match d.target with
  | none => s
  | some t =>
    if t = s.own then s.hand (.ownDrainRelease d.pallet .cancel)
    else s.mluOffer t (.release { pallet := d.pallet, asker := s.own, seq := d.seq.getD 0, reason := .cancel })

/-! ## Puts (R134 to R136) -/

/-- A put removed from its lane by pallet ID, and the lane judged. -/
def State.removePut (s : State) (k pallet : Nat) : State :=
  (s.updateLane k fun l => { l with puts := l.puts.filter fun x => !decide (x.pallet = pallet) }).judgeLane k

/-- A put given up to its asker: to a peer by a RELEASE frame, a self-put to the DSU (R136, R138). -/
def State.giveUpPut (s : State) (reason : ReleaseReason) (x : Put) : State :=
  match x.seq with
  | none => s.hand (.selfPutRelease x.pallet reason)
  | some seq =>
    s.mluOffer x.asker (.release { pallet := x.pallet, asker := x.asker, seq := seq, reason := reason })

/-- A put appended to a lane, which a FREE lane takes ASSIGNED to the destination (R134, R135). -/
def putInto (dest : Nat) (x : Put) (l : Lane) : Lane :=
  if l.assignment = .free then
    { l with assignment := .assigned, dest := some dest, puts := l.puts ++ [x] }
  else { l with puts := l.puts ++ [x] }

def State.addPut (s : State) (k dest : Nat) (x : Put) : State := (s.updateLane k (putInto dest x)).judgeLane k

/-- The pending put of a peer's ASK (R134). -/
def putOfAsk (s : State) (sender : Nat) (b : AskBody) : Put :=
  { pallet := b.pallet, asker := sender, seq := some b.seq, weight := b.weight, estimated := false,
    height := b.height, stackable := b.stackable, expiry := s.now + s.scu.config.holdBeats }

/-- The pending put of a self-put (R135). -/
def putOfSelf (s : State) (p : SelfPut) : Put :=
  { pallet := p.pallet, asker := s.own, seq := none, weight := p.weight, estimated := p.estimated,
    height := p.height, stackable := p.stackable, expiry := s.now + s.scu.config.holdBeats }

inductive LaneVerdict where
  | refuse (reason : RefuseReason)
  | regrant (lane : Nat) (x : Put)
  | grant (lane : Nat)
  deriving DecidableEq, Repr

/-- R134: the checks in their order. -/
def judgeLaneAsk (s : State) (sender : Nat) (b : AskBody) : LaneVerdict :=
  if s.mlu.lanes.all fun l => decide (l.assignment = .suspect) then .refuse .noLane
  else if !validDest b.dest || !validWeight b.weight then .refuse .noLane
  else
    match s.findPut fun x => decide (x.pallet = b.pallet) && decide (x.asker = sender) with
    | some (k, x) => .regrant k x
    | none =>
      if s.inLanes b.pallet then .refuse .duplicate
      else
        match s.firstLane (takesPut b.dest) with
        | some k => .grant k
        | none =>
          match s.firstLane freeForPut with
          | some k => .grant k
          | none => .refuse .noLane

/-- The GRANT of a lane place (R134). -/
def laneGrant (sender : Nat) (b : AskBody) (k hold : Nat) : Body :=
  .grant { asker := sender, seq := b.seq, pallet := b.pallet, place := .lane k, hold := hold, margin := 0 }

/-- R135: the lane a self-put request is given. -/
def selfPutLane (s : State) (p : SelfPut) (kind : SelfPutKind) : Option Nat :=
  if s.inLanes p.pallet then none
  else
    match kind with
    | .assigned => s.firstLane (takesPut p.dest)
    | .free => s.firstLane freeForPut

/-- R136: the put of a GRANT reported "send failed" or "muted". -/
def State.mluGrantFailed (s : State) (b : GrantBody) : State :=
  match s.findPut fun x =>
      decide (x.pallet = b.pallet) && decide (x.asker = b.asker) && decide (x.seq = some b.seq) with
  | some (k, _) => (s.removePut k b.pallet).mluEnd
  | none => s

/-! ## Lane reads (R137, R138) -/

/-- A FREE lane takes the read's destination, or none when that is no code (R137, R138). -/
def assignedByRead (r : LanePut) (l : Lane) : Lane :=
  if l.assignment = .free then
    { l with assignment := .assigned, dest := if validDest r.dest then some r.dest else none }
  else l

/-- An item appended; foreign when the read's destination is not the lane's (R137, R138). -/
def appendItem (r : LanePut) (weight : Nat) (estimated : Bool) (h : HeightClass) (stackable : Bool)
    (l : Lane) : Lane :=
  let l' := assignedByRead r l
  { l' with items := l'.items ++
      [{ pallet := r.pallet, weight := weight, estimated := estimated, height := h,
         stackable := stackable, foreign := !decide (l'.dest = some r.dest) }] }

/-- R137, R138: a PLACED offered and a note of the placing handed to the DSU. -/
def State.announcePut (s : State) (pallet asker lane : Nat) (framed : Bool) : State :=
  let s' := if framed then
      s.mluOffer 0 (.placed { pallet := pallet, asker := asker, place := .lane lane, margin := 0 })
    else s
  s'.hand (.placedNote pallet asker (.lane lane))

/-- R137, R138: the newest pending put of an overfilled lane stranded. -/
def State.strandNewest (s : State) (k : Nat) : State :=
  match s.lane? k with
  | none => s
  | some l =>
    if laneFill l ≤ laneCapacity then s
    else
      match l.puts.getLast? with
      | none => s
      | some x =>
        (s.updateLane k fun l => { l with puts := l.puts.dropLast }).giveUpPut .stranded x

/-- R137: a guided put: the put consumed, the item in the read's lane, the placing announced. -/
def State.guidedPut (s : State) (r : LanePut) (putLane : Nat) (x : Put) : State :=
  let s1 := s.updateLane putLane fun l => { l with puts := l.puts.filter fun y => !decide (y.pallet = x.pallet) }
  let s2 := s1.updateLane r.lane (appendItem r x.weight x.estimated x.height x.stackable)
  let s3 := (s2.announcePut r.pallet x.asker r.lane x.seq.isSome).strandNewest r.lane
  if putLane = r.lane then s3.judgeLane r.lane else (s3.judgeLane putLane).judgeLane r.lane

/-- R138: an unguided put. -/
def State.unguidedPut (s : State) (r : LanePut) : State :=
  (((s.updateLane r.lane (appendItem r (classMaxWeight r.height) true r.height r.stackable)).announcePut
    r.pallet 0 r.lane true).strandNewest r.lane).judgeLane r.lane

/-- R137: the reads that are ignored. -/
def laneReadIgnored (s : State) (r : LanePut) : Bool :=
  match s.lane? r.lane with
  | none => true
  | some l =>
    decide (l.assignment = .suspect) || s.mlu.lanes.any (hasItem r.pallet) ||
      decide (laneCapacity ≤ l.items.length)

/-! ## Drain answers (R140 to R144) -/

/-- The candidates a drain keeps (R140): the own trailer is one more when it accepts the destination, and
while MUTE is set the PDR's are passed over. -/
def drainCandidates (s : State) (dest : Nat) (found : List TrailerCandidate) (own : Option OwnSummary) :
    List TrailerCandidate :=
  (if s.fbi.mute then [] else found) ++
    (match own with
     | some o =>
       if o.dest = dest then
         [{ bay := s.own, cutOff := o.cutOff, margin := o.margin, openings := o.openings }]
       else []
     | none => [])

/-- The drain ASKED to a target (R140). -/
def drainAsked (s : State) (target : Nat) (d : Drain) : Drain :=
  { d with state := .asked, target := some target, seq := none, retryAt := none, search := none,
           deadline := some (s.now + s.scu.config.answerTimeout) }

/-- R140: the first candidate kept is asked, or blocked is set. -/
def State.askDrain (s : State) (l : Lane) (head : Item) (d : Drain) (cands : List TrailerCandidate) : State :=
  match firstBest trailerBefore (cands.filter (trailerFits d.excluded head.weight head.height)) with
  | none =>
    s.updateLane l.number fun l =>
      { l with blocked := true, drain := l.drain.map fun d => { d with search := none } }
  | some c =>
    let s' := s.updateLane l.number fun l =>
      { l with blocked := false, drain := l.drain.map (drainAsked s c.bay) }
    if c.bay = s.own then
      s'.hand (.ownTrailerAsk { pallet := head.pallet, dest := l.dest.getD 0, weight := head.weight,
                                height := head.height, stackable := head.stackable })
    else s'.hand (.askSequenceRequest l.number head.pallet c.bay)

/-- The ASK of a drain (R140). -/
def drainAsk (l : Lane) (head : Item) (target value : Nat) : AskBody :=
  { seq := value, target := target, kind := .trailer, pallet := head.pallet, dest := l.dest.getD 0,
    weight := head.weight, height := head.height, stackable := head.stackable }

/-- R140: the ASK built with a returned value and offered. -/
def State.offerDrainAsk (s : State) (l : Lane) (head : Item) (target value : Nat) : State :=
  let ask := drainAsk l head target value
  let s' := s.bump.updateDrain l.number fun d => { d with seq := some value }
  match s.offerResult with
  | .placed => (s'.placeFrame (.owned (s.frameNow .mlu target (.ask ask)))).hand (.askNote ask)
  | .noRoom =>
    s'.updateDrain l.number fun d => { d with owedAsk := some { built := s.serial, item := ask } }
  | .muted => s'.drainSearchAgain l.number

/-- R141: a peer's answer matches a drain that is ASKED to it, for the pallet and with that sequence. -/
def drainAsks (pallet sender seq : Nat) (d : Drain) : Bool :=
  decide (d.pallet = pallet) && decide (d.state = .asked) && decide (d.target = some sender) &&
    decide (d.seq = some seq)

/-- A drain record for a pallet with a target. -/
def drainAims (pallet target : Nat) (d : Drain) : Bool :=
  decide (d.pallet = pallet) && decide (d.target = some target)

/-- R141: the own trailer's answer matches a drain ASKED to it for the pallet. -/
def ownDrainAsks (own pallet : Nat) (d : Drain) : Bool :=
  drainAims pallet own d && decide (d.state = .asked)

/-- R141: the drain GRANTED a place. -/
def drainGranted (s : State) (place : Place) (hold : Nat) (d : Drain) : Drain :=
  { d with state := .granted, place := some place, owedAsk := none,
           deadline := some (s.now + hold + s.scu.config.guardMargin) }

def State.grantDrain (s : State) (k bay : Nat) (place : Place) (hold : Nat) : State :=
  (s.updateDrain k (drainGranted s place hold)).indicate .mlu (.drain k bay) none

/-- R141: a late GRANT of a peer. -/
def State.lateDrainGrant (s : State) (sender : Nat) (b : GrantBody) : State :=
  if s.dsu.borrowers[b.seq]?.getD none = some .mlu then
    if s.anyDrain fun d => drainAims b.pallet sender d &&
        (decide (d.state = .asked) || decide (d.state = .granted)) then s
    else s.mluOffer sender (.release { pallet := b.pallet, asker := s.own, seq := b.seq, reason := .late })
  else s

/-- R142: a matching REFUSE. -/
def State.refuseDrain (s : State) (k : Nat) (d : Drain) (target : Nat) (reason : RefuseReason) : State :=
  if hardReason reason then
    if d.excluded.length < exclusionCapacity then
      (s.updateDrain k fun d => { d with excluded := excludeBay d.excluded target }).drainSearchAgain k
    else
      s.updateLane k fun l => { l with blocked := true, drain := l.drain.map fun d => drainSeeking d none }
  else s.updateDrain k fun d => drainSeeking d (some (s.now + 2))

/-- R142, R144: a RELEASE of the granting bay for a drain. -/
def State.releaseDrain (s : State) (k : Nat) (d : Drain) : State :=
  match d.state with
  | .seeking => s
  | .asked => s.drainSearchAgain k
  | .granted => s.clearDrain k
  | .inTransit => (s.raiseNotice .orphan).clearDrain k

/-- R144: the pallet's head, if it still stands there, leaves the contents. -/
def State.dropHead (s : State) (k pallet : Nat) : State :=
  s.updateLane k fun l =>
    match l.items with
    | head :: rest => if head.pallet = pallet then { l with items := rest } else l
    | [] => l

/-- R144: the placing is where the drain was sent. -/
def placedAtTarget (d : Drain) (bay : Nat) (place : Place) : Bool :=
  decide (d.target = some bay) && decide (placeKind place = .trailer)

/-- R144: a PLACED for a drain's pallet. -/
def State.drainPlaced (s : State) (k : Nat) (d : Drain) (bay : Nat) (place : Place) : State :=
  match d.state with
  | .seeking => s
  | .asked => (s.dropHead k d.pallet).clearDrain k
  | .granted =>
    let s' := s.dropHead k d.pallet
    (if placedAtTarget d bay place then s' else s'.cancelDrainPlace d).clearDrain k
  | .inTransit => (if placedAtTarget d bay place then s else s.cancelDrainPlace d).clearDrain k

/-- The GRANT of the own trailer (R141). -/
def State.ownGrant (s : State) (pallet row : Nat) (sd : Side) (tier hold : Nat) : State :=
  match s.findDrain (ownDrainAsks s.own pallet) with
  | some (k, _) => s.grantDrain k s.own (.trailer row sd tier) hold
  | none =>
    if s.anyDrain fun d => drainAims pallet s.own d && decide (d.state = .granted) then s
    else s.hand (.ownDrainRelease pallet .late)

/-! ## The commands -/

/-- DRAIN_TICK (R139): every record in SEEKING with no retry-after beat is searched. -/
def execDrainTick (s : State) : Host.Outcome State Fault Refusal :=
  taken .drainTick s fun s =>
    (s.eachDrain (fun d => decide (d.state = .seeking) && d.retryAt.isNone)
      fun s k _ => s.beginDrainSearch k).mluEnd

/-- MLU_ASK (R134). A re-grant changes no lane's fill, and R133 judges nothing at it. DESIGN CHOICE:
notes/assumptions/34.md. -/
def execMluAsk (sender : Nat) (b : AskBody) (s : State) : Host.Outcome State Fault Refusal :=
  taken (.mluAsk sender b) s fun s =>
    State.mluEnd (match judgeLaneAsk s sender b with
     | .refuse reason =>
       s.offerAnswer .mlu sender
         (.refuse { asker := sender, seq := b.seq, pallet := b.pallet, reason := reason })
     | .regrant k x =>
       match s.offerResult with
       | .placed =>
         (s.offerAnswer .mlu sender (laneGrant sender b k (x.expiry - s.now))).updateLane k fun l =>
           { l with puts := l.puts.map fun (y : Put) => if y.pallet = b.pallet then { y with seq := some b.seq } else y }
       | _ => s
     | .grant k =>
       match s.offerResult with
       | .placed =>
         (s.offerAnswer .mlu sender (laneGrant sender b k s.scu.config.holdBeats)).addPut k b.dest
           (putOfAsk s sender b)
       | _ => s)

/-- SELF_PUT_REQUEST (R135). -/
def execSelfPutRequest (p : SelfPut) (kind : SelfPutKind) (token : Nat) (s : State) :
    Host.Outcome State Fault Refusal :=
  taken (.selfPutRequest p kind token) s fun s =>
    State.mluEnd (match selfPutLane s p kind with
     | some k =>
       (s.addPut k p.dest (putOfSelf s p)).hand
         (.selfPutAnswer p.pallet token (some { lane := k, hold := s.scu.config.holdBeats }))
     | none => s.hand (.selfPutAnswer p.pallet token none))

/-- SELF_PUT_CANCEL (R135). -/
def execSelfPutCancel (pallet : Nat) (s : State) : Host.Outcome State Fault Refusal :=
  taken (.selfPutCancel pallet) s fun s =>
    match s.findPut fun x => decide (x.pallet = pallet) && decide (x.asker = s.own) with
    | some (k, _) => (s.removePut k pallet).mluEnd
    | none => s.mluEnd

/-- PUT_EXPIRY (R136). -/
def execPutExpiry (pallet : Nat) (s : State) : Host.Outcome State Fault Refusal :=
  taken (.putExpiry pallet) s fun s =>
    match s.findPut fun x => decide (x.pallet = pallet) && decide (x.expiry ≤ s.now) with
    | some (k, x) => ((s.removePut k pallet).giveUpPut .expired x).mluEnd
    | none => s.mluEnd

/-- MLU_RELEASE (R136, R142, R144). -/
def execMluRelease (sender : Nat) (b : ReleaseBody) (s : State) : Host.Outcome State Fault Refusal :=
  taken (.mluRelease sender b) s fun s =>
    State.mluEnd (if granterReason b.reason then
      s.eachDrain (fun d => drainAims b.pallet sender d && decide (d.seq = some b.seq) && decide (b.asker = s.own))
        State.releaseDrain
    else
      match s.findPut fun x => decide (x.pallet = b.pallet) && decide (x.asker = b.asker) with
      | some (k, _) => s.removePut k b.pallet
      | none => s)

/-- MLU_LANE_READ (R137, R138). -/
def execMluLaneRead (r : LanePut) (s : State) : Host.Outcome State Fault Refusal :=
  taken (.mluLaneRead r) s fun s =>
    State.mluEnd (if laneReadIgnored s r then s.raiseNotice .strayRead
     else
       match s.findPut fun x => decide (x.pallet = r.pallet) with
       | some (k, x) => s.guidedPut r k x
       | none => s.unguidedPut r)

/-- MLU_EXIT_EVENT (R143). -/
def execMluExitEvent (lane : Nat) (s : State) : Host.Outcome State Fault Refusal :=
  taken (.mluExitEvent lane) s fun s =>
    State.mluEnd (match s.lane? lane with
     | none => s
     | some l =>
       match l.items with
       | [] => s
       | _ :: rest =>
         match l.drain with
         | some d =>
           if d.state = .granted then
             (s.updateLane lane fun l =>
               { l with items := rest, drain := some { d with state := .inTransit } }).judgeLane lane
           else
             ((s.updateLane lane fun l => headChanged { l with items := rest }).raiseNotice
               .unguidedRemoval).judgeLane lane
         | none =>
           ((s.updateLane lane fun l => headChanged { l with items := rest }).raiseNotice
             .unguidedRemoval).judgeLane lane)

/-- DRAIN_CANDIDATES_ANSWER (R140): an answer to a search no longer waiting is disregarded. -/
def execDrainCandidatesAnswer (lane token : Nat) (found : List TrailerCandidate) (own : Option OwnSummary)
    (s : State) : Host.Outcome State Fault Refusal :=
  taken (.drainCandidatesAnswer lane token found own) s fun s =>
    State.mluEnd (match s.drainSearch? lane token, s.lane? lane with
     | some _, some l =>
       match l.items, l.drain with
       | head :: _, some d =>
         if d.state = .seeking then
           s.askDrain l head d (drainCandidates s (l.dest.getD 0) found own)
         else s
       | _, _ => s
     | _, _ => s)

/-- ASK_SEQUENCE_RETURN (R140): a value that returns to a drain no longer ASKED to that target is not
used. DESIGN CHOICE (log 46): of two values outstanding for one lane, pallet and target, the first to return
is used and the second is not. -/
def execAskSequenceReturn (lane pallet target value : Nat) (s : State) :
    Host.Outcome State Fault Refusal :=
  taken (.askSequenceReturn lane pallet target value) s fun s =>
    State.mluEnd (match s.lane? lane with
     | none => s
     | some l =>
       match l.items, l.drain with
       | head :: _, some d =>
         if d.state = .asked ∧ d.pallet = pallet ∧ d.target = some target ∧ d.seq = none then
           s.offerDrainAsk l head target value
         else s
       | _, _ => s)

/-- MLU_GRANT (R141). -/
def execMluGrant (sender : Nat) (b : GrantBody) (s : State) : Host.Outcome State Fault Refusal :=
  taken (.mluGrant sender b) s fun s =>
    State.mluEnd (match s.findDrain (drainAsks b.pallet sender b.seq) with
     | some (k, _) =>
       if b.asker = s.own ∧ placeKind b.place = .trailer then s.grantDrain k sender b.place b.hold
       else s.lateDrainGrant sender b
     | none => s.lateDrainGrant sender b)

/-- MLU_REFUSE (R142). -/
def execMluRefuse (sender : Nat) (b : RefuseBody) (s : State) : Host.Outcome State Fault Refusal :=
  taken (.mluRefuse sender b) s fun s =>
    State.mluEnd (match s.findDrain (drainAsks b.pallet sender b.seq) with
     | some (k, d) => if b.asker = s.own then s.refuseDrain k d sender b.reason else s
     | none => s)

/-- OWN_TRAILER_ANSWER (R141, R142, R144): matched by pallet ID. -/
def execOwnTrailerAnswer (pallet : Nat) (answer : OwnAnswer) (s : State) :
    Host.Outcome State Fault Refusal :=
  taken (.ownTrailerAnswer pallet answer) s fun s =>
    State.mluEnd (match answer with
     | .granted row sd tier hold => s.ownGrant pallet row sd tier hold
     | .refused reason =>
       match s.findDrain (ownDrainAsks s.own pallet) with
       | some (k, d) => s.refuseDrain k d s.own reason
       | none => s
     | .released _ => s.eachDrain (drainAims pallet s.own) State.releaseDrain)

/-- DRAIN_ANSWER_DEADLINE_EXPIRY (R142). -/
def execDrainAnswerDeadlineExpiry (lane : Nat) (s : State) : Host.Outcome State Fault Refusal :=
  taken (.drainAnswerDeadlineExpiry lane) s fun s =>
    State.mluEnd (match s.drainAt lane with
     | some d =>
       if d.state = .asked ∧ due d.deadline s.now then
         s.updateDrain lane fun d => drainSeeking d (some (s.now + 2))
       else s
     | none => s)

/-- DRAIN_RETRY_AFTER_EXPIRY (R139). -/
def execDrainRetryAfterExpiry (lane : Nat) (s : State) : Host.Outcome State Fault Refusal :=
  taken (.drainRetryAfterExpiry lane) s fun s =>
    State.mluEnd (match s.drainAt lane with
     | some d =>
       if d.state = .seeking ∧ due d.retryAt s.now then
         (s.updateDrain lane fun d => { d with retryAt := none }).beginDrainSearch lane
       else s
     | none => s)

/-- DRAIN_GUARD_DEADLINE_EXPIRY (R144). -/
def execDrainGuardDeadlineExpiry (lane : Nat) (s : State) : Host.Outcome State Fault Refusal :=
  taken (.drainGuardDeadlineExpiry lane) s fun s =>
    State.mluEnd (match s.drainAt lane with
     | some d =>
       if due d.deadline s.now then
         match d.state with
         | .granted => s.clearDrain lane
         | .inTransit => (s.raiseNotice .orphan).clearDrain lane
         | .seeking => s
         | .asked => s
       else s
     | none => s)

/-- MLU_PLACED (R144): a frame, or a note of the LPU; `sender` is the placing bay. DEDUCED:
notes/assumptions/12.md. -/
def execMluPlaced (sender : Nat) (b : PlacedBody) (s : State) : Host.Outcome State Fault Refusal :=
  taken (.mluPlaced sender b) s fun s =>
    State.mluEnd (s.eachDrain (fun d => decide (d.pallet = b.pallet))
      fun s k d => s.drainPlaced k d sender b.place)

/-- LAMP_FAULT_REPORT (R145). -/
def execLampFaultReport (lane : Nat) (s : State) : Host.Outcome State Fault Refusal :=
  taken (.lampFaultReport lane) s fun s => (s.updateLane lane fun l => { l with noPut := true }).mluEnd

/-- LAMP_CLEAR_REPORT (R145). -/
def execLampClearReport (lane : Nat) (s : State) : Host.Outcome State Fault Refusal :=
  taken (.lampClearReport lane) s fun s => (s.updateLane lane fun l => { l with noPut := false }).mluEnd

/-- CLEAR_LANE (R146): every flag except no-put clear. -/
def execClearLane (lane : Nat) (s : State) : Host.Outcome State Fault Refusal :=
  request s fun s =>
    match s.lane? lane with
    | none => s.answer .clearLane .range .nothing
    | some l =>
      if l.assignment = .suspect then
        (s.updateLane lane fun l =>
          { suspectLane lane with assignment := .free, noPut := l.noPut }).mluEnd.answer .clearLane .ok .nothing
      else s.answer .clearLane .state .nothing

/-- READ_LANES (R148). -/
def execReadLanes (s : State) : Host.Outcome State Fault Refusal :=
  request s fun s => s.answer .readLanes .ok (.lanes s.mlu.lanes)

end Sys2Proof.Machine
end

