-- ==== Sys2Proof/Machine/Fbi.lean ====
section
/-! DEFINITION. The floor bus interface (chapter 2): attempts, collisions and backoff, the receive queue,
sequence gaps, bay clash and MUTE, space events and the advert debt. -/

namespace Sys2Proof.Machine

def State.setFbi (s : State) (f : Fbi) : State := { s with fbi := f }

/-! ## The ADVERT (R25) -/

/-- A lane's entry in an ADVERT; a SUSPECT lane goes with destination 0 and fill 0. DEDUCED:
notes/assumptions/23.md. -/
def laneEntry (l : Lane) : LaneAdvert :=
  if l.assignment = .suspect then
    { number := l.number, assignment := .suspect, high := l.high, dest := 0, fill := 0 }
  else
    { number := l.number, assignment := l.assignment, high := l.high, dest := l.dest.getD 0,
      fill := laneFill l }

/-- The body of an ADVERT formed now. -/
def formAdvert (s : State) : AdvertBody :=
  { state := s.dcu.bayState.getD .listen, phase := s.dcu.phase, accepting := s.acceptingFigure,
    cutOff := s.cutOffFigure, margin := s.planMargin, openings := s.openingsFigure,
    lanes := s.mlu.lanes.map laneEntry }

/-- The frame that an attempt sends now for a place of the queue (R23). -/
def frameFor (s : State) (o : Outgoing) : Frame :=
  { sender := s.own, seq := s.fbi.seq,
    restart := match o with
      | .advert => s.fbi.restartMark
      | .owned _ => false
    body := match o with
      | .advert => .advert (formAdvert s)
      | .owned f => f.body }

/-! ## Places for the ADVERT (R35 to R37) -/

def standsAdvert (l : List Outgoing) : Bool := l.contains .advert

/-- The queue with an ADVERT at its head, or directly behind the frame in hand (R36). -/
def advertAtHead (inHand : Bool) : List Outgoing → List Outgoing
  | [] => [.advert]
  | o :: rest => if inHand then o :: .advert :: rest else .advert :: o :: rest

/-- R36: a standing ADVERT moved to the head; the ADVERT in hand keeps its place. -/
def advertMoved (inHand : Bool) (l : List Outgoing) : List Outgoing :=
  if inHand ∧ l.head? = some .advert then l else advertAtHead inHand (l.erase .advert)

/-- A queue that holds a frame is watched by a transmitter in DEFER (R20). -/
def awake (f : Fbi) : Fbi :=
  if f.transmitter = .idle ∧ f.tx ≠ [] then { f with transmitter := .deferring } else f

/-- R37: the first ADVERT after a reset, at the head; one that stands is not doubled, and the queue keeps to its
12 places (R32). DEDUCED: notes/assumptions/24.md. -/
def State.placeFirstAdvert (s : State) : State :=
  if s.fbi.mute || standsAdvert s.fbi.tx || decide (txCapacity ≤ s.fbi.tx.length) then s
  else s.setFbi (awake { s.fbi with tx := advertAtHead s.fbi.inHand s.fbi.tx, owedAdvert := false })

/-- R34: an owed ADVERT is the first to take a free place. -/
def State.placeOwedAdvert (s : State) : State :=
  if s.fbi.owedAdvert && decide (s.fbi.tx.length < txCapacity) then
    s.setFbi (awake { s.fbi with
      owedAdvert := false
      tx := if s.fbi.debt = 4 then advertAtHead s.fbi.inHand s.fbi.tx else s.fbi.tx ++ [.advert] })
  else s

/-! ## Owed frames served (R34) -/

def builtBefore (a b : OwnedFrame) : Bool := decide (a.built < b.built)

/-- The oldest frame the LPU owes (R130). -/
def State.lpuOldest (s : State) : Option OwnedFrame :=
  firstBest builtBefore (s.lpu.owed ++ s.lpu.owedClose.toList)

def laneOwedAsk (l : Lane) : Option OwnedFrame :=
  l.drain.bind fun d =>
    d.owedAsk.map fun o => { owner := .mlu, built := o.built, target := o.item.target, body := .ask o.item }

/-- The oldest frame the MLU owes (R147). -/
def State.mluOldest (s : State) : Option OwnedFrame :=
  firstBest builtBefore (s.mlu.owed ++ s.mlu.lanes.filterMap laneOwedAsk)

def releaseFrame (o : OwedRelease) : OwnedFrame :=
  { owner := .dsu, built := o.built, target := o.target, body := .release o.body }

/-- The owed frames of a slot (R79). -/
def slotOwed : Slot → List OwnedFrame
  | .free => []
  | .lone o => [releaseFrame o]
  | .record r =>
    (r.owedAsk.map fun o =>
      ({ owner := .dsu, built := o.built, target := o.item.target, body := .ask o.item } : OwnedFrame)).toList ++
      (r.owedRelease.map releaseFrame).toList

/-- The oldest frame the DSU owes (R79). -/
def State.dsuOldest (s : State) : Option OwnedFrame :=
  firstBest builtBefore (s.dsu.slots.toList.flatMap slotOwed)

def State.oldestOf (s : State) : Owner → Option OwnedFrame
  | .lpu => s.lpuOldest
  | .mlu => s.mluOldest
  | .dsu => s.dsuOldest

def laneWithoutOwed (f : OwnedFrame) (l : Lane) : Lane :=
  if laneOwedAsk l = some f then { l with drain := l.drain.map fun d => { d with owedAsk := none } } else l

def slotWithoutOwed (f : OwnedFrame) : Slot → Slot
  | .free => .free
  | .lone o => if releaseFrame o = f then .free else .lone o
  | .record r =>
    .record { r with
      owedAsk := r.owedAsk.filter fun o =>
        !decide (({ owner := .dsu, built := o.built, target := o.item.target, body := .ask o.item } :
          OwnedFrame) = f)
      owedRelease := r.owedRelease.filter fun o => !decide (releaseFrame o = f) }

/-- A frame owed no longer, its block having placed it. -/
def State.noLongerOwed (s : State) (f : OwnedFrame) : State :=
  match f.owner with
  | .lpu =>
    { s with lpu := { s.lpu with
        owed := s.lpu.owed.erase f
        owedClose := s.lpu.owedClose.filter fun g => !decide (g = f) } }
  | .mlu =>
    { s with mlu := { s.mlu with
        owed := s.mlu.owed.erase f
        lanes := s.mlu.lanes.map (laneWithoutOwed f) } }
  | .dsu => { s with dsu := { s.dsu with slots := s.dsu.slots.map (slotWithoutOwed f) } }

/-- The note of a placed ASK (R47, R68, R140). -/
def State.noteAsk (s : State) (b : Body) : State :=
  match b with
  | .ask a => s.hand (.askNote a)
  | _ => s

def nextOwner : Owner → Owner
  | .lpu => .mlu
  | .mlu => .dsu
  | .dsu => .lpu

/-- The turn of R34, from the block whose turn it is. -/
def turnOrder (o : Owner) : List Owner := [o, nextOwner o, nextOwner (nextOwner o)]

/-- A block served: its oldest owed frame is placed, and the turn passes on. -/
def State.serveFrame (s : State) (f : OwnedFrame) : State :=
  let t := ((s.noLongerOwed f).placeFrame (.owned f)).noteAsk f.body
  t.setFbi { t.fbi with turn := nextOwner f.owner }

/-- Serving goes on while places are free and owed frames remain. -/
def State.serveOwed : Nat → State → State
  | 0, s => s
  | n + 1, s =>
    if s.fbi.tx.length < txCapacity then
      match (turnOrder s.fbi.turn).findSome? s.oldestOf with
      | some f => State.serveOwed n (s.serveFrame f)
      | none => s
    else s

/-- A space event (R34); while the queue refuses offers (R33) no owed frame is placed. -/
def State.spaceEvent (s : State) : State :=
  if s.fbi.mute || s.reading || s.inState .listen || s.inState .unconfigured then s
  else if s.fbi.restartMark then s
  else State.serveOwed txCapacity s.placeOwedAdvert

/-! ## Frames that did not go (R22, R31) -/

/-- An ASK of a record (R72): it must still be the record's live ask, by target and sequence. -/
def State.dsuAskFailed (s : State) (a : AskBody) : State :=
  s.onRecord a.pallet fun i r =>
    if liveAsk r a.target a.seq then s.askUnanswered i r else s

/-- An ASK of a drain (R142). -/
def State.mluAskFailed (s : State) (a : AskBody) : State :=
  match s.findDrain (drainAsks a.pallet a.target a.seq) with
  | some (k, _) => (s.drainSearchAgain k).mluEnd
  | none => s

/-- A PLACED, RELEASE or CLOSE told "send failed" is owed again (R79, R131, R147). DEDUCED:
notes/assumptions/11.md. -/
def State.oweAgain (s : State) (f : OwnedFrame) : State :=
  match f.owner with
  | .lpu =>
    match f.body with
    | .close _ => s.lpuOweClose f
    | _ => s.bump.lpuOwe { f with built := s.serial }
  | .mlu => s.bump.mluOwe { f with built := s.serial }
  | .dsu =>
    match f.body with
    | .release b => s.bump.dsuOwe { built := s.serial, target := f.target, body := b }
    | _ => s

def State.askFailed (s : State) (o : Owner) (a : AskBody) : State :=
  match o with
  | .dsu => s.dsuAskFailed a
  | .mlu => s.mluAskFailed a
  | .lpu => s

def State.grantFailed (s : State) (o : Owner) (g : GrantBody) : State :=
  match o with
  | .lpu => s.lpuGrantFailed g
  | .mlu => s.mluGrantFailed g
  | .dsu => s

/-- The owner's action on "muted" (R31). -/
def State.toldMuted (s : State) (f : OwnedFrame) : State :=
  match f.body with
  | .ask a => s.askFailed f.owner a
  | .grant g => s.grantFailed f.owner g
  | .refuse _ | .placed _ | .release _ | .close _ | .advert _ => s

/-- The owner's action on "send failed" (R22). -/
def State.toldFailed (s : State) (f : OwnedFrame) : State :=
  match f.body with
  | .ask a => s.askFailed f.owner a
  | .grant g => s.grantFailed f.owner g
  | .placed _ | .release _ | .close _ => s.oweAgain f
  | .refuse _ | .advert _ => s

def State.tellFailed (s : State) : Outgoing → State
  | .advert => s
  | .owned f => s.toldFailed f

def State.tellMuted (s : State) : Outgoing → State
  | .advert => s
  | .owned f => s.toldMuted f

/-! ## Leaving the queue (R20, R21) -/

/-- The head frame gone, and the transmitter at the next one. -/
def withoutHead (f : Fbi) : Fbi :=
  { f with tx := f.tx.tail, inHand := false, collisions := 0,
           transmitter := if f.tx.tail = [] then .idle else .deferring }

/-- R23, R35, R37: the counters after a frame went out whole. -/
def sentWhole (o : Outgoing) (f : Fbi) : Fbi :=
  let g := { f with
    seq := (f.seq + 1) % 256
    lineOut := match f.lineOut with
      | .attempt b => .whole b
      | x => x }
  match o with
  | .advert => { g with debt := 0, restartMark := false }
  | .owned _ => g

/-! ## Taking frames (R28 to R31) -/

/-- R31: MUTE set, the queue emptied with a jam if an attempt was under way, and every owner told. The owners are
told in the order of the queue, its head first. DESIGN CHOICE: notes/assumptions/36.md. -/
def State.setMute (s : State) : State :=
  s.fbi.tx.foldl State.tellMuted
    (s.setFbi { s.fbi with
      mute := true, tx := [], transmitter := .idle, inHand := false, collisions := 0, debt := 0,
      owedAdvert := false
      lineOut := if s.fbi.transmitter = .sending then .jam else s.fbi.lineOut })

/-- R31: a frame that bears the bay's own number. -/
def State.bayClash (s : State) : State :=
  (if s.fbi.mute then s else s.setMute).raiseNotice .bayClash

/-- R29: whether the sequence shows a gap. -/
def showsGap (f : Frame) (entry : Option Nat) : Bool :=
  match entry with
  | none => false
  | some e => !f.restart && !decide (f.seq = (e + 1) % 256)

def lastHeardOf (s : State) (b : Nat) : Option Nat :=
  if b = 0 then none else s.fbi.lastHeard[b - 1]?.getD none

def State.setLastHeard (s : State) (b seq : Nat) : State :=
  if b = 0 then s
  else s.setFbi { s.fbi with lastHeard := s.fbi.lastHeard.setIfInBounds (b - 1) (some seq) }

/-- R29: the frame's sequence beside its sender's last-heard entry, which is the one held already where the sender's
number was the bay's own meanwhile. DESIGN CHOICE: notes/assumptions/49.md. -/
def State.compareSequence (s : State) (f : Frame) : State :=
  let t := s.setLastHeard f.sender f.seq
  if showsGap f (lastHeardOf s f.sender) then (t.hand (.doubtSender f.sender)).raiseNotice .loss else t

/-- R30: the blocks that take a frame. Their order (the PDR, then the DSU or the LPU, then the MLU) is a DESIGN CHOICE:
notes/assumptions/47.md. -/
def takers (s : State) (f : Frame) : List Instr :=
  match f.body with
  | .advert b =>
    .pdrAdvert f.sender f.restart b :: (if f.restart then [.dsuRestartAdvert f.sender] else [])
  | .ask b =>
    .pdrAsk f.sender b ::
      (if s.isOwn b.target ∧ !s.fbi.mute then
        (match b.kind with
         | .trailer => [.lpuAsk f.sender b]
         | .lane => [.mluAsk f.sender b])
       else [])
  | .grant b =>
    .pdrGrant f.sender b ::
      (if s.isOwn b.asker then [.dsuGrant f.sender b, .mluGrant f.sender b] else [])
  | .refuse b =>
    .pdrRefuse f.sender b ::
      (if s.isOwn b.asker then [.dsuRefuse f.sender b, .mluRefuse f.sender b] else [])
  | .placed b => [.pdrPlaced f.sender b, .dsuPlaced f.sender b, .mluPlaced f.sender b]
  | .release b =>
    if granterReason b.reason then
      (if s.isOwn b.asker then [.dsuRelease f.sender b, .mluRelease f.sender b] else [])
    else [.lpuRelease f.sender b, .mluRelease f.sender b]
  | .close b => [.pdrClose f.sender, .dsuClose f.sender b]

/-- R28: a frame taken from the receive queue. -/
def State.takeFrame (s : State) (f : Frame) : State :=
  if s.isOwn f.sender then s.bayClash
  else
    let t := s.compareSequence f
    t.handAll (takers t f)

/-- R24, R28: what an arrival does. -/
def State.arrive (s : State) (bytes : List Byte) : State :=
  if s.reading then s
  else if !checkFits bytes then (s.hand .doubtAll).raiseNotice .loss
  else
    match frameOf bytes with
    | none => s
    | some f =>
      if s.fbi.rx.length < rxCapacity then s.setFbi { s.fbi with rx := s.fbi.rx ++ [f] } else s

/-! ## The advert debt (R35, R36) -/

/-- The debt after a tick. -/
def raisedDebt (f : Fbi) : Nat := min (f.debt + 1) 4

/-- R35, R36: the debt raised, and the ADVERT placed, owed or moved. -/
def debtRisen (f : Fbi) : Fbi :=
  let d := raisedDebt f
  if standsAdvert f.tx then
    { f with debt := d, tx := if d = 4 then advertMoved f.inHand f.tx else f.tx }
  else if f.owedAdvert then { f with debt := d }
  else if f.tx.length < txCapacity then
    awake { f with debt := d, tx := if d = 4 then advertAtHead f.inHand f.tx else f.tx ++ [.advert] }
  else { f with debt := d, owedAdvert := true }

/-! ## The commands -/

/-- ADVERT_DEBT_RISE (R35 to R37). -/
def execAdvertDebtRise (s : State) : Host.Outcome State Fault Refusal :=
  taken .advertDebtRise s fun s =>
    if s.fbi.mute || s.reading || s.inState .listen || s.inState .unconfigured then s
    else if s.fbi.restartMark then s.placeFirstAdvert
    else s.setFbi (debtRisen s.fbi)

/-- ATTEMPT_START (R20, R23, R25): the line has been quiet for the gap time. DESIGN CHOICE:
notes/assumptions/29.md. -/
def execAttemptStart (s : State) : Host.Outcome State Fault Refusal :=
  event s fun s =>
    match s.fbi.transmitter, s.fbi.tx with
    | .deferring, o :: _ =>
      s.setFbi { s.fbi with transmitter := .sending, inHand := true, sentAs := s.own
                            lineOut := .attempt (frameBytes (frameFor s o)) }
    | _, _ => s

/-- FRAME_SENT (R20, R34, R35, R37). -/
def execFrameSent (s : State) : Host.Outcome State Fault Refusal :=
  event s fun s =>
    match s.fbi.transmitter, s.fbi.tx with
    | .sending, o :: _ => (s.setFbi (withoutHead (sentWhole o s.fbi))).spaceEvent
    | _, _ => s

/-- R21: the wait after the k-th collision, in slot times. -/
def backoffSlots (own k : Nat) : Nat := own + 64 * (k - 1)

/-- R21: the sixteenth collision discards the frame. -/
def State.discardHead (s : State) (o : Outgoing) : State :=
  (((s.setFbi (withoutHead { s.fbi with lineOut := .jam })).raiseNotice .busFault).tellFailed o).spaceEvent

/-- COLLISION (R21, R22, R34). The wait goes by the bay number of the attempt that collided (R176). DEDUCED:
notes/assumptions/44.md. -/
def execCollision (s : State) : Host.Outcome State Fault Refusal :=
  event s fun s =>
    match s.fbi.transmitter, s.fbi.tx with
    | .sending, o :: _ =>
      let k := s.fbi.collisions + 1
      if k < collisionLimit then
        s.setFbi { s.fbi with collisions := k, transmitter := .backoff (backoffSlots s.fbi.sentAs k)
                              lineOut := .jam }
      else s.discardHead o
    | _, _ => s

/-- BACKOFF_END (R21). -/
def execBackoffEnd (s : State) : Host.Outcome State Fault Refusal :=
  event s fun s =>
    match s.fbi.transmitter with
    | .backoff _ => s.setFbi { s.fbi with transmitter := .deferring }
    | _ => s

/-- FRAGMENT_RECEIVED (R21): the part taken is discarded; it is neither an arrival nor a loss. -/
def execFragmentReceived (s : State) : Host.Outcome State Fault Refusal := event s id

/-- FRAME_ARRIVAL (R24, R28). -/
def execFrameArrival (bytes : List Byte) (s : State) : Host.Outcome State Fault Refusal :=
  event s fun s => s.arrive bytes

/-- FRAME_TAKING (R28 to R31). -/
def execFrameTaking (s : State) : Host.Outcome State Fault Refusal :=
  event s fun s =>
    match s.fbi.rx with
    | f :: rest => (s.setFbi { s.fbi with rx := rest }).takeFrame f
    | [] => s

end Sys2Proof.Machine
end

