-- ==== Sys2Proof/Machine/Gdu.lean ====
section
/-! DEFINITION. The guidance unit (chapter 9): the targets an indication gives the lamp channels, commits,
the queue of indications, dwell and show, ramps, sensing, the RED substitute and CLEAR LAMP. -/

namespace Sys2Proof.Machine

/-! ## Targets of an indication (R149, R150, R157) -/

/-- The signal colour and pattern driven: with the RED substitute in force a RED signal is AMBER FAST. -/
def drivenSignal (substitute : Bool) (ind : Indication) : Option Colour × Pattern :=
  if substitute ∧ ind.colour = some .red then (some .amber, .fast) else (ind.colour, ind.pattern)

def patternIf (b : Bool) (p : Pattern) : Pattern := if b then p else .off

/-- The pattern an indication gives a channel, by the channel's number (section 9.1). -/
def channelPattern (substitute : Bool) (ind : Indication) (channel : Nat) : Pattern :=
  let signal := drivenSignal substitute ind
  match channel with
  | 1 => patternIf (decide (signal.1 = some .red)) signal.2
  | 2 => patternIf (decide (signal.1 = some .amber)) signal.2
  | 3 => patternIf (decide (signal.1 = some .green)) signal.2
  | 4 => patternIf (decide (ind.lane = some 1)) ind.lanePattern
  | 5 => patternIf (decide (ind.lane = some 2)) ind.lanePattern
  | 6 => patternIf (decide (ind.lane = some 3)) ind.lanePattern
  | 7 => patternIf (decide (ind.lane = some 4)) ind.lanePattern
  | 8 => patternIf (decide (ind.side = some .left)) .steady
  | 9 => patternIf (decide (ind.side = some .right)) .steady
  | 10 => patternIf (decide (ind.tier = some 1)) .steady
  | 11 => patternIf (decide (ind.tier = some 2)) .steady
  | 12 => patternIf (decide (ind.tier = some 3)) .steady
  | _ => .off

/-! ## Drives and ramps (R155, R156) -/

/-- Drives are counted in 600ths of a level unit, so that every ramp rate is a whole number. -/
def driveUnits : Nat := 600

/-- R155, R174: what group 1 is while the bay is UNCONFIGURED. -/
def fullGroup : IntensityGroup := { level := 255, slope := 0 }

/-- R155, R174: the group of each channel in force. -/
def State.channelGroups (s : State) : Vector Nat 12 :=
  if s.inState .unconfigured then Vector.replicate 12 1 else s.scu.config.channelGroup

/-- R155, R174: the groups' levels and slope classes in force. While UNCONFIGURED no channel is in groups 2 to
4, and they stand as the record has them. -/
def State.intensityGroups (s : State) : Vector IntensityGroup 4 :=
  if s.inState .unconfigured then s.scu.config.groups.setIfInBounds 0 fullGroup else s.scu.config.groups

/-- The intensity group in force for a channel (R155, R174). -/
def State.channelIntensity (s : State) (channel : Nat) : IntensityGroup :=
  let g := (s.channelGroups[channel - 1]?).getD 1
  (s.intensityGroups[g - 1]?).getD fullGroup

/-- A drive that stands at its target without a ramp: in slope class 0, and at level 0 (R155). -/
def rampless (c : Channel) : Bool := decide (c.ramp = 0) || decide (c.level = 0)

/-- What a drive is at once: 0 while SHORT holds it, its target where there is no ramp. -/
def settled (c : Channel) : Channel :=
  if c.shortFault then { c with drive := 0 }
  else if rampless c then { c with drive := if c.on then c.level * driveUnits else 0 }
  else c

/-- R155: the level and ramp time that a change of target takes from the channel's group. A channel turned off
after its group was amended to level 0 falls from the level it rose to, in the ramp time in force. DESIGN CHOICE:
notes/assumptions/15.md. -/
def latched (g : IntensityGroup) (c : Channel) : Channel :=
  { c with level := if c.on = false ∧ g.level = 0 then c.level else g.level, ramp := rampTime g.slope }

/-- A channel's target set; its level and ramp time are taken anew when it goes from off to on or from on to
off, and at no other change. DESIGN CHOICE: notes/assumptions/15.md. -/
def retarget (g : IntensityGroup) (p : Pattern) (on : Bool) (c : Channel) : Channel :=
  if on = c.on then { c with pattern := p } else settled (latched g { c with pattern := p, on := on })

/-- The rate of a ramp in drive units a millisecond. -/
def rampRate (c : Channel) : Nat := c.level * driveUnits / c.ramp

/-- One millisecond of a channel's drive (R155). -/
def rampChannel (c : Channel) : Channel :=
  if c.shortFault || rampless c then settled c
  else
    let goal := if c.on then c.level * driveUnits else 0
    if c.drive ≤ goal then { c with drive := min (c.drive + rampRate c) goal }
    else { c with drive := max (c.drive - rampRate c) goal }

/-- The drive stands at the level it rose to, lit and not held off: the channel is sensed (R156). -/
def sensed (c : Channel) : Bool :=
  c.on && decide (c.level ≠ 0) && !c.shortFault && decide (c.drive = c.level * driveUnits)

def channelAt (g : Gdu) (channel : Nat) : Channel := (g.channels[channel - 1]?).getD resetChannel

def State.setChannels (s : State) (v : Vector Channel 12) : State :=
  { s with gdu := { s.gdu with channels := v } }

def State.setChannel (s : State) (channel : Nat) (c : Channel) : State :=
  s.setChannels (s.gdu.channels.setIfInBounds (channel - 1) c)

/-- One millisecond of the part's own timebase with no event to take: every ramp goes on (R155). -/
def State.lampMillisecond (s : State) : State := s.setChannels (s.gdu.channels.map rampChannel)

/-- What the bay does where no event waits: the ramps go on, unless the reset line holds it (R155, R179). -/
def State.idle (s : State) : State := if s.resetLine then s else s.lampMillisecond

/-! ## Commits (R149, R153, R154) -/

/-- A channel driven by the current indication, its pattern beginning with its on half. -/
def State.driveChannel (s : State) (channel : Nat) : State :=
  let p := channelPattern (redFaulted s.gdu) s.gdu.current channel
  s.setChannel channel
    (retarget (s.channelIntensity channel) p (decide (p ≠ .off)) (channelAt s.gdu channel))

def channelNumbers : List Nat := [1, 2, 3, 4, 5, 6, 7, 8, 9, 10, 11, 12]

/-- A commit: the indication becomes current and every channel takes its target from it. -/
def State.commit (s : State) (ind : Indication) (r : Option IndicationRequest) : State :=
  channelNumbers.foldl State.driveChannel
    { s with gdu := { s.gdu with current := ind, request := r, commitBeat := s.now } }

/-- The idle indication of the bay as it stands, committed (R151, R154). -/
def State.commitIdle (s : State) : State :=
  s.commit (indicationOf s.own (idleIndication s.dcu.bayState s.dcu.suspended)) none

/-- A report to the DSU on a request that carries a pallet ID (R152, R153). -/
def State.reportRequest (s : State) (r : IndicationRequest) (f : Nat → Indication → Instr) : State :=
  match r.pallet with
  | some p => s.hand (f p r.indication)
  | none => s

/-- R153: a request becomes current. -/
def State.commitRequest (s : State) (r : IndicationRequest) : State :=
  let s' := s.commit r.indication (some r)
  ({ s' with gdu := { s'.gdu with dwellRunning := true, dwell := some (s.now + s.minimumDwell),
                                  showBy := some (s.now + s.showTime) } }).reportRequest r .shownReport

/-- A request waits in the pending buffer or the FIFO. -/
def requestWaits (g : Gdu) : Bool := g.buffer.isSome || !g.fifo.isEmpty

/-- A request at the tail of the FIFO; the oldest of a full FIFO is dropped (R152). -/
def State.joinFifo (s : State) (r : IndicationRequest) : State :=
  if s.gdu.fifo.length < fifoCapacity then
    { s with gdu := { s.gdu with fifo := s.gdu.fifo ++ [r] } }
  else
    match s.gdu.fifo with
    | oldest :: rest =>
      ({ s with gdu := { s.gdu with fifo := rest ++ [r] } }).reportRequest oldest .droppedReport
    | [] => s

/-! ## The RED substitute (R157) -/

/-- The substitute has begun or ended: a RED indication's channels 1 and 2 take their targets anew. -/
def State.redriveRed (s : State) : State :=
  if s.gdu.current.colour = some .red then (s.driveChannel 1).driveChannel 2 else s

/-! ## Faults (R156) -/

/-- The lane of a lane lamp's channel. -/
def laneOfChannel (channel : Nat) : Option Nat :=
  if 4 ≤ channel ∧ channel ≤ 7 then some (channel - 3) else none

/-- A report to the MLU on a lane lamp. -/
def State.reportLamp (s : State) (channel : Nat) (f : Nat → Instr) : State :=
  match laneOfChannel channel with
  | some k => s.hand (f k)
  | none => s

/-- The channel with the flag a finding sets, SHORT holding its drive at 0. -/
def flagged (c : Channel) : LampFinding → Channel
  | .normal => c
  | .tooLow => { c with openFault := true }
  | .tooHigh => { c with shortFault := true, drive := 0 }

/-- R156: what a sensing of a channel does. -/
def State.senseChannel (s : State) (channel : Nat) (f : LampFinding) : State :=
  let before := channelAt s.gdu channel
  let after := flagged before f
  if after = before then s
  else
    let s1 := (s.setChannel channel after).raiseNotice .lampFault
    if faulted before then s1
    else
      let s2 := s1.reportLamp channel .lampFaultReport
      if channel = 1 then s2.redriveRed else s2

/-! ## CLEAR LAMP (R158) -/

def hasFault (c : Channel) : FaultKind → Bool
  | .openFault => c.openFault
  | .shortFault => c.shortFault

/-- The named flag cleared; a channel no longer held follows its target again. -/
def withoutFault (c : Channel) : FaultKind → Channel
  | .openFault => { c with openFault := false }
  | .shortFault => settled { c with shortFault := false }

def State.clearFault (s : State) (channel : Nat) (k : FaultKind) : State :=
  let after := withoutFault (channelAt s.gdu channel) k
  let s1 := s.setChannel channel after
  if faulted after then s1
  else
    let s2 := s1.reportLamp channel .lampClearReport
    if channel = 1 then s2.redriveRed else s2

/-! ## The commands -/

/-- INDICATION_REQUEST (R152). -/
def execIndicationRequest (r : IndicationRequest) (s : State) : Host.Outcome State Fault Refusal :=
  taken (.indicationRequest r) s fun s =>
    if !s.gdu.dwellRunning && s.gdu.buffer.isNone then
      ({ s with gdu := { s.gdu with buffer := some r, dwell := some s.now } }).handNext .dwellExpiry
    else s.joinFifo r

/-- DWELL_EXPIRY (R153). -/
def execDwellExpiry (s : State) : Host.Outcome State Fault Refusal :=
  taken .dwellExpiry s fun s =>
    if due s.gdu.dwell s.now then
      match s.gdu.buffer, s.gdu.fifo with
      | some r, _ => ({ s with gdu := { s.gdu with buffer := none } }).commitRequest r
      | none, r :: rest => ({ s with gdu := { s.gdu with fifo := rest } }).commitRequest r
      | none, [] => { s with gdu := { s.gdu with dwellRunning := false, dwell := none } }
    else s

/-- SHOW_EXPIRY (R154). -/
def execShowExpiry (s : State) : Host.Outcome State Fault Refusal :=
  taken .showExpiry s fun s =>
    if due s.gdu.showBy s.now then
      let s' := { s with gdu := { s.gdu with showBy := none } }
      if !requestWaits s.gdu && s.gdu.request.isSome then s'.commitIdle else s'
    else s

/-- BAY_STATE_CHANGE (R151): the GDU takes a change of the bay state or of SUSPENDED. DEDUCED:
notes/assumptions/26.md. -/
def execBayStateChange (s : State) : Host.Outcome State Fault Refusal :=
  taken .bayStateChange s fun s => if s.gdu.request.isNone then s.commitIdle else s

/-- LAMP_SENSING (R156): only a channel lit and standing at its level is sensed. -/
def execLampSensing (channel : Nat) (finding : LampFinding) (s : State) :
    Host.Outcome State Fault Refusal :=
  event s fun s =>
    if 1 ≤ channel ∧ channel ≤ 12 ∧ sensed (channelAt s.gdu channel) then s.senseChannel channel finding
    else s

/-- CLEAR_LAMP (R158). -/
def execClearLamp (channel : Nat) (kind : Option FaultKind) (s : State) :
    Host.Outcome State Fault Refusal :=
  request s fun s =>
    match kind with
    | none => s.answer .clearLamp .range .nothing
    | some k =>
      if 1 ≤ channel ∧ channel ≤ 12 then
        if hasFault (channelAt s.gdu channel) k then (s.clearFault channel k).answer .clearLamp .ok .nothing
        else s.answer .clearLamp .state .nothing
      else s.answer .clearLamp .range .nothing

/-- The pattern alternates (R150). -/
def alternates : Pattern → Bool
  | .slow => true
  | .fast => true
  | .steady => false
  | .off => false

/-- PATTERN_HALF_END (R150): a channel's target turns round at the end of a half of its pattern. -/
def execPatternHalfEnd (channel : Nat) (s : State) : Host.Outcome State Fault Refusal :=
  event s fun s =>
    let c := channelAt s.gdu channel
    if 1 ≤ channel ∧ channel ≤ 12 ∧ alternates c.pattern then
      s.setChannel channel (retarget (s.channelIntensity channel) c.pattern (!c.on) c)
    else s

/-! ## The GDU's part of READ STATE (R160) -/

/-- R160: the GDU's state as it stands. The groups, levels and slope classes given are those in force at the read, also
for a channel whose target has not changed since they were amended. DESIGN CHOICE: notes/assumptions/48.md. -/
def gduReport (s : State) : GduReport :=
  { current := s.gdu.current, request := s.gdu.request, commitBeat := s.gdu.commitBeat,
    buffer := s.gdu.buffer, fifo := s.gdu.fifo, dwellRunning := s.gdu.dwellRunning,
    dwell := s.gdu.dwell, showBy := s.gdu.showBy,
    openFaults := s.gdu.channels.toList.map Channel.openFault,
    shortFaults := s.gdu.channels.toList.map Channel.shortFault,
    channelGroup := s.channelGroups, groups := s.intensityGroups,
    redSubstitute := redFaulted s.gdu }

end Sys2Proof.Machine
end

