-- ==== Sys2Proof/Machine/Dcu.lean ====
section
/-! DEFINITION. The door and cycle unit (chapter 1, and the DCU's part of chapter 10): the beat and the
deadlines that fall at it, door lines, reads, the bay states, the trunk binding and undock. -/

namespace Sys2Proof.Machine

def State.setDcu (s : State) (d : Dcu) : State := { s with dcu := d }

/-! ## The beat (R7) -/

/-- The event of a deadline that falls at a beat. -/
def fallsAt (beat : Nat) (deadline : Option Nat) (c : Instr) : List Instr :=
  if deadline = some beat then [c] else []

/-- The DCU's deadlines that fall at a beat; of deadlines at one beat the order is the model's. DESIGN CHOICE:
notes/assumptions/41.md. -/
def dcuExpiries (s : State) (beat : Nat) : List Instr :=
  List.flatten
    [fallsAt beat s.dcu.join .joinDeadlineExpiry, fallsAt beat s.dcu.cutOff .cutOffExpiry,
     fallsAt beat s.dcu.farCut .farCutExpiry, fallsAt beat s.dcu.leveller .levellerGraceExpiry,
     fallsAt beat s.dcu.closingGrace .closingGraceExpiry]

def recordExpiries (beat : Nat) (r : PalletRecord) : List Instr :=
  List.flatten
    [fallsAt beat r.answerBy (.answerDeadlineExpiry r.pallet),
     fallsAt beat r.guardBy (.guardDeadlineExpiry r.pallet),
     fallsAt beat r.retryAt (.retryAfterExpiry r.pallet)]

def slotExpiries (beat : Nat) : Slot → List Instr
  | .record r => recordExpiries beat r
  | .free => []
  | .lone _ => []

def tierExpiries (beat : Nat) : Tier → List Instr
  | .reserved r => fallsAt beat (some r.expiry) (.reservationExpiry r.pallet)
  | .landed _ => []

/-- A drain's one deadline is its answer deadline while ASKED and its guard deadline after. -/
def drainExpiries (beat lane : Nat) (d : Drain) : List Instr :=
  fallsAt beat d.retryAt (.drainRetryAfterExpiry lane) ++
    match d.state with
    | .asked => fallsAt beat d.deadline (.drainAnswerDeadlineExpiry lane)
    | .granted => fallsAt beat d.deadline (.drainGuardDeadlineExpiry lane)
    | .inTransit => fallsAt beat d.deadline (.drainGuardDeadlineExpiry lane)
    | .seeking => []

def laneExpiries (beat : Nat) (l : Lane) : List Instr :=
  l.puts.flatMap (fun x => fallsAt beat (some x.expiry) (.putExpiry x.pallet)) ++
    (match l.drain with
     | some d => drainExpiries beat l.number d
     | none => [])

def gduExpiries (s : State) (beat : Nat) : List Instr :=
  fallsAt beat s.gdu.dwell .dwellExpiry ++ fallsAt beat s.gdu.showBy .showExpiry

/-- An advert tick falls at a whole multiple, other than 0, of the advert period in force; none before
the configuration has been read (R8). -/
def ticksAt (s : State) (beat : Nat) : Bool :=
  !s.reading && decide (beat ≠ 0) && decide (beat % s.advertPeriod = 0)

/-- Every expiry and the tick that fall at a beat, block by block, in the order in which they are handed out.
DESIGN CHOICE: notes/assumptions/41.md. -/
def beatEvents (s : State) (beat : Nat) : List Instr :=
  List.flatten
    [dcuExpiries s beat, s.dsu.slots.toList.flatMap (slotExpiries beat),
     s.lpu.plan.floorStacks.toList.flatMap (fun st => st.flatMap (tierExpiries beat)),
     s.mlu.lanes.flatMap (laneExpiries beat), gduExpiries s beat,
     if ticksAt s beat then [.advertTick] else []]

/-! ## Bay states -/

/-- A bay state entered, which the GDU takes as an event (R151). -/
def State.enter (s : State) (st : BayState) : State :=
  (s.setDcu { s.dcu with bayState := some st }).hand .bayStateChange

/-- R10: the entry to DOCKED; a seal request goes with it while the seal is clear. DEDUCED:
notes/assumptions/27.md. -/
def State.enterDocked (s : State) : State :=
  if s.scu.sealed then s.enter .docked else (s.enter .docked).hand .sealRequest

/-- R161: the entry to CLOSING. -/
def State.enterClosing (s : State) : State :=
  let deadline := s.now + s.scu.config.closingGrace
  (((s.setDcu { s.dcu with closingGrace := some deadline }).enter .closing).hand
    .closeRequestClosing).expireAtOnce deadline .closingGraceExpiry

/-- R165: the entry to CLOSED. -/
def State.enterClosed (s : State) : State :=
  ((s.setDcu { s.dcu with closingGrace := none, suspended := false, leveller := none, farCut := none }).enter
    .closed).hand .closeRequestClosed

/-- The DCU with binding, phase, SUSPENDED and the deadlines of the bay cycle cleared (R17, R18). -/
def unbound (d : Dcu) : Dcu :=
  { d with binding := none, phase := none, suspended := false, cutOff := none, farCut := none,
           leveller := none, closingGrace := none }

/-- R17: an undock that hands the LPU a departure request. -/
def State.depart (s : State) : State := ((s.setDcu (unbound s.dcu)).enter .empty).hand .departureRequest

/-- R18: an undock abort, the DCU's part. -/
def State.abortUndock (s : State) : State :=
  (((s.setDcu (unbound s.dcu)).enter .empty).hand .abortRequest).raiseNotice .undockAbort

/-- R17, R18: an undock by the bay state. -/
def State.undock (s : State) : State :=
  match s.dcu.bayState with
  | some .docked | some .blocked => (s.setDcu { s.dcu with phase := none }).enter .empty
  | some .inbound | some .closed => s.depart
  | some .outbound | some .closing => s.abortUndock
  | some .listen | some .unconfigured | some .empty | none => s

/-! ## The trunk (R13, R14) -/

/-- R13: FAR while a far destination is present and its far-cut beat has not been reached. -/
def phaseAt (b : Binding) (now : Nat) : Phase :=
  match b.far, b.farCut with
  | some _, some beat => if now < beat then .far else .near
  | _, _ => .near

/-- R13, R14: the phase chosen and the LPU asked to begin the plan. -/
def State.beginPlan (s : State) (b : Binding) : State :=
  (s.setDcu { s.dcu with phase := some (phaseAt b s.now) }).hand
    (.beginPlan b.cls b.near b.far (phaseAt b s.now))

/-- R14: a press of CLOSE PUSH. -/
def State.pressClose (s : State) : State :=
  match s.dcu.bayState, s.dcu.binding with
  | some .inbound, some b =>
    if b.cutOff ≤ s.now then (s.beginPlan b).enterClosing else (s.beginPlan b).enter .outbound
  | some .outbound, _ => s.enterClosing
  | some .closing, _ => s.enterClosed
  | _, _ => s

/-! ## Door lines (R1, R10, R11, R16, R17) -/

def lineOf (d : Dcu) : Line → DoorLine
  | .trailerPresent => d.trailerPresent
  | .levellerDown => d.levellerDown
  | .doorOpen => d.doorOpen
  | .closePush => d.closePush

def withLine (d : Dcu) (x : DoorLine) : Line → Dcu
  | .trailerPresent => { d with trailerPresent := x }
  | .levellerDown => { d with levellerDown := x }
  | .doorOpen => { d with doorOpen := x }
  | .closePush => { d with closePush := x }

/-- R10: the trailer and the leveller are both there, by last-taken value. -/
def bothDown (d : Dcu) : Bool := d.trailerPresent.lastTaken && d.levellerDown.lastTaken

/-- R10: the bay docks at the change that makes both true. -/
def State.dockIfBoth (s : State) : State :=
  if s.inState .empty && bothDown s.dcu then s.enterDocked else s

/-- A bay state over which SUSPENDED may stand. -/
def visiting (s : State) : Bool := s.inState .inbound || s.inState .outbound || s.inState .closing

/-- R16: SUSPENDED set, with its grace. -/
def State.suspend (s : State) : State :=
  let deadline := s.now + s.scu.config.levellerGrace
  ((s.setDcu { s.dcu with suspended := true, leveller := some deadline }).hand .bayStateChange).expireAtOnce
    deadline .levellerGraceExpiry

/-- R16: the leveller is back. -/
def State.resume (s : State) : State :=
  (s.setDcu { s.dcu with suspended := false, leveller := none }).hand .bayStateChange

/-- R10, R16: the leveller raised. -/
def State.levellerUp (s : State) : State :=
  if s.inState .docked then s.enter .empty
  else if visiting s && s.dcu.trailerPresent.lastTaken then s.suspend
  else s

/-- The leveller's return after a grace-expiry undock is due, or due no more (R16). -/
def State.setReturnDue (s : State) (b : Bool) : State := s.setDcu { s.dcu with returnDue := b }

/-- R10, R16: the leveller lowered. Its return after a grace-expiry undock has no effect in EMPTY (R16), so R10
does not dock the bay there. DEDUCED: notes/assumptions/31.md. -/
def State.levellerLowered (s : State) : State :=
  if s.dcu.suspended then s.resume
  else if s.dcu.returnDue then s.setReturnDue false
  else s.dockIfBoth

/-- R16, R17: the trailer is gone: an undock by the bay state, and no leveller's return is awaited. -/
def State.trailerLeft (s : State) : State := s.undock.setReturnDue false

/-- R16: an undock by the leveller grace, after which the leveller's return is due. -/
def State.graceUndock (s : State) : State := s.undock.setReturnDue true

/-- The bay state machine's taking of a line change, after the last-taken value is set. -/
def State.lineTaken (s : State) (line : Line) (value : Bool) : State :=
  match line, value with
  | .trailerPresent, true => s.dockIfBoth
  | .trailerPresent, false => s.trailerLeft
  | .levellerDown, true => s.levellerLowered
  | .levellerDown, false => s.levellerUp
  | .closePush, true => s.pressClose
  | .closePush, false => s
  | .doorOpen, _ => s

/-- R1: a line's value, and its taking where it differs from the last-taken value; of a change and a change back
that both wait, each is taken in its turn. DEDUCED: notes/assumptions/6.md. -/
def State.changeLine (s : State) (line : Line) (value : Bool) : State :=
  let old := lineOf s.dcu line
  if s.resetLine || s.reading || decide (value = old.lastTaken) then
    s.setDcu (withLine s.dcu { old with current := value } line)
  else
    (s.setDcu (withLine s.dcu { current := value, lastTaken := value, changed := true } line)).lineTaken
      line value

/-! ## Beams (R6) -/

def beamOf (d : Dcu) (lane : Nat) : Beam := (d.beams[lane - 1]?).getD { current := false, lastTaken := false }

def withBeam (d : Dcu) (lane : Nat) (b : Beam) : Dcu :=
  { d with beams := d.beams.setIfInBounds (lane - 1) b }

/-- A lane number of one of the four beams. -/
def isBeam (lane : Nat) : Bool := decide (1 ≤ lane) && decide (lane ≤ 4)

/-! ## Reads (R3 to R6) -/

/-- R5: a door read routed. -/
def routeDoorRead (s : State) (r : DoorRead) : Option Instr :=
  if s.dcu.suspended then none
  else
    match s.dcu.bayState, r.direction with
    | some .inbound, .outOfTrailer => some (.dsuDoorReadOut (normalDoorRead r))
    | some .inbound, .intoTrailer => some (.dsuDoorReadInto (normalDoorRead r))
    | some .outbound, .intoTrailer => some (.lpuDoorReadInto (normalDoorRead r))
    | some .outbound, .outOfTrailer => some (.lpuDoorReadOut (normalDoorRead r))
    | some .closing, .intoTrailer => some (.lpuDoorReadInto (normalDoorRead r))
    | some .closing, .outOfTrailer => some (.lpuDoorReadOut (normalDoorRead r))
    | _, _ => none

/-- R12, R13: the binding of an accepted card. -/
def bindingOf (r : CardRead) (now : Nat) : Binding :=
  { trailerId := r.trailerId, cls := r.cls, arrivesLoaded := r.arrivesLoaded, near := r.near,
    far := cardFar r, readBeat := now, cutOff := now + clampedCutOff r * 60,
    farCut := (clampedFarCut r).map fun m => now + m * 60 }

/-- R13: a deadline that expires at once if its beat has been reached. -/
def State.farCutAtOnce (s : State) : State :=
  match s.dcu.farCut with
  | some beat => s.expireAtOnce beat .farCutExpiry
  | none => s

/-- R13: the card accepted. -/
def State.acceptCard (s : State) (r : CardRead) : State :=
  let b := bindingOf r s.now
  let t := { s with
    dcu := { s.dcu with binding := some b, cutOff := some b.cutOff, farCut := b.farCut }
    lpu := { s.lpu with binding := some b, closing := none } }
  (if r.arrivesLoaded then t.enter .inbound else (t.beginPlan b).enter .outbound).farCutAtOnce

/-! ## The phase switch (R15, R92) -/

/-- The LPU's plan with its phase NEAR; a plan not yet begun is begun in phase NEAR. -/
def nearPhase : Instr → Instr
  | .beginPlan cls near far _ => .beginPlan cls near far .near
  | c => c

/-- R15, R92: the phase NEAR at the DCU and the LPU. DEDUCED: notes/assumptions/16.md. -/
def State.switchPhase (s : State) : State :=
  { s with
    dcu := { s.dcu with phase := some .near }
    lpu := { s.lpu with plan :=
      if s.lpu.plan.state = .opened then { s.lpu.plan with phase := some .near } else s.lpu.plan }
    handed := s.handed.map nearPhase }

/-! ## The commands -/

/-- BEAT (R7): at its greatest value the counter holds, and nothing falls. DEDUCED: notes/assumptions/17.md. -/
def execBeat (s : State) : Host.Outcome State Fault Refusal :=
  event s fun s =>
    if s.dcu.beat < maxBeat then
      (s.setDcu { s.dcu with beat := s.dcu.beat + 1 }).handAll (beatEvents s (s.dcu.beat + 1))
    else s

/-- ADVERT_TICK (R7): delivered to the FBI, the PDR and the MLU. -/
def execAdvertTick (s : State) : Host.Outcome State Fault Refusal :=
  taken .advertTick s fun s =>
    if s.reading then s else s.handAll [.advertDebtRise, .agingEvent, .drainTick]

/-- DOOR_LINE_CHANGE (R1). A line is a level: it has its value even while no change is taken. DEDUCED:
notes/assumptions/6.md. -/
def execDoorLineChange (line : Line) (value : Bool) (s : State) : Host.Outcome State Fault Refusal :=
  .next (s.changeLine line value)

/-- DOOR_READ (R3, R4, R5). -/
def execDoorRead (r : DoorRead) (s : State) : Host.Outcome State Fault Refusal :=
  event s fun s =>
    if s.reading then s
    else if r.pallet = 0 ∨ s.dcu.doorOpen.lastTaken = false then s.raiseNotice .strayRead
    else
      match routeDoorRead s r with
      | some c => s.hand c
      | none => s.raiseNotice .strayRead

/-- CARD_READ (R12, R13). -/
def execCardRead (r : CardRead) (s : State) : Host.Outcome State Fault Refusal :=
  event s fun s =>
    if s.reading then s
    else if !s.inState .docked then s.raiseNotice .cardRefused
    else if cardBad r then (s.raiseNotice .cardRefused).indicate .dcu .refused none
    else s.acceptCard r

/-- LANE_READ (R3, R6). -/
def execLaneRead (r : LaneRead) (s : State) : Host.Outcome State Fault Refusal :=
  event s fun s =>
    if s.reading then s
    else if r.pallet = 0 ∨ r.lane = 0 ∨ s.laneCount < r.lane then s.raiseNotice .strayRead
    else s.hand (.mluLaneRead (normalLaneRead r))

/-- EXIT_EVENT (R6): a beam goes from interrupted to clear. -/
def execExitEvent (lane : Nat) (s : State) : Host.Outcome State Fault Refusal :=
  .next
    (if !isBeam lane then s
     else if s.resetLine || s.reading || !(beamOf s.dcu lane).lastTaken then
       s.setDcu (withBeam s.dcu lane { beamOf s.dcu lane with current := false })
     else
       let t := s.setDcu (withBeam s.dcu lane { current := false, lastTaken := false })
       if s.laneCount < lane then t else t.hand (.mluExitEvent lane))

/-- BEAM_INTERRUPTED (R6). -/
def execBeamInterrupted (lane : Nat) (s : State) : Host.Outcome State Fault Refusal :=
  .next
    (if !isBeam lane then s
     else if s.resetLine || s.reading then
       s.setDcu (withBeam s.dcu lane { beamOf s.dcu lane with current := true })
     else s.setDcu (withBeam s.dcu lane { current := true, lastTaken := true }))

/-- JOIN_DEADLINE_EXPIRY (R8, R37). -/
def execJoinDeadlineExpiry (s : State) : Host.Outcome State Fault Refusal :=
  taken .joinDeadlineExpiry s fun s =>
    if s.inState .listen && due s.dcu.join s.now then
      ((s.setDcu { s.dcu with join := none }).placeFirstAdvert).enter
        (if bothDown s.dcu then .blocked else .empty)
    else s

/-- CUT_OFF_EXPIRY (R15, R161). -/
def execCutOffExpiry (s : State) : Host.Outcome State Fault Refusal :=
  taken .cutOffExpiry s fun s =>
    if due s.dcu.cutOff s.now then
      let t := s.setDcu { s.dcu with cutOff := none }
      if s.inState .outbound then t.enterClosing else t
    else s

/-- FAR_CUT_EXPIRY (R15, R92). -/
def execFarCutExpiry (s : State) : Host.Outcome State Fault Refusal :=
  taken .farCutExpiry s fun s =>
    if due s.dcu.farCut s.now then
      let t := s.setDcu { s.dcu with farCut := none }
      if s.inState .outbound && decide (s.dcu.phase = some .far) then t.switchPhase else t
    else s

/-- LEVELLER_GRACE_EXPIRY (R16 to R18). -/
def execLevellerGraceExpiry (s : State) : Host.Outcome State Fault Refusal :=
  taken .levellerGraceExpiry s fun s =>
    if due s.dcu.leveller s.now then
      let t := s.setDcu { s.dcu with leveller := none }
      if s.dcu.suspended then t.graceUndock else t
    else s

/-- CLOSING_GRACE_EXPIRY (R164, R165). -/
def execClosingGraceExpiry (s : State) : Host.Outcome State Fault Refusal :=
  taken .closingGraceExpiry s fun s =>
    if due s.dcu.closingGrace s.now then
      let t := s.setDcu { s.dcu with closingGrace := none }
      if s.inState .closing then t.enterClosed else t
    else s

/-- NO_RESERVATION_REPORT (R163, R165). -/
def execNoReservationReport (s : State) : Host.Outcome State Fault Refusal :=
  taken .noReservationReport s fun s => if s.inState .closing then s.enterClosed else s

/-- The value and the change flag SENSOR READ returns of a line (R2). -/
def sensorPair (x : DoorLine) : Bool × Bool := (x.current, x.changed)

def flagsCleared (d : Dcu) : Dcu :=
  { d with
    trailerPresent := { d.trailerPresent with changed := false }
    levellerDown := { d.levellerDown with changed := false }
    doorOpen := { d.doorOpen with changed := false }
    closePush := { d.closePush with changed := false } }

/-- SENSOR_READ (R2). -/
def execSensorRead (s : State) : Host.Outcome State Fault Refusal :=
  request s fun s =>
    (s.setDcu (flagsCleared s.dcu)).answer .sensorRead .ok
      (.sensors (sensorPair s.dcu.trailerPresent) (sensorPair s.dcu.levellerDown)
        (sensorPair s.dcu.doorOpen) (sensorPair s.dcu.closePush))

/-- DECLARE_EMPTY (R11). -/
def execDeclareEmpty (s : State) : Host.Outcome State Fault Refusal :=
  request s fun s =>
    if s.inState .blocked then
      (if s.dcu.levellerDown.lastTaken then s.enterDocked else s.enter .empty).answer .declareEmpty .ok .nothing
    else s.answer .declareEmpty .state .nothing

end Sys2Proof.Machine
end

