-- ==== Sys2Proof/Machine/Scu.lean ====
section
/-! DEFINITION. The service and configuration unit (chapter 11): the plug's image, the seal, the fields, the
general reads, notices, the service line, and the two resets with every block's part in them. -/

namespace Sys2Proof.Machine

def State.setScu (s : State) (u : Scu) : State := { s with scu := u }

/-! ## Entering LISTEN, and the lanes in force (R8, R9, R174) -/

/-- Every line and beam last-taken at its present value (R1, R6). -/
def takenNow (d : Dcu) : Dcu :=
  { d with
    trailerPresent := { d.trailerPresent with lastTaken := d.trailerPresent.current }
    levellerDown := { d.levellerDown with lastTaken := d.levellerDown.current }
    doorOpen := { d.doorOpen with lastTaken := d.doorOpen.current }
    closePush := { d.closePush with lastTaken := d.closePush.current }
    beams := d.beams.map fun b => { b with lastTaken := b.current } }

/-- R8: LISTEN entered with its join deadline, the record's lanes present. -/
def State.enterListen (s : State) : State :=
  ((s.setDcu { s.dcu with join := some (s.now + 2 * s.scu.config.advertPeriod) }).enter .listen).setLaneCount
    s.scu.config.laneCount

/-! ## The configuration plug (R172, R173) -/

/-- Bytes of the image before its check: 97 numbers of four bytes. -/
def imageLength : Nat := 388

/-- R172: the image is whole and its check is correct. DEDUCED: notes/assumptions/14.md. -/
def imageGood (image : List Byte) : Bool :=
  decide (imageLength + 2 ≤ image.length) &&
    decide (crcBytes (image.take imageLength) = (image.drop imageLength).take 2)

/-- What a read of the plug gives: the record, whether it came from the plug, and the two notices. -/
structure PlugResult where
  config : ConfigRecord
  fromPlug : Bool
  bad : Bool
  clamped : Bool
  deriving DecidableEq, Repr

/-- R172, R173: a good image taken. -/
def takeImage (numbers : List Int) : PlugResult :=
  let bay := numbers.head?.getD 0
  let r := loadFields (imageFields.zip numbers.tail) defaultConfig false
  if 1 ≤ bay ∧ bay ≤ 63 then
    { config := { r.1 with bay := bay.toNat }, fromPlug := true, bad := false, clamped := r.2 }
  else { config := { r.1 with bay := 0 }, fromPlug := true, bad := true, clamped := r.2 }

/-- R172: the three ways the read ends; a plug that does not answer gives no image. -/
def readPlug (image : Option (List Byte)) : PlugResult :=
  match image with
  | some l =>
    if imageGood l then takeImage (signedWords (l.take imageLength))
    else { config := defaultConfig, fromPlug := false, bad := true, clamped := false }
  | none => { config := defaultConfig, fromPlug := false, bad := true, clamped := false }

/-- The notices of a read, raised in the event that ends it. -/
def plugNotices (u : Scu) (r : PlugResult) : Scu :=
  let u1 := if r.bad then withPending u .configBad true else judgedLine u
  if r.clamped then withPending u1 .configClamped true else u1

/-- The SCU after a read; while the reset line is asserted the notice line stays deasserted (R179). -/
def scuAfterRead (held : Bool) (u : Scu) (r : PlugResult) : Scu :=
  let u1 := plugNotices { u with config := r.config, fromPlug := r.fromPlug } r
  if held then { u1 with noticeLine := false } else u1

/-- R8, R9: the bay state after a read. -/
def State.afterRead (s : State) (r : PlugResult) : State :=
  let t := (s.setDcu (takenNow s.dcu)).setScu (scuAfterRead s.resetLine s.scu r)
  if r.bad then t.enter .unconfigured else t.enterListen

/-! ## Resets (R19, R38, R41, R59, R100, R148, R159, R182) -/

/-- The DCU after either reset: lines and beams keep their present values and are last taken at them. -/
def dcuAfterReset (d : Dcu) (st : Option BayState) : Dcu :=
  let f (x : DoorLine) : DoorLine := { current := x.current, lastTaken := x.current, changed := false }
  { resetDcu with
    bayState := st
    trailerPresent := f d.trailerPresent, levellerDown := f d.levellerDown, doorOpen := f d.doorOpen,
    closePush := f d.closePush, beams := d.beams.map fun b => { b with lastTaken := b.current } }

/-- Every block at its reset state; the queue of commands, the serial number and the levels at the bay's
inputs stay. What one block has handed another and is not yet taken is lost. DESIGN CHOICE:
notes/assumptions/32.md. -/
def State.blocksReset (s : State) (st : Option BayState) : State :=
  { s with
    handed := [], dcu := dcuAfterReset s.dcu st, fbi := resetFbi, pdr := resetPdr, dsu := resetDsu,
    lpu := resetLpu, mlu := resetMlu, gdu := resetGdu }

/-- The SCU after a floor reset: the record and the seal kept (R182). -/
def scuAfterFloorReset (u : Scu) : Scu :=
  { resetScu with config := u.config, sealed := u.sealed, fromPlug := u.fromPlug }

/-- R177: a seal request that waits for the SCU is not lost at a floor reset. DEDUCED: notes/assumptions/35.md. -/
def sealRequests (l : List Instr) : List Instr := l.filter fun c => decide (c = .sealRequest)

/-- R179: the floor reset taken by every block. A bay UNCONFIGURED stays so, and one whose power-on read
is still under way goes on waiting for it. -/
def State.floorReset (s : State) : State :=
  let t := ((s.blocksReset s.dcu.bayState).setScu (scuAfterFloorReset s.scu)).handAll (sealRequests s.handed)
  match s.dcu.bayState with
  | none => t
  | some .unconfigured => t.hand .bayStateChange
  | some _ => t.enterListen

/-- Every lamp channel driven at 0 (R179). -/
def darkChannels (g : Gdu) : Gdu := { g with channels := g.channels.map fun c => { c with drive := 0 } }

/-! ## Fields (R176) -/

/-- R176, R146: a field written; a lane count in force makes its lanes present at once. Whatever is held already for a
number that a written bay number makes the bay's own (a last-heard entry, a directory entry, a last-ask-heard slot)
stays. DESIGN CHOICE: notes/assumptions/49.md. -/
def State.writeField (s : State) (f : FieldName) (i : Nat) (v : Int) : State :=
  let t := s.setScu { s.scu with config := setField s.scu.config f i v }
  if f = .laneCount ∧ s.inState .unconfigured = false then t.setLaneCount v.toNat else t

/-! ## READ STATE (R178) -/

def stateReport (s : State) : StateReport :=
  { beat := s.dcu.beat, bayState := s.dcu.bayState, phase := s.dcu.phase, suspended := s.dcu.suspended,
    binding := s.dcu.binding, join := s.dcu.join, cutOff := s.dcu.cutOff, farCut := s.dcu.farCut,
    leveller := s.dcu.leveller, closingGrace := s.dcu.closingGrace, mute := s.fbi.mute,
    restartMark := s.fbi.restartMark, debt := s.fbi.debt, seq := s.fbi.seq, txCount := s.fbi.tx.length,
    rxCount := s.fbi.rx.length, lastHeard := s.fbi.lastHeard, gdu := gduReport s, sealed := s.scu.sealed,
    fromPlug := s.scu.fromPlug }

/-! ## The commands -/

/-- POWER_ON_RESET (R8): every block at its reset state, and the read of the plug begun. -/
def execPowerOnReset (s : State) : Host.Outcome State Fault Refusal :=
  .next ((s.blocksReset none).setScu resetScu)

/-- CONFIGURATION_READ_END (R172, R8, R9): no other event interrupts the read. -/
def execConfigurationReadEnd (image : Option (List Byte)) (s : State) :
    Host.Outcome State Fault Refusal :=
  .next (if s.reading then s.afterRead (readPlug image) else s)

/-- RESET_LINE_ASSERTED (R179). -/
def execResetLineAsserted (s : State) : Host.Outcome State Fault Refusal :=
  .next { s with
    resetLine := true, gdu := darkChannels s.gdu, scu := { s.scu with noticeLine := false } }

/-- RESET_LINE_RELEASED (R179): the floor reset is taken when an asserted line is released. -/
def execResetLineReleased (s : State) : Host.Outcome State Fault Refusal :=
  .next (if s.resetLine then ({ s with resetLine := false }).floorReset else s)

/-- FLOOR_RESET (R179): answered OK; the reset is taken when that answer has been sent. -/
def execFloorReset (s : State) : Host.Outcome State Fault Refusal :=
  request s fun s => s.answer .floorReset .ok .nothing

/-- FLOOR_RESET_TAKEN (R179). -/
def execFloorResetTaken (s : State) : Host.Outcome State Fault Refusal := event s State.floorReset

/-- SERVICE_ANSWER_SENT (R175, R179): the SCU is free for the next request; after the answer of a FLOOR RESET
the floor reset is taken. -/
def execServiceAnswerSent (s : State) : Host.Outcome State Fault Refusal :=
  event s fun s =>
    match s.scu.answer with
    | none => s
    | some a =>
      if a.request = .floorReset then s.floorReset else s.setScu { s.scu with answer := none }

/-- SEAL_REQUEST (R177); none is taken during the read of the plug, which no event interrupts (R172). While the
reset line is asserted it goes on waiting (R179). DEDUCED: notes/assumptions/35.md. -/
def execSealRequest (s : State) : Host.Outcome State Fault Refusal :=
  event s fun s =>
    let t := s.drop .sealRequest
    if s.reading then t else t.setScu { s.scu with sealed := true }

/-- SEAL (R177, R9, R174). -/
def execSealConfig (s : State) : Host.Outcome State Fault Refusal :=
  request s fun s =>
    if s.scu.sealed then s.answer .sealConfig .sealed .nothing
    else if s.scu.config.bay = 0 then s.answer .sealConfig .state .nothing
    else
      let t := s.setScu { s.scu with sealed := true }
      (if s.inState .unconfigured then t.enterListen else t).answer .sealConfig .ok .nothing

/-- WRITE_FIELD (R176). -/
def execWriteField (field : FieldName) (index : Option Nat) (value : Int) (s : State) :
    Host.Outcome State Fault Refusal :=
  request s fun s =>
    if fieldNamed field index = false then s.answer .writeField .range .nothing
    else if s.scu.sealed then s.answer .writeField .sealed .nothing
    else if fieldInRange field value = false then s.answer .writeField .range .nothing
    else (s.writeField field (index.getD 0) value).answer .writeField .ok .nothing

/-- READ_FIELD (R178). -/
def execReadField (field : FieldName) (index : Option Nat) (s : State) : Host.Outcome State Fault Refusal :=
  request s fun s =>
    if fieldNamed field index = false then s.answer .readField .range .nothing
    else
      match getField s.scu.config field (index.getD 0) with
      | some v => s.answer .readField .ok (.field v)
      | none => s.answer .readField .range .nothing

/-- READ_STATE (R178, R160). -/
def execReadState (s : State) : Host.Outcome State Fault Refusal :=
  request s fun s => s.answer .readState .ok (.state (stateReport s))

/-- READ_NOTICES (R178). -/
def execReadNotices (s : State) : Host.Outcome State Fault Refusal :=
  request s fun s => s.answer .readNotices .ok (.notices s.scu.pending s.scu.enabled s.scu.noticeLine)

/-- NOTICE_ENABLE (R181). -/
def execNoticeEnable (kind : Option NoticeKind) (s : State) : Host.Outcome State Fault Refusal :=
  request s fun s =>
    match kind with
    | some k => (s.setScu (withEnable s.scu k true)).answer .noticeEnable .ok .nothing
    | none => s.answer .noticeEnable .range .nothing

/-- NOTICE_DISABLE (R181). -/
def execNoticeDisable (kind : Option NoticeKind) (s : State) : Host.Outcome State Fault Refusal :=
  request s fun s =>
    match kind with
    | some k => (s.setScu (withEnable s.scu k false)).answer .noticeDisable .ok .nothing
    | none => s.answer .noticeDisable .range .nothing

/-- CLEAR_NOTICE (R181). -/
def execClearNotice (kind : Option NoticeKind) (s : State) : Host.Outcome State Fault Refusal :=
  request s fun s =>
    match kind with
    | some k =>
      if pendingFlag s.scu k then (s.setScu (withPending s.scu k false)).answer .clearNotice .ok .nothing
      else s.answer .clearNotice .state .nothing
    | none => s.answer .clearNotice .range .nothing

/-- UNKNOWN (R175): a name unknown, or arguments too few, too many or of the wrong form; it answers under one
name. DESIGN CHOICE: notes/assumptions/28.md. -/
def execUnknown (s : State) : Host.Outcome State Fault Refusal :=
  request s fun s => s.answer .unknown .unknown .nothing

/-- The line stays deasserted during the power-on configuration read (R180). DEDUCED: notes/assumptions/18.md.
-/
def noticeRaised (reading : Bool) (u : Scu) (k : NoticeKind) : Scu :=
  if reading then { withPending u k true with noticeLine := false } else withPending u k true

/-- NOTICE_RAISE (R180). -/
def execNoticeRaise (kind : NoticeKind) (s : State) : Host.Outcome State Fault Refusal :=
  taken (.noticeRaise kind) s fun s => s.setScu (noticeRaised s.reading s.scu kind)

end Sys2Proof.Machine
end

