-- ==== Sys2Proof/Machine/Dispatch.lean ====
section
/-! DEFINITION. The dispatch: one arm per command, each one call of its meaning. -/

namespace Sys2Proof.Machine

/-- The effect of a command on everything but the queue. -/
def exec (i : Instr) (s : State) : Host.Outcome State Fault Refusal :=
  match i with
  | .powerOnReset => Sys2Proof.Machine.execPowerOnReset s
  | .configurationReadEnd image => Sys2Proof.Machine.execConfigurationReadEnd image s
  | .resetLineAsserted => Sys2Proof.Machine.execResetLineAsserted s
  | .resetLineReleased => Sys2Proof.Machine.execResetLineReleased s
  | .floorReset => Sys2Proof.Machine.execFloorReset s
  | .floorResetTaken => Sys2Proof.Machine.execFloorResetTaken s
  | .beat => Sys2Proof.Machine.execBeat s
  | .advertTick => Sys2Proof.Machine.execAdvertTick s
  | .advertDebtRise => Sys2Proof.Machine.execAdvertDebtRise s
  | .agingEvent => Sys2Proof.Machine.execAgingEvent s
  | .drainTick => Sys2Proof.Machine.execDrainTick s
  | .doorLineChange line value => Sys2Proof.Machine.execDoorLineChange line value s
  | .doorRead r => Sys2Proof.Machine.execDoorRead r s
  | .cardRead r => Sys2Proof.Machine.execCardRead r s
  | .laneRead r => Sys2Proof.Machine.execLaneRead r s
  | .exitEvent lane => Sys2Proof.Machine.execExitEvent lane s
  | .joinDeadlineExpiry => Sys2Proof.Machine.execJoinDeadlineExpiry s
  | .cutOffExpiry => Sys2Proof.Machine.execCutOffExpiry s
  | .farCutExpiry => Sys2Proof.Machine.execFarCutExpiry s
  | .levellerGraceExpiry => Sys2Proof.Machine.execLevellerGraceExpiry s
  | .closingGraceExpiry => Sys2Proof.Machine.execClosingGraceExpiry s
  | .noReservationReport => Sys2Proof.Machine.execNoReservationReport s
  | .sensorRead => Sys2Proof.Machine.execSensorRead s
  | .declareEmpty => Sys2Proof.Machine.execDeclareEmpty s
  | .attemptStart => Sys2Proof.Machine.execAttemptStart s
  | .frameSent => Sys2Proof.Machine.execFrameSent s
  | .collision => Sys2Proof.Machine.execCollision s
  | .backoffEnd => Sys2Proof.Machine.execBackoffEnd s
  | .fragmentReceived => Sys2Proof.Machine.execFragmentReceived s
  | .frameArrival bytes => Sys2Proof.Machine.execFrameArrival bytes s
  | .frameTaking => Sys2Proof.Machine.execFrameTaking s
  | .doubtAll => Sys2Proof.Machine.execDoubtAll s
  | .doubtSender bay => Sys2Proof.Machine.execDoubtSender bay s
  | .pdrAdvert sender restart b => Sys2Proof.Machine.execPdrAdvert sender restart b s
  | .pdrAsk sender b => Sys2Proof.Machine.execPdrAsk sender b s
  | .askNote b => Sys2Proof.Machine.execAskNote b s
  | .pdrGrant sender b => Sys2Proof.Machine.execPdrGrant sender b s
  | .pdrPlaced sender b => Sys2Proof.Machine.execPdrPlaced sender b s
  | .pdrRefuse sender b => Sys2Proof.Machine.execPdrRefuse sender b s
  | .pdrClose sender => Sys2Proof.Machine.execPdrClose sender s
  | .trailerCandidatesRequest dest who => Sys2Proof.Machine.execTrailerCandidatesRequest dest who s
  | .laneCandidatesRequest dest pallet token => Sys2Proof.Machine.execLaneCandidatesRequest dest pallet token s
  | .readDirectoryEntry setNo way => Sys2Proof.Machine.execReadDirectoryEntry setNo way s
  | .dsuDoorReadOut r => Sys2Proof.Machine.execDsuDoorReadOut r s
  | .dsuDoorReadInto r => Sys2Proof.Machine.execDsuDoorReadInto r s
  | .trailerCandidatesAnswer pallet token found => Sys2Proof.Machine.execTrailerCandidatesAnswer pallet token found s
  | .laneCandidatesAnswer pallet token found => Sys2Proof.Machine.execLaneCandidatesAnswer pallet token found s
  | .selfPutAnswer pallet token given => Sys2Proof.Machine.execSelfPutAnswer pallet token given s
  | .answerDeadlineExpiry pallet => Sys2Proof.Machine.execAnswerDeadlineExpiry pallet s
  | .guardDeadlineExpiry pallet => Sys2Proof.Machine.execGuardDeadlineExpiry pallet s
  | .retryAfterExpiry pallet => Sys2Proof.Machine.execRetryAfterExpiry pallet s
  | .dsuGrant sender b => Sys2Proof.Machine.execDsuGrant sender b s
  | .dsuRefuse sender b => Sys2Proof.Machine.execDsuRefuse sender b s
  | .dsuRelease sender b => Sys2Proof.Machine.execDsuRelease sender b s
  | .dsuPlaced sender b => Sys2Proof.Machine.execDsuPlaced sender b s
  | .placedNote pallet asker place => Sys2Proof.Machine.execPlacedNote pallet asker place s
  | .dsuRestartAdvert sender => Sys2Proof.Machine.execDsuRestartAdvert sender s
  | .dsuClose sender b => Sys2Proof.Machine.execDsuClose sender b s
  | .selfPutRelease pallet reason => Sys2Proof.Machine.execSelfPutRelease pallet reason s
  | .askSequenceRequest lane pallet target => Sys2Proof.Machine.execAskSequenceRequest lane pallet target s
  | .shownReport pallet indication => Sys2Proof.Machine.execShownReport pallet indication s
  | .droppedReport pallet indication => Sys2Proof.Machine.execDroppedReport pallet indication s
  | .removeRecord pallet => Sys2Proof.Machine.execRemoveRecord pallet s
  | .readAskTable => Sys2Proof.Machine.execReadAskTable s
  | .beginPlan cls near far phase => Sys2Proof.Machine.execBeginPlan cls near far phase s
  | .lpuAsk sender b => Sys2Proof.Machine.execLpuAsk sender b s
  | .ownTrailerAsk a => Sys2Proof.Machine.execOwnTrailerAsk a s
  | .reservationExpiry pallet => Sys2Proof.Machine.execReservationExpiry pallet s
  | .lpuRelease sender b => Sys2Proof.Machine.execLpuRelease sender b s
  | .ownDrainRelease pallet reason => Sys2Proof.Machine.execOwnDrainRelease pallet reason s
  | .lpuDoorReadInto r => Sys2Proof.Machine.execLpuDoorReadInto r s
  | .lpuDoorReadOut r => Sys2Proof.Machine.execLpuDoorReadOut r s
  | .ownTrailerSummary lane token => Sys2Proof.Machine.execOwnTrailerSummary lane token s
  | .closeRequestClosing => Sys2Proof.Machine.execCloseRequestClosing s
  | .closeRequestClosed => Sys2Proof.Machine.execCloseRequestClosed s
  | .departureRequest => Sys2Proof.Machine.execDepartureRequest s
  | .abortRequest => Sys2Proof.Machine.execAbortRequest s
  | .readPlan => Sys2Proof.Machine.execReadPlan s
  | .clearHold => Sys2Proof.Machine.execClearHold s
  | .readClosingRecord => Sys2Proof.Machine.execReadClosingRecord s
  | .mluAsk sender b => Sys2Proof.Machine.execMluAsk sender b s
  | .selfPutRequest p kind token => Sys2Proof.Machine.execSelfPutRequest p kind token s
  | .selfPutCancel pallet => Sys2Proof.Machine.execSelfPutCancel pallet s
  | .putExpiry pallet => Sys2Proof.Machine.execPutExpiry pallet s
  | .mluRelease sender b => Sys2Proof.Machine.execMluRelease sender b s
  | .mluLaneRead r => Sys2Proof.Machine.execMluLaneRead r s
  | .mluExitEvent lane => Sys2Proof.Machine.execMluExitEvent lane s
  | .drainCandidatesAnswer lane token found own => Sys2Proof.Machine.execDrainCandidatesAnswer lane token found own s
  | .askSequenceReturn lane pallet target value => Sys2Proof.Machine.execAskSequenceReturn lane pallet target value s
  | .mluGrant sender b => Sys2Proof.Machine.execMluGrant sender b s
  | .mluRefuse sender b => Sys2Proof.Machine.execMluRefuse sender b s
  | .ownTrailerAnswer pallet answer => Sys2Proof.Machine.execOwnTrailerAnswer pallet answer s
  | .drainAnswerDeadlineExpiry lane => Sys2Proof.Machine.execDrainAnswerDeadlineExpiry lane s
  | .drainRetryAfterExpiry lane => Sys2Proof.Machine.execDrainRetryAfterExpiry lane s
  | .drainGuardDeadlineExpiry lane => Sys2Proof.Machine.execDrainGuardDeadlineExpiry lane s
  | .mluPlaced sender b => Sys2Proof.Machine.execMluPlaced sender b s
  | .lampFaultReport lane => Sys2Proof.Machine.execLampFaultReport lane s
  | .lampClearReport lane => Sys2Proof.Machine.execLampClearReport lane s
  | .clearLane lane => Sys2Proof.Machine.execClearLane lane s
  | .readLanes => Sys2Proof.Machine.execReadLanes s
  | .indicationRequest r => Sys2Proof.Machine.execIndicationRequest r s
  | .dwellExpiry => Sys2Proof.Machine.execDwellExpiry s
  | .showExpiry => Sys2Proof.Machine.execShowExpiry s
  | .bayStateChange => Sys2Proof.Machine.execBayStateChange s
  | .lampSensing channel finding => Sys2Proof.Machine.execLampSensing channel finding s
  | .clearLamp channel kind => Sys2Proof.Machine.execClearLamp channel kind s
  | .sealRequest => Sys2Proof.Machine.execSealRequest s
  | .sealConfig => Sys2Proof.Machine.execSealConfig s
  | .writeField field index value => Sys2Proof.Machine.execWriteField field index value s
  | .readField field index => Sys2Proof.Machine.execReadField field index s
  | .readState => Sys2Proof.Machine.execReadState s
  | .readNotices => Sys2Proof.Machine.execReadNotices s
  | .noticeEnable kind => Sys2Proof.Machine.execNoticeEnable kind s
  | .noticeDisable kind => Sys2Proof.Machine.execNoticeDisable kind s
  | .clearNotice kind => Sys2Proof.Machine.execClearNotice kind s
  | .unknown => Sys2Proof.Machine.execUnknown s
  | .noticeRaise kind => Sys2Proof.Machine.execNoticeRaise kind s
  | .beamInterrupted lane => Sys2Proof.Machine.execBeamInterrupted lane s
  | .patternHalfEnd channel => Sys2Proof.Machine.execPatternHalfEnd channel s
  | .serviceAnswerSent => Sys2Proof.Machine.execServiceAnswerSent s

end Sys2Proof.Machine
end

