-- ==== Sys2Proof/Machine/Step.lean ====
section
/-! DEFINITION. One step of the bay: the command at the front of the queue, else the oldest event that one
block has handed another, else a millisecond of the lamp timebase (notes/assumptions/2.md and 15.md). -/

namespace Sys2Proof.Machine

/-- One step. -/
def step (s : State) : Host.Outcome State Fault Refusal :=
  match s.pending, s.handed with
  | c :: rest, _ => exec c { s with pending := rest }
  | [], c :: _ => exec c s
  | [], [] => .next s.idle

/-- The state with the command a word spells put at the front of its queue; unchanged where the word spells
none. -/
def State.withFetchWord (s : State) (nbits w : Nat) : State :=
  match decodeTableWord nbits w with
  | some c => { s with pending := c :: s.pending }
  | none => s

end Sys2Proof.Machine
end

