-- ==== Sys2Proof/WellFormed.lean ====
section
/-! DEFINITION. Well-formed commands: the ranges that the spec gives the operands of what arrives from outside
(section 0.7, R24) and of what one block hands another. A command outside them still has its meaning in
Machine/Dispatch.lean; this file says which commands a bay can meet. -/

namespace Sys2Proof

/-! ## Ranges -/

/-- A pallet ID, 1 to 999,999,999,999 (section 0.7). -/
def wfPallet (p : Nat) : Bool := decide (1 ≤ p) && decide (p ≤ 999999999999)

/-- A pallet ID as a reader delivers it, 0 among them (R3). -/
def wfReadPallet (p : Nat) : Bool := decide (p ≤ 999999999999)

/-- A bay number 1 to 63. -/
def wfBay (b : Nat) : Bool := decide (1 ≤ b) && decide (b ≤ 63)

/-- A bay field of a frame, 0 to 63 (R24 check 8). -/
def wfBayField (b : Nat) : Bool := decide (b ≤ 63)

/-- A lane number 1 to 4. -/
def wfLane (k : Nat) : Bool := decide (1 ≤ k) && decide (k ≤ 4)

/-- A lamp channel 1 to 12. -/
def wfChannel (c : Nat) : Bool := decide (1 ≤ c) && decide (c ≤ 12)

/-- An ask or frame sequence 0 to 255. -/
def wfSeq (n : Nat) : Bool := decide (n ≤ 255)

/-- A number of one, two or four bytes of a frame. -/
def wfByte (n : Nat) : Bool := decide (n ≤ 255)

def wfWord (n : Nat) : Bool := decide (n ≤ 65535)

def wfSigned (v : Int) : Bool := decide (-2147483648 ≤ v) && decide (v ≤ 2147483647)

/-- A characters' byte of a trailer ID has its top bit 0 (R27). -/
def wfTrailerId (v : Vector Byte 8) : Bool := v.toList.all fun b => decide (b.toNat < 128)

/-- A place of one of the two forms (section 2.4.1). -/
def wfPlace : Place → Bool
  | .trailer row _ tier => decide (1 ≤ row) && decide (row ≤ 13) && decide (1 ≤ tier) && decide (tier ≤ 3)
  | .lane k => wfLane k

/-! ## Frame bodies (R24) -/

/-- LISTEN and UNCONFIGURED have no code in an ADVERT (section 2.4.1). -/
def wfAdvertState : BayState → Bool
  | .listen => false
  | .unconfigured => false
  | _ => true

def wfLaneAdvert (l : LaneAdvert) : Bool := wfByte l.number && wfWord l.dest && wfByte l.fill

def wfOpenings (o : Openings) : Bool := wfByte o.full && wfByte o.half && wfByte o.quarter && wfByte o.mini

def wfAdvert (a : AdvertBody) : Bool :=
  wfAdvertState a.state && wfWord a.accepting && wfWord a.cutOff && wfWord a.margin &&
    wfOpenings a.openings && decide (a.lanes.length ≤ 4) && a.lanes.all wfLaneAdvert

def wfAsk (a : AskBody) : Bool :=
  wfSeq a.seq && wfBayField a.target && wfPallet a.pallet && wfWord a.dest && wfWord a.weight

def wfGrant (g : GrantBody) : Bool :=
  wfBayField g.asker && wfSeq g.seq && wfPallet g.pallet && wfPlace g.place && wfWord g.hold && wfWord g.margin

def wfRefuse (r : RefuseBody) : Bool := wfBayField r.asker && wfSeq r.seq && wfPallet r.pallet

def wfPlaced (p : PlacedBody) : Bool :=
  wfPallet p.pallet && wfBayField p.asker && wfPlace p.place && wfWord p.margin

def wfRelease (r : ReleaseBody) : Bool := wfPallet r.pallet && wfBayField r.asker && wfSeq r.seq

def wfClose (c : CloseBody) : Bool :=
  wfTrailerId c.trailerId && wfByte c.cls && wfWord c.near && wfWord c.far && wfByte c.landedNear &&
    wfByte c.landedFar && decide (0 ≤ c.payload) && decide (c.payload ≤ 4294967295) && wfSigned c.gross &&
    wfSigned c.kingpin && wfSigned c.bogie

def wfBody : Body → Bool
  | .advert b => wfAdvert b
  | .ask b => wfAsk b
  | .grant b => wfGrant b
  | .refuse b => wfRefuse b
  | .placed b => wfPlaced b
  | .release b => wfRelease b
  | .close b => wfClose b

/-- RESTART stands in an ADVERT alone (R24 check 5). -/
def wfRestart (f : Frame) : Bool :=
  match f.body with
  | .advert _ => true
  | _ => !f.restart

/-- A frame that passes R24. -/
def wfFrame (f : Frame) : Bool := wfBay f.sender && wfSeq f.seq && wfRestart f && wfBody f.body

/-- A body that has come: R24 does not judge the characters of a trailer ID. -/
def receivedBody : Body → Bool
  | .close c => wfClose { c with trailerId := Vector.replicate 8 0 }
  | b => wfBody b

/-- A frame that R24 accepts. -/
def receivedFrame (f : Frame) : Bool :=
  wfBay f.sender && wfSeq f.seq && wfRestart f && receivedBody f.body

/-! ## Requests -/

def wfRequester : Requester → Bool
  | .record pallet _ => wfPallet pallet
  | .drain lane _ => wfLane lane

def wfOwnAnswer : OwnAnswer → Bool
  | .granted row sd tier _ => wfPlace (.trailer row sd tier)
  | .refused _ => true
  | .released _ => true

/-- A display number 1 to 99, a side and tier or a lane of section 9.2. -/
def wfIndicationName : IndicationName → Bool
  | .goDoor b => wfBay b
  | .goLane k => wfLane k
  | .goRemoteLane b => wfBay b
  | .loadAt row sd tier => wfPlace (.trailer row sd tier)
  | .walkinAt row sd tier => wfPlace (.trailer row sd tier)
  | .drain k b => wfLane k && wfBay b
  | .wait | .except | .fullTable | .refused | .holding | .closed | .dark => true

/-- A request's pallet ID is present exactly from the DSU (section 9.2), FULL_TABLE naming none. -/
def wfIndicationRequest (r : IndicationRequest) : Bool :=
  wfIndicationName r.indication.name &&
    (match r.pallet with
     | some p => decide (r.source = .dsu) && wfPallet p
     | none => true)

/-- The commands a bay can meet. Service requests carry what the terminal sends, whatever it is. -/
def Instr.wf : Instr → Bool
  | .doorRead r => wfReadPallet r.pallet
  | .cardRead r => wfTrailerId r.trailerId
  | .laneRead r => wfReadPallet r.pallet
  | .exitEvent lane => wfLane lane
  | .beamInterrupted lane => wfLane lane
  | .lampSensing channel _ => wfChannel channel
  | .patternHalfEnd channel => wfChannel channel
  | .doubtSender bay => wfBay bay
  | .pdrAdvert sender _ b => wfBay sender && wfAdvert b
  | .pdrAsk sender b => wfBay sender && wfAsk b
  | .askNote b => wfAsk b
  | .pdrGrant sender b => wfBay sender && wfGrant b
  | .pdrPlaced sender b => wfBay sender && wfPlaced b
  | .pdrRefuse sender b => wfBay sender && wfRefuse b
  | .pdrClose sender => wfBay sender
  | .trailerCandidatesRequest _ who => wfRequester who
  | .laneCandidatesRequest _ pallet _ => wfPallet pallet
  | .dsuDoorReadOut r => wfPallet r.pallet
  | .dsuDoorReadInto r => wfPallet r.pallet
  | .trailerCandidatesAnswer pallet _ _ => wfPallet pallet
  | .laneCandidatesAnswer pallet _ _ => wfPallet pallet
  | .selfPutAnswer pallet _ _ => wfPallet pallet
  | .answerDeadlineExpiry pallet => wfPallet pallet
  | .guardDeadlineExpiry pallet => wfPallet pallet
  | .retryAfterExpiry pallet => wfPallet pallet
  | .dsuGrant sender b => wfBay sender && wfGrant b
  | .dsuRefuse sender b => wfBay sender && wfRefuse b
  | .dsuRelease sender b => wfBay sender && wfRelease b
  | .dsuPlaced sender b => wfBay sender && wfPlaced b
  | .placedNote pallet asker place => wfPallet pallet && wfBayField asker && wfPlace place
  | .dsuRestartAdvert sender => wfBay sender
  | .dsuClose sender b => wfBay sender && wfClose b
  | .selfPutRelease pallet _ => wfPallet pallet
  | .askSequenceRequest lane pallet target => wfLane lane && wfPallet pallet && wfBay target
  | .shownReport pallet _ => wfPallet pallet
  | .droppedReport pallet _ => wfPallet pallet
  | .lpuAsk sender b => wfBay sender && wfAsk b
  | .ownTrailerAsk a => wfPallet a.pallet
  | .reservationExpiry pallet => wfPallet pallet
  | .lpuRelease sender b => wfBay sender && wfRelease b
  | .ownDrainRelease pallet _ => wfPallet pallet
  | .lpuDoorReadInto r => wfPallet r.pallet
  | .lpuDoorReadOut r => wfPallet r.pallet
  | .ownTrailerSummary lane _ => wfLane lane
  | .mluAsk sender b => wfBay sender && wfAsk b
  | .selfPutRequest p _ _ => wfPallet p.pallet
  | .selfPutCancel pallet => wfPallet pallet
  | .putExpiry pallet => wfPallet pallet
  | .mluRelease sender b => wfBay sender && wfRelease b
  | .mluLaneRead r => wfLane r.lane && wfPallet r.pallet
  | .mluExitEvent lane => wfLane lane
  | .drainCandidatesAnswer lane _ _ _ => wfLane lane
  | .askSequenceReturn lane pallet target value => wfLane lane && wfPallet pallet && wfBay target && wfSeq value
  | .mluGrant sender b => wfBay sender && wfGrant b
  | .mluRefuse sender b => wfBay sender && wfRefuse b
  | .ownTrailerAnswer pallet a => wfPallet pallet && wfOwnAnswer a
  | .drainAnswerDeadlineExpiry lane => wfLane lane
  | .drainRetryAfterExpiry lane => wfLane lane
  | .drainGuardDeadlineExpiry lane => wfLane lane
  | .mluPlaced sender b => wfBay sender && wfPlaced b
  | .lampFaultReport lane => wfLane lane
  | .lampClearReport lane => wfLane lane
  | .indicationRequest r => wfIndicationRequest r
  | .powerOnReset | .configurationReadEnd _ | .resetLineAsserted | .resetLineReleased | .floorReset
  | .floorResetTaken | .beat | .advertTick | .advertDebtRise | .agingEvent | .drainTick
  | .doorLineChange _ _ | .joinDeadlineExpiry | .cutOffExpiry | .farCutExpiry | .levellerGraceExpiry
  | .closingGraceExpiry | .noReservationReport | .sensorRead | .declareEmpty | .attemptStart | .frameSent
  | .collision | .backoffEnd | .fragmentReceived | .frameArrival _ | .frameTaking | .doubtAll
  | .readDirectoryEntry _ _ | .removeRecord _ | .readAskTable | .beginPlan _ _ _ _
  | .closeRequestClosing | .closeRequestClosed | .departureRequest | .abortRequest | .readPlan
  | .clearHold | .readClosingRecord | .clearLane _ | .readLanes | .dwellExpiry | .showExpiry
  | .bayStateChange | .clearLamp _ _ | .sealRequest | .sealConfig | .writeField _ _ _ | .readField _ _
  | .readState | .readNotices | .noticeEnable _ | .noticeDisable _ | .clearNotice _ | .unknown
  | .noticeRaise _ | .serviceAnswerSent => true

end Sys2Proof
end

