-- ==== Sys2Proof/Safety.lean ====
section
/-! DEFINITION. What counts as a safe run, in the terms the statements use: when the bay acts on an event and
when the service line takes a request, which commands may change which block, and the invariants that every
step keeps. -/

namespace Sys2Proof.Machine

/-- A step is safe when it answers a next state. -/
def Safe (o : Host.Outcome State Fault Refusal) : Prop := ∃ t, o = .next t

/-- The service line takes a request: the reset line is released, the power-on read has ended, and no earlier
request is held (R175, R179). -/
def State.ready (s : State) : Bool := !s.resetLine && !s.reading && s.scu.answer.isNone

/-- The bay is in a working state: configured and past LISTEN. -/
def State.working (s : State) : Bool :=
  !s.resetLine && !s.reading && !s.inState .listen && !s.inState .unconfigured

/-- From one state to the next, the events of a list are handed on behind those that wait, and no other. -/
def HandsOn (s t : State) (l : List Instr) : Prop := t.handed = s.handed ++ l

/-- Likewise with one more event that falls at once, ahead of those that wait (R7). -/
def HandsOnAtOnce (s t : State) (now : Bool) (first : Instr) (l : List Instr) : Prop :=
  t.handed = if now then first :: (s.handed ++ l) else s.handed ++ l

/-! ## Which commands may change a block -/

/-- The commands in which a reset is taken. -/
def takesReset : Instr → Bool
  | .powerOnReset | .resetLineReleased | .floorResetTaken | .serviceAnswerSent => true
  | _ => false

/-- The requests of the service line (R175). -/
def isRequest : Instr → Bool
  | .sensorRead | .declareEmpty | .readDirectoryEntry _ _ | .removeRecord _ | .readAskTable | .readPlan
  | .clearHold | .readClosingRecord | .clearLane _ | .readLanes | .clearLamp _ _ | .floorReset | .sealConfig
  | .writeField _ _ _ | .readField _ _ | .readState | .readNotices | .noticeEnable _ | .noticeDisable _
  | .clearNotice _ | .unknown => true
  | _ => false

/-- The commands that may change the DCU. -/
def writesDcu (c : Instr) : Bool :=
  takesReset c ||
    match c with
    | .configurationReadEnd _ | .beat | .doorLineChange _ _ | .cardRead _ | .exitEvent _
    | .beamInterrupted _ | .joinDeadlineExpiry | .cutOffExpiry | .farCutExpiry | .levellerGraceExpiry
    | .closingGraceExpiry | .noReservationReport | .sensorRead | .declareEmpty | .sealConfig => true
    | _ => false

/-- The commands that may change the FBI: its own, and those of blocks that offer frames. -/
def writesFbi (c : Instr) : Bool :=
  takesReset c ||
    match c with
    | .advertDebtRise | .joinDeadlineExpiry | .attemptStart | .frameSent | .collision | .backoffEnd
    | .frameArrival _ | .frameTaking | .trailerCandidatesAnswer _ _ _ | .laneCandidatesAnswer _ _ _
    | .dsuDoorReadInto _ | .dsuGrant _ _ | .dsuPlaced _ _ | .placedNote _ _ _ | .removeRecord _
    | .lpuAsk _ _ | .ownTrailerAsk _ | .reservationExpiry _ | .lpuRelease _ _ | .ownDrainRelease _ _
    | .lpuDoorReadInto _ | .lpuDoorReadOut _ | .closeRequestClosed | .abortRequest | .mluAsk _ _
    | .putExpiry _ | .mluLaneRead _ | .askSequenceReturn _ _ _ _ | .mluGrant _ _ | .mluPlaced _ _ => true
    | _ => false

/-- The commands that may change the PDR (R39). -/
def writesPdr (c : Instr) : Bool :=
  takesReset c ||
    match c with
    | .agingEvent | .doubtAll | .doubtSender _ | .pdrAdvert _ _ _ | .pdrAsk _ _ | .askNote _
    | .pdrGrant _ _ | .pdrPlaced _ _ | .pdrRefuse _ _ | .pdrClose _ => true
    | _ => false

/-- The commands that may change the DSU: its own, and those in which frames leave the queue. -/
def writesDsu (c : Instr) : Bool :=
  takesReset c ||
    match c with
    | .frameSent | .collision | .frameTaking | .dsuDoorReadOut _ | .dsuDoorReadInto _
    | .trailerCandidatesAnswer _ _ _ | .laneCandidatesAnswer _ _ _ | .selfPutAnswer _ _ _
    | .answerDeadlineExpiry _ | .guardDeadlineExpiry _ | .retryAfterExpiry _ | .dsuGrant _ _
    | .dsuRefuse _ _ | .dsuRelease _ _ | .dsuPlaced _ _ | .placedNote _ _ _ | .dsuRestartAdvert _
    | .dsuClose _ _ | .selfPutRelease _ _ | .askSequenceRequest _ _ _ | .shownReport _ _
    | .droppedReport _ _ | .removeRecord _ => true
    | _ => false

/-- The commands that may change the LPU: its own, and those in which frames leave the queue or the DCU hands
it the binding or the phase. -/
def writesLpu (c : Instr) : Bool :=
  takesReset c ||
    match c with
    | .cardRead _ | .farCutExpiry | .frameSent | .collision | .frameTaking | .beginPlan _ _ _ _
    | .lpuAsk _ _ | .ownTrailerAsk _ | .reservationExpiry _ | .lpuRelease _ _ | .ownDrainRelease _ _
    | .lpuDoorReadInto _ | .lpuDoorReadOut _ | .closeRequestClosed | .departureRequest | .abortRequest
    | .clearHold => true
    | _ => false

/-- The commands that may change the MLU: its own, those that answer a drain search, those in which frames
leave the queue, and those that bring a lane count into force. -/
def writesMlu (c : Instr) : Bool :=
  takesReset c ||
    match c with
    | .configurationReadEnd _ | .sealConfig | .writeField _ _ _ | .drainTick | .frameSent | .collision
    | .frameTaking | .trailerCandidatesRequest _ _ | .ownTrailerSummary _ _ | .mluAsk _ _
    | .selfPutRequest _ _ _ | .selfPutCancel _ | .putExpiry _ | .mluRelease _ _ | .mluLaneRead _
    | .mluExitEvent _ | .drainCandidatesAnswer _ _ _ _ | .askSequenceReturn _ _ _ _ | .mluGrant _ _
    | .mluRefuse _ _ | .ownTrailerAnswer _ _ | .drainAnswerDeadlineExpiry _ | .drainRetryAfterExpiry _
    | .drainGuardDeadlineExpiry _ | .mluPlaced _ _ | .lampFaultReport _ | .lampClearReport _
    | .clearLane _ => true
    | _ => false

/-- The commands that may change the GDU. -/
def writesGdu (c : Instr) : Bool :=
  takesReset c ||
    match c with
    | .resetLineAsserted | .indicationRequest _ | .dwellExpiry | .showExpiry | .bayStateChange
    | .lampSensing _ _ | .clearLamp _ _ | .patternHalfEnd _ => true
    | _ => false

/-- The commands that may change the SCU: a request holds its answer there. -/
def writesScu (c : Instr) : Bool :=
  takesReset c || isRequest c ||
    match c with
    | .configurationReadEnd _ | .resetLineAsserted | .sealRequest | .noticeRaise _ => true
    | _ => false

/-! ## The service line and the resets -/

/-- The name by which the answer to a request repeats it (section 11.2). -/
def requestName : Instr → Option RequestName
  | .sensorRead => some .sensorRead
  | .declareEmpty => some .declareEmpty
  | .readDirectoryEntry _ _ => some .readDirectoryEntry
  | .removeRecord _ => some .removeRecord
  | .readAskTable => some .readAskTable
  | .readPlan => some .readPlan
  | .clearHold => some .clearHold
  | .readClosingRecord => some .readClosingRecord
  | .clearLane _ => some .clearLane
  | .readLanes => some .readLanes
  | .clearLamp _ _ => some .clearLamp
  | .floorReset => some .floorReset
  | .sealConfig => some .sealConfig
  | .writeField _ _ _ => some .writeField
  | .readField _ _ => some .readField
  | .readState => some .readState
  | .readNotices => some .readNotices
  | .noticeEnable _ => some .noticeEnable
  | .noticeDisable _ => some .noticeDisable
  | .clearNotice _ => some .clearNotice
  | .unknown => some .unknown
  | _ => none

/-- The answer being sent is that of a FLOOR RESET (R179). -/
def answersFloorReset (s : State) : Bool :=
  match s.scu.answer with
  | some a => decide (a.request = .floorReset)
  | none => false

/-- A command at which a floor reset is taken in a state (R179). -/
def takesFloorReset (c : Instr) (s : State) : Bool :=
  match c with
  | .resetLineReleased => s.resetLine
  | .floorResetTaken => !s.resetLine
  | .serviceAnswerSent => !s.resetLine && answersFloorReset s
  | _ => false

/-- A command at which either reset is taken. -/
def takesAnyReset (c : Instr) (s : State) : Bool := decide (c = .powerOnReset) || takesFloorReset c s

/-- What a field of a good image is taken as (R173, R101). -/
def takenValue (f : FieldName) (v : Int) : Int :=
  let w := clampInt (fieldRange f).1 (fieldRange f).2 v
  if f = .classP then evenPitch w else w

/-- A line change that the DCU takes (R1). -/
def takesLine (s : State) (line : Line) (value : Bool) : Bool :=
  !s.resetLine && !s.reading && decide ((lineOf s.dcu line).lastTaken = !value)

/-! ## Invariants -/

/-- The seal stays clear until the power-on read has ended (R177, R172). -/
def SealWaits (s : State) : Prop := s.reading = true → s.scu.sealed = false

/-- Every valid entry stands in the set of its destination, and no key stands twice (R39). -/
structure PdrFits (p : Pdr) : Prop where
  inSets : ∀ i e, entryAt p i = some e → i / 4 = setOf e.dest
  once : ∀ i j e f, entryAt p i = some e → entryAt p j = some f → entryKey e = entryKey f → i = j

/-- The way an insertion with a key takes (R40): the way of an entry with that key; else the lowest invalid way
of the set; else, among the ways this ADVERT has not written, that of the highest age, the lowest of equals. -/
def InsertionWay (p : Pdr) (kept : List Nat) (k : EntryKey) (i : Nat) : Prop :=
  i / 4 = setOf k.dest ∧
    ((∃ e, entryAt p i = some e ∧ entryKey e = k) ∨
      (∀ j e, j / 4 = setOf k.dest → entryAt p j = some e → entryKey e ≠ k) ∧
        (entryAt p i = none ∧ (∀ j, j < i → j / 4 = setOf k.dest → entryAt p j ≠ none) ∨
          (∀ j, j / 4 = setOf k.dest → entryAt p j ≠ none) ∧ i ∉ kept ∧
            ∀ j x y, j / 4 = setOf k.dest → j ∉ kept → entryAt p i = some x → entryAt p j = some y →
              y.age < x.age ∨ y.age = x.age ∧ i ≤ j))

/-- A record within its bounds (section 4.1, R58): at most 4 distinct bays excluded, at most 5 asks for a trailer and 8 in
all, an owed ASK only while ASKED. One in a search is SEEKING and has an ask left, and in the trailer stage one for a
trailer (R64). -/
structure RecordFits (r : PalletRecord) : Prop where
  excluded : r.excluded.Nodup ∧ r.excluded.length ≤ 4
  asks : r.trailerAsks ≤ 5 ∧ r.totalAsks ≤ 8
  owing : r.owedAsk.isSome = true → r.state = .asked
  searching : ∀ q, r.search = some q →
    r.state = .seeking ∧ r.totalAsks < 8 ∧ (q.step = .trailerStage → r.trailerAsks < 5)

/-- No two records of the ask table have one pallet ID, each is within its bounds, and the sequence counter is one of 256
values (R58, R59). -/
structure AskTableFits (d : Dsu) : Prop where
  once : ∀ (i j : Nat) (r q : PalletRecord), d.slots[i]? = some (.record r) → d.slots[j]? = some (.record q) →
    r.pallet = q.pallet → i = j
  records : ∀ r : PalletRecord, .record r ∈ d.slots.toList → RecordFits r
  sequence : d.seq ≤ 255

/-- The bounds of the FBI's queues and counters (R20, R21, R28, R32, R35). -/
structure FbiBounds (f : Fbi) : Prop where
  queue : f.tx.length ≤ 12
  oneAdvert : f.tx.count .advert ≤ 1
  owedApart : f.owedAdvert = true → f.tx.count .advert = 0
  received : f.rx.length ≤ 16
  debt : f.debt ≤ 4
  sequence : f.seq ≤ 255
  collisions : f.collisions ≤ 15

/-- The frames that a block owes (R79, R130, R147). -/
def owedFrames (s : State) : Owner → List OwnedFrame
  | .lpu => s.lpu.owed ++ s.lpu.owedClose.toList
  | .mlu => s.mlu.owed ++ s.mlu.lanes.filterMap laneOwedAsk
  | .dsu => s.dsu.slots.toList.flatMap slotOwed

/-- What MUTE leaves standing in the FBI (R31). -/
def MutedQuiet (f : Fbi) : Prop :=
  f.mute = true → f.transmitter = .idle ∧ f.tx = [] ∧ f.debt = 0 ∧ f.owedAdvert = false

/-- The notice line stands as R180 and R179 say. -/
def NoticeLineFits (s : State) : Prop :=
  s.scu.noticeLine =
    (!s.resetLine && !s.reading && lineAsserted s.scu.pending s.scu.enabled)

/-- A lane within its capacity; a lane not ASSIGNED is empty (R132, R133). -/
def LaneFits (l : Lane) : Prop :=
  l.items.length + l.puts.length ≤ 8 ∧ (l.assignment ≠ .assigned → l.items = [] ∧ l.puts = [])

/-- Every lane within its capacity, and one record for each lane number (section 8.1, R132). -/
def LanesFit (l : List Lane) : Prop := (l.map Lane.number).Nodup ∧ ∀ x ∈ l, LaneFits x

/-- The lane records stand in the order of their numbers, so that the first that meets a test is the lowest-numbered
(section 8.1). -/
def LanesInOrder (l : List Lane) : Prop := (l.map Lane.number).Pairwise (· < ·)

/-- No lane is present while the lane count in force is 0: in UNCONFIGURED (R174), and until the power-on read ends
(notes/assumptions/13.md). -/
def LanesAwait (s : State) : Prop := s.reading = true ∨ s.inState .unconfigured = true → s.mlu.lanes = []

/-- A number is that of the lowest-numbered lane that meets a test; none, where no lane meets it (R134, R135). -/
def LowestLane (l : List Lane) (p : Lane → Bool) (k : Option Nat) : Prop :=
  (∀ n, k = some n → (∃ x ∈ l, x.number = n ∧ p x = true) ∧ ∀ x ∈ l, p x = true → n ≤ x.number) ∧
  (k = none → ∀ x ∈ l, p x = false)

/-- The weight a tier counts for in the payload sum (R103): measured once landed, its grant before. -/
def tierWeight : Tier → Nat
  | .landed l => l.measured
  | .reserved r => r.grant

/-- A stack of at most three tiers with no reservation beneath its top (R84). -/
def StackFits (st : List Tier) : Prop := st.length ≤ 3 ∧ ∀ t ∈ st.dropLast, isReserved t = false

/-- The weights of every tier of a plan. -/
def contentsWeight (p : Plan) : Nat := (p.floorStacks.toList.map fun st => (st.map tierWeight).sum).sum

/-- The plan's stacks are in form, its payload sum is the weight of what it holds, its face row is that of its
landed pallets, and every reservation stands in the open band (R84, R86, R87, R103, R104). -/
structure PlanFits (p : Plan) : Prop where
  stacked : ∀ st ∈ p.floorStacks.toList, StackFits st
  payload : p.payload = (contentsWeight p : Int)
  face : p.face = faceOf p
  band : ∀ row sd r, 1 ≤ row → row ≤ 13 → .reserved r ∈ stackAt p row sd → row ∈ openBand p.face

/-- A lane but for what the end of every MLU event may give it: a drain, or blocked (R139). -/
def laneCore (l : Lane) : Lane := { l with blocked := false, drain := none }

/-- The high flag of a lane after a change, by its fill and the two marks (R133): clear, it is set at or above the high
mark; set, it is cleared at or below the low mark in use; else it keeps its value. -/
def judgedHigh (c : ConfigRecord) (l : Lane) : Bool :=
  if l.high then decide (lowMarkInUse c < laneFill l) else decide (c.highMark ≤ laneFill l)

/-- An ASSIGNED lane with no item, no pending put and no drain record (R133). -/
def LaneEmptied (l : Lane) : Prop :=
  l.assignment = .assigned ∧ l.items = [] ∧ l.puts = [] ∧ l.drain = none

/-- The judgement of R133, from a lane as an event's changes leave it to the lane after the event: LANE_HIGH is raised
when high goes from clear to set; an emptied lane becomes FREE without destination, high and blocked clear; any other
takes its high flag, and keeps all but the drain or the blocked mark that the end of the event may give it (R139). -/
structure LaneJudged (s t : State) (l m : Lane) : Prop where
  raised : l.high = false → s.scu.config.highMark ≤ laneFill l → .noticeRaise .laneHigh ∈ t.handed
  freed : LaneEmptied l → m = { l with assignment := .free, dest := none, high := false, blocked := false }
  kept : ¬ LaneEmptied l → laneCore m = laneCore { l with high := judgedHigh s.scu.config l }

/-- The drain record of a lane whose head has left it (R143, R139): GRANTED it goes IN TRANSIT, IN TRANSIT it stands,
SEEKING or ASKED it is cleared. -/
def drainAfterExit : Option Drain → Option Drain
  | none => none
  | some d =>
    match d.state with
    | .granted => some { d with state := .inTransit }
    | .inTransit => some d
    | .seeking => none
    | .asked => none

/-- What an indication gives the head: signal colour and pattern, display, side and tier lamps, and the lane lamp with
its pattern (section 9.2). -/
structure Shows (i : Indication) (c : Option Colour) (p : Pattern) (d : Display) (sd : Option Side)
    (n : Option Nat) (lamp : Option (Nat × Pattern)) : Prop where
  colour : i.colour = c
  pattern : i.pattern = p
  display : i.display = d
  side : i.side = sd
  tier : i.tier = n
  lane : i.lane = lamp.map Prod.fst
  lanePattern : ∀ x, lamp = some x → i.lanePattern = x.2

/-- Every lane but one is left as it was, save for the judgement that ends an MLU event (R139). -/
def OtherLanesKept (s t : State) (k : Nat) : Prop :=
  ∀ j, j ≠ k → (t.lane? j).map laneCore = (s.lane? j).map laneCore

/-- OVER raised when its mark goes from clear to set (R93). -/
def overRaised (before after : Plan) : List Instr :=
  if after.overLimit && !before.overLimit then [.noticeRaise .overLimit] else []

/-- The report a plan without reservations makes in CLOSING (R125). -/
def closingReport (s : State) (p : Plan) : List Instr :=
  if s.inState .closing && (allReservations p).isEmpty then [.noReservationReport] else []

/-- SCALE_FAULT raised by a scale status of ZERO or OVER (R121, R123). -/
def scaleRaised (sc : Scale) : List Instr := if scaleFaulty sc then [.noticeRaise .scaleFault] else []

/-- The free places of the transmit queue that an offer finds (R32, R33). -/
def roomFor (s : State) : Nat := if s.offerResult = .placed then 12 - s.fbi.tx.length else 0

/-- The RELEASE frames by which reservations are given up to peers, in order, numbered from a building on (R87,
R166). -/
def releaseFrames (reason : ReleaseReason) : Nat → List Reservation → List OwnedFrame
  | _, [] => []
  | n, r :: rest =>
    if r.asker = 0 then releaseFrames reason n rest
    else
      { owner := .lpu, built := n, target := r.asker,
        body := .release { pallet := r.pallet, asker := r.asker, seq := r.seq.getD 0, reason := reason } } ::
        releaseFrames reason (n + 1) rest

/-- The hand-overs by which reservations are given up within the bay, in order (R87, R166). -/
def releaseAnswers (reason : ReleaseReason) (l : List Reservation) : List Instr :=
  (l.filter fun r => decide (r.asker = 0)).map fun r => .ownTrailerAnswer r.pallet (.released reason)

/-- Frames of a block offered in order, with its owed list before and after: placed while there is room, then
owed up to 8 in all, and dropped when muted (R125, R130, R147, R31). -/
def FramesOffered (s t : State) (owed owed' l : List OwnedFrame) : Prop :=
  (s.fbi.mute = true → t.fbi = s.fbi ∧ owed' = owed) ∧
  (s.fbi.mute = false → t.fbi.tx = s.fbi.tx ++ (l.take (roomFor s)).map .owned ∧
    owed' = owed ++ (l.drop (roomFor s)).take (8 - owed.length))

/-- A PLACED or RELEASE of the MLU refused: owed at the tail of its list, dropped where that holds 8, and dropped
when muted (R147, R31). -/
def MluFrameRefused (s t : State) (f : OwnedFrame) : Prop :=
  (s.offerResult = .noRoom → t.fbi = s.fbi ∧
    t.mlu.owed = if s.mlu.owed.length < 8 then s.mlu.owed ++ [f] else s.mlu.owed) ∧
  (s.offerResult = .muted → t.fbi = s.fbi ∧ t.mlu.owed = s.mlu.owed)

/-- The newest put of a lane that a further item overfills (R138). -/
def strandedPut (l : Lane) : Option Put := if laneFill l = 8 then l.puts.getLast? else none

/-- The RELEASE frame by which a put of a peer is stranded, numbered as built; a self-put has none (R138). -/
def strandFrames (n : Nat) (l : Lane) : List OwnedFrame :=
  (strandedPut l).toList.flatMap fun x => x.seq.toList.map fun q =>
    { owner := .mlu, built := n, target := x.asker,
      body := .release { pallet := x.pallet, asker := x.asker, seq := q, reason := .stranded } }

/-- No lane but one has a drain record for a pallet. -/
def NoOtherDrain (s : State) (k pallet : Nat) : Prop :=
  ∀ j o e, j ≠ k → s.lane? j = some o → o.drain = some e → e.pallet ≠ pallet

/-- Every lane but one that has no drain record for a pallet is left as it was, save for the judgement that ends an
MLU event (R139, R144). -/
def UnrelatedLanesKept (s t : State) (k pallet : Nat) : Prop :=
  ∀ j, j ≠ k → (∀ o e, s.lane? j = some o → o.drain = some e → e.pallet ≠ pallet) →
    (t.lane? j).map laneCore = (s.lane? j).map laneCore

/-- A lane is the only one whose drain is ASKED for a pallet; each pallet stands in one lane (R137). -/
def OnlyAsked (s : State) (l : Lane) (pallet : Nat) : Prop :=
  ∀ x ∈ s.mlu.lanes, ∀ e, x.drain = some e → e.pallet = pallet → e.state = .asked → x = l

/-- A CLOSE offered behind the RELEASE frames of its event: it is placed behind them where all find room, else it
takes the CLOSE place; muted, all are dropped (R168, R130, R31). -/
def ClosesBehind (s t : State) (l : List OwnedFrame) (c : CloseBody) : Prop :=
  (s.fbi.mute = true → t.fbi = s.fbi ∧ t.lpu.owed = s.lpu.owed ∧ t.lpu.owedClose = s.lpu.owedClose) ∧
  (s.fbi.mute = false → l.length < roomFor s → t.fbi.tx = s.fbi.tx ++ (l ++ [
      ({ owner := .lpu, built := s.serial + l.length, target := 0, body := .close c } : OwnedFrame)]).map .owned ∧
    t.lpu.owed = s.lpu.owed ∧ t.lpu.owedClose = s.lpu.owedClose) ∧
  (s.fbi.mute = false → roomFor s ≤ l.length →
    t.fbi.tx = s.fbi.tx ++ (l.take (roomFor s)).map .owned ∧
    t.lpu.owed = s.lpu.owed ++ (l.drop (roomFor s)).take (8 - s.lpu.owed.length) ∧
    (s.lpu.owedClose = none → t.lpu.owedClose = some
      { owner := .lpu, built := s.serial + l.length, target := 0, body := .close c }))

/-- The reservations of a plan, in row order, LEFT before RIGHT. -/
def reservationList (p : Plan) : List Reservation := (allReservations p).map fun y => y.2.2

/-- The payload sum of a plan after all its reservations have left it (R104). -/
def releasedPayload (p : Plan) : Int := p.payload - (((reservationList p).map Reservation.grant).sum : Nat)

/-- The moment sum of a plan after all its reservations have left it (R104). -/
def releasedMoment (c : TrailerClass) (p : Plan) : Int :=
  p.moment - ((allReservations p).map fun y => (y.2.2.grant : Int) * rowDistance c y.1).sum

/-- The closing record of a plan whose reservations have left it: R167 (and R171, with the ABORTED mark). -/
structure ClosingRecordFits (s : State) (x : ClosingRecord) : Prop where
  trailer : ∀ b, s.lpu.binding = some b → x.body.trailerId = b.trailerId
  cls : x.body.cls = s.plan.cls
  near : x.body.near = s.plan.near
  far : x.body.far = s.plan.far.getD 0
  landedNear : x.body.landedNear = landedCount s.plan .near
  landedFar : x.body.landedFar = landedCount s.plan .far
  payload : x.body.payload = releasedPayload s.plan
  gross : x.body.gross =
    (loadsOf s.planClass (releasedPayload s.plan) (releasedMoment s.planClass s.plan)).gross
  kingpin : x.body.kingpin =
    (loadsOf s.planClass (releasedPayload s.plan) (releasedMoment s.planClass s.plan)).kingpin
  bogie : x.body.bogie =
    (loadsOf s.planClass (releasedPayload s.plan) (releasedMoment s.planClass s.plan)).bogie
  overKept : allReservations s.plan = [] → x.body.overLimit = s.plan.overLimit
  overJudged : allReservations s.plan ≠ [] → x.body.overLimit =
    overLoaded s.planClass (releasedPayload s.plan) (releasedMoment s.planClass s.plan)
  lightNose : x.body.lightNose = true ↔ x.body.kingpin < s.planClass.kmin
  mismatch : x.mismatch = s.plan.mismatch
  formedAt : x.formedAt = s.dcu.beat

/-- A plan without the reservation at the top of a position, before the steps of R87. -/
def planWithoutTop (s : State) (row : Nat) (sd : Side) (grant : Nat) : Plan :=
  addWeight s.planClass (popTier s.plan row sd) row (-(grant : Int))

/-- The moment of the reservations that step 2 of R87 strands: grant weight times row distance, outside the band of the
face row that the landed pallets give (R87, R104). -/
def strandedMoment (c : TrailerClass) (p : Plan) : Int :=
  (((allReservations p).filter fun y => decide (y.1 ∉ openBand (faceOf p))).map fun y =>
    (y.2.2.grant : Int) * rowDistance c y.1).sum

/-- A fresh drain search of a token (R140). -/
def freshSearch (token : Nat) : DrainSearch := { token := token, found := none, own := none }

/-- A drain search of a lane is asked of the PDR and the LPU under a token (R140). -/
def SearchAsked (t : State) (k dest token : Nat) : Prop :=
  .trailerCandidatesRequest dest (.drain k token) ∈ t.handed ∧ .ownTrailerSummary k token ∈ t.handed

/-- The drain a lane has after one was cleared: none, or a new one for its head (R139, R144). -/
def DrainCleared (m : Lane) : Prop :=
  ∀ d, m.drain = some d → d.state = .seeking ∧ d.excluded = [] ∧ d.target = none ∧ d.retryAt = none ∧
    m.items.head?.map Item.pallet = some d.pallet

/-- Every lane is as it was, save for the judgement that ends an MLU event (R139). -/
def LanesKept (s t : State) : Prop := ∀ j, (t.lane? j).map laneCore = (s.lane? j).map laneCore

/-- How many slots hold a record that meets a test. -/
def recordsWhere (s : State) (p : PalletRecord → Bool) : Nat :=
  s.dsu.slots.toList.countP fun v =>
    match v with
    | .record q => p q
    | .free => false
    | .lone _ => false

/-- The slot of a record that is freed: free, or the record's owed RELEASE alone (R58). -/
def slotFreed (r : PalletRecord) : Slot :=
  match r.owedRelease with
  | some o => .lone o
  | none => .free

/-- From one state to the next a RELEASE is owed by the DSU and nothing else changes: on the record of its pallet
where that owes none, in the lowest-numbered free slot where the pallet has no record; else it is dropped (R79). -/
def DsuReleaseKept (u t : State) (o : OwedRelease) : Prop :=
  (∀ i q, u.findRecord o.body.pallet = some i → u.slotAt i = .record q →
    t = if q.owedRelease = none then u.setSlot i (.record { q with owedRelease := some o }) else u) ∧
  (u.findRecord o.body.pallet = none →
    (∀ i, u.freeSlot = some i → t = u.setSlot i (.lone o)) ∧ (u.freeSlot = none → t = u))

/-- A RELEASE of the DSU that the queue refuses as a state finds it, built upon another: owed when there is no
room, dropped when muted (R79, R31). -/
def DsuReleaseRefused (s u t : State) (target : Nat) (b : ReleaseBody) : Prop :=
  (s.offerResult = .noRoom →
    DsuReleaseKept u.bump t { built := s.serial, target := target, body := b }) ∧
  (s.offerResult = .muted → t = u)

end Sys2Proof.Machine
end

