-- ==== Sys2Proof/Certificates/Slice0/Obligations.lean ====
section
/-! DEFINITION. The statements for the provers, each listed in OBLIGATIONS.json under its name. -/

open Sys2Proof Sys2Proof.Machine

/-- O1. A step carries out the command at the front of the queue (section 0.5, section 95). -/
def Obligations.StepTakesFrontCommand : Prop :=
  ∀ (c : Instr) (rest : List Instr) (s : State),
    step { s with pending := c :: rest } = exec c { s with pending := rest }

/-- O2. The order of a step with no command waiting is the model's choice: notes/assumptions/2.md and 15.md
(section 0.5, R155). -/
def Obligations.StepWithEmptyQueue : Prop :=
  (∀ (c : Instr) (k : NoticeKind) (l : List Instr) (s : State),
      s.hand c = { s with handed := s.handed ++ [c] } ∧ s.handAll l = { s with handed := s.handed ++ l } ∧
      s.drop c = { s with handed := s.handed.erase c } ∧ s.raiseNotice k = s.hand (.noticeRaise k) ∧
      s.bump = { s with serial := s.serial + 1 }) ∧
  (∀ (c : Instr) (rest : List Instr) (s : State), s.pending = [] → s.handed = c :: rest →
    step s = exec c s) ∧
  ∀ s : State, s.pending = [] → s.handed = [] →
    step s = .next (if s.resetLine then s else
      { s with gdu := { s.gdu with channels := s.gdu.channels.map rampChannel } })

/-- O3. Every command and every step answers a next state (section 95). -/
def Obligations.NoCommandStops : Prop :=
  (∀ (c : Instr) (s : State), Safe (exec c s)) ∧ ∀ s : State, Safe (step s)

/-- O4. No command touches the queue of waiting commands (section 0.5). -/
def Obligations.CommandsLeaveQueue : Prop :=
  ∀ (c : Instr) (s t : State), exec c s = .next t → t.pending = s.pending

/-- O5. Only the commands named change the DCU, the FBI, the GDU and the SCU (section 0.5, R19, R38, R159,
R182). -/
def Obligations.OuterBlockFrames : Prop :=
  ∀ (c : Instr) (s t : State), exec c s = .next t →
    (writesDcu c = false → t.dcu = s.dcu) ∧ (writesFbi c = false → t.fbi = s.fbi) ∧
    (writesGdu c = false → t.gdu = s.gdu) ∧ (writesScu c = false → t.scu = s.scu)

/-- O6. Only the commands named change the PDR, the DSU, the LPU and the MLU (R39, R58, R82, R132). -/
def Obligations.InnerBlockFrames : Prop :=
  ∀ (c : Instr) (s t : State), exec c s = .next t →
    (writesPdr c = false → t.pdr = s.pdr) ∧ (writesDsu c = false → t.dsu = s.dsu) ∧
    (writesLpu c = false → t.lpu = s.lpu) ∧ (writesMlu c = false → t.mlu = s.mlu)

/-- O7. Every step keeps the bounds of the floor bus queues and counters (R32, R28, R35, R20, R21). -/
def Obligations.FbiBoundsKept : Prop :=
  ∀ s t : State, FbiBounds s.fbi → step s = .next t → FbiBounds t.fbi

/-- O8. While MUTE is set the transmitter stays idle, the queue empty and the debt 0 (R31). -/
def Obligations.MutedBayStaysQuiet : Prop :=
  ∀ s t : State, MutedQuiet s.fbi → step s = .next t → MutedQuiet t.fbi

/-- O9. After every step the notice line stands as its flags and enables say (R180, R179). -/
def Obligations.NoticeLineKept : Prop :=
  ∀ s t : State, NoticeLineFits s → step s = .next t → NoticeLineFits t

/-- O10. After every step each lane holds at most 8, only an ASSIGNED lane holds anything, and the lanes stand
in order, none in UNCONFIGURED; that none is present during the power-on read is the model's choice:
notes/assumptions/13.md (R132, R133, R174). -/
def Obligations.LanesKeepCapacity : Prop :=
  (∀ s t : State, LanesFit s.mlu.lanes → step s = .next t → LanesFit t.mlu.lanes) ∧
  (∀ s t : State, LanesInOrder s.mlu.lanes → step s = .next t → LanesInOrder t.mlu.lanes) ∧
  ∀ s t : State, LanesAwait s → step s = .next t → LanesAwait t

/-- O11. After every step the stacks, the payload sum, the face row and the open band are in form (R84, R86,
R87, R103, R104). -/
def Obligations.PlanKeepsItsForm : Prop :=
  ∀ s t : State, PlanFits s.plan → step s = .next t → PlanFits t.plan

/-- O12. After every step each entry stands in the set of its destination and no key stands twice (R39, R40). -/
def Obligations.DirectoryKeepsItsForm : Prop :=
  ∀ s t : State, PdrFits s.pdr → step s = .next t → PdrFits t.pdr

/-- O13. The state after power-on meets every invariant; that no lane is present then is the model's choice:
notes/assumptions/13.md (R38, R41, R59, R100, R148, R182). -/
def Obligations.ResetMeetsInvariants : Prop :=
  FbiBounds State.reset.fbi ∧ MutedQuiet State.reset.fbi ∧ NoticeLineFits State.reset ∧
    LanesFit State.reset.mlu.lanes ∧ LanesInOrder State.reset.mlu.lanes ∧ PlanFits State.reset.plan ∧
    PdrFits State.reset.pdr ∧ SealWaits State.reset ∧ LanesAwait State.reset ∧ AskTableFits State.reset.dsu

/-- O14. SEAL is judged by its table, and once sealed the record and the seal stand until power-on; a seal
request during the read or over a floor reset is the model's reading, and that power-on reset discards
every waiting hand-over, and no-put of a lane newly present begins clear, its choices:
notes/assumptions/18.md, 35.md, 32.md and 45.md (R177, R8, R9, R179, R174, R146). -/
def Obligations.SealClosesConfiguration : Prop :=
  (∀ s : State, s.ready = true → s.scu.sealed = true →
    exec .sealConfig s = .next (s.answer .sealConfig .sealed .nothing)) ∧
  (∀ s : State, s.ready = true → s.scu.sealed = false → s.scu.config.bay = 0 →
    exec .sealConfig s = .next (s.answer .sealConfig .state .nothing)) ∧
  (∀ s : State, s.ready = true → s.scu.sealed = false → 1 ≤ s.scu.config.bay →
    ∃ t, exec .sealConfig s = .next t ∧ t.scu.sealed = true ∧ t.scu.config = s.scu.config ∧
      t.scu.answer = some { request := .sealConfig, code := .ok, data := .nothing } ∧
      t.dcu.bayState = (if s.inState .unconfigured then some .listen else s.dcu.bayState) ∧
      (s.inState .unconfigured = true →
        t.dcu.join = some (s.dcu.beat + 2 * s.scu.config.advertPeriod) ∧
        t.mlu.lanes = lanesFor s.mlu.lanes s.scu.config.laneCount ∧
        (s.mlu.lanes = [] → t.mlu.lanes =
          (laneNumbers.filter fun k => decide (k ≤ s.scu.config.laneCount)).map suspectLane)) ∧
      (s.inState .unconfigured = false → t.mlu = s.mlu)) ∧
  (∀ s : State, s.resetLine = false → s.reading = false →
    exec .sealRequest s =
      .next { s with handed := s.handed.erase .sealRequest, scu := { s.scu with sealed := true } }) ∧
  (∀ (c : Instr) (s t : State), SealWaits s → exec c s = .next t → SealWaits t) ∧
  (∀ (c : Instr) (s t : State), SealWaits s → s.scu.sealed = true → c ≠ .powerOnReset →
    exec c s = .next t → t.scu.config = s.scu.config ∧ t.scu.sealed = true) ∧
  (∀ s : State, ∃ t, exec .powerOnReset s = .next t ∧ t.scu.sealed = false ∧ t.handed = []) ∧
  (∀ s : State, s.resetLine = true → exec .sealRequest s = .next s) ∧
  (∀ (c : Instr) (s t : State), takesFloorReset c s = true → .sealRequest ∈ s.handed →
    exec c s = .next t → .sealRequest ∈ t.handed ∧ t.resetLine = false)

/-- O15. While the reset line is asserted no event has an effect (R179, R1). -/
def Obligations.ResetLineHoldsBay : Prop :=
  (∀ s : State, ∃ t, exec .resetLineAsserted s = .next t ∧ t.resetLine = true ∧
    t.scu = { s.scu with noticeLine := false } ∧ (∀ x ∈ t.gdu.channels.toList, x.drive = 0) ∧
    t.dcu = s.dcu ∧ t.fbi = s.fbi ∧ t.pdr = s.pdr ∧ t.dsu = s.dsu ∧ t.lpu = s.lpu ∧ t.mlu = s.mlu ∧
    t.handed = s.handed) ∧
  (∀ (c : Instr) (s t : State), s.resetLine = true → c ≠ .powerOnReset → c ≠ .resetLineAsserted →
    c ≠ .resetLineReleased → (∀ image, c ≠ .configurationReadEnd image) → exec c s = .next t →
    t.resetLine = true ∧ t.fbi = s.fbi ∧ t.pdr = s.pdr ∧ t.dsu = s.dsu ∧ t.lpu = s.lpu ∧
    t.mlu = s.mlu ∧ t.gdu = s.gdu ∧ t.scu = s.scu ∧ (∀ e ∈ t.handed, e ∈ s.handed) ∧
    { t.dcu with trailerPresent := s.dcu.trailerPresent, levellerDown := s.dcu.levellerDown,
                 doorOpen := s.dcu.doorOpen, closePush := s.dcu.closePush, beams := s.dcu.beams } = s.dcu ∧
    (∀ line, (lineOf t.dcu line).lastTaken = (lineOf s.dcu line).lastTaken ∧
      (lineOf t.dcu line).changed = (lineOf s.dcu line).changed) ∧
    t.dcu.beams.map Beam.lastTaken = s.dcu.beams.map Beam.lastTaken) ∧
  (∀ (c : Instr) (s : State), isRequest c = true → s.resetLine = true → exec c s = .next s)

/-- O16. Every frame that passes the checks is read back from the bytes it is sent as (R27, R24, R23). -/
def Obligations.FramesReadBack : Prop :=
  (crc16 [] = 0xFFFF#16 ∧
      (∀ (l : List Byte) (b : Byte), crc16 (l ++ [b]) = Nat.iterate crcBit 8 (crc16 l ^^^ (b.setWidth 16 <<< 8))) ∧
      (∀ r : BitVec 16, crcBit r = if r.msb then (r <<< 1) ^^^ 0x1021#16 else r <<< 1) ∧
      ∀ l : List Byte, crcBytes l = bytes2 (crc16 l).toNat) ∧
  (∀ (n : Nat) (v : Int), byteOf n = BitVec.ofNat 8 n ∧ bytes2 n = [byteOf (n / 256), byteOf n] ∧
      bytes4 n = [byteOf (n / 16777216), byteOf (n / 65536), byteOf (n / 256), byteOf n] ∧
      bytes5 n = byteOf (n / 4294967296) :: bytes4 n ∧ signedBytes4 v = bytes4 (BitVec.ofInt 32 v).toNat) ∧
  (∀ f : Frame, ∃ kind body : List Byte, frameBytes f =
        kind ++ [byteOf f.sender, byteOf f.seq, if f.restart then 1 else 0, byteOf body.length] ++ body ++
          crcBytes (kind ++ [byteOf f.sender, byteOf f.seq, if f.restart then 1 else 0, byteOf body.length] ++
            body) ∧
      (∀ a, f.body = .advert a → kind = [1] ∧ body =
        [byteOf (stateCode a.state), byteOf (phaseCode a.phase)] ++ bytes2 a.accepting ++ bytes2 a.cutOff ++
          bytes2 a.margin ++ [byteOf a.openings.full, byteOf a.openings.half, byteOf a.openings.quarter,
            byteOf a.openings.mini, byteOf a.lanes.length] ++ (a.lanes.map fun l =>
              [byteOf l.number, byteOf (assignmentCode l.assignment), byteOf (yesCode l.high)] ++
                bytes2 l.dest ++ [byteOf l.fill]).flatten) ∧
      (∀ a, f.body = .ask a → kind = [2] ∧ body =
        [byteOf a.seq, byteOf a.target, byteOf (placeKindCode a.kind)] ++ bytes5 a.pallet ++ bytes2 a.dest ++
          bytes2 a.weight ++ [byteOf (heightCode a.height), byteOf (yesCode a.stackable)]) ∧
      (∀ g, f.body = .grant g → kind = [3] ∧ body = [byteOf g.asker, byteOf g.seq] ++ bytes5 g.pallet ++
        placeBytes g.place ++ bytes2 g.hold ++ bytes2 g.margin) ∧
      (∀ x, f.body = .refuse x → kind = [4] ∧ body =
        [byteOf x.asker, byteOf x.seq] ++ bytes5 x.pallet ++ [byteOf (refuseCode x.reason)]) ∧
      (∀ x, f.body = .placed x → kind = [5] ∧ body =
        bytes5 x.pallet ++ [byteOf x.asker] ++ placeBytes x.place ++ bytes2 x.margin) ∧
      (∀ x, f.body = .release x → kind = [6] ∧ body =
        bytes5 x.pallet ++ [byteOf x.asker, byteOf x.seq, byteOf (releaseCode x.reason)]) ∧
      (∀ c, f.body = .close c → kind = [7] ∧ body =
        c.trailerId.toList.map (· &&& 0x7F#8) ++ [byteOf c.cls] ++ bytes2 c.near ++ bytes2 c.far ++
          [byteOf c.landedNear, byteOf c.landedFar] ++ signedBytes4 c.payload ++ signedBytes4 c.gross ++
          signedBytes4 c.kingpin ++ signedBytes4 c.bogie ++
          [byteOf (yesCode c.aborted + 2 * yesCode c.overLimit + 4 * yesCode c.lightNose)])) ∧
  ([BayState.empty, .docked, .blocked, .inbound, .outbound, .closing, .closed].map stateCode =
        [1, 2, 3, 4, 5, 6, 7] ∧
      [none, some Phase.far, some .near].map phaseCode = [0, 1, 2] ∧
      [Assignment.free, .assigned, .suspect].map assignmentCode = [0, 1, 2] ∧
      [HeightClass.full, .half, .quarter, .mini].map heightCode = [0, 1, 2, 3] ∧
      [false, true].map yesCode = [0, 1] ∧ [PlaceKind.trailer, .lane].map placeKindCode = [1, 2] ∧
      [RefuseReason.closed, .wrongDest, .order, .duplicate, .full, .gross, .axle, .noLane, .busy,
        .held].map refuseCode = [1, 2, 3, 4, 5, 6, 7, 8, 9, 10] ∧
      [ReleaseReason.expired, .stranded, .cutoff, .undock, .late, .cancel].map releaseCode =
        [1, 2, 3, 4, 5, 6] ∧
      (∀ row tier k, placeBytes (.trailer row .left tier) = [1, byteOf row, 1, byteOf tier, 0] ∧
        placeBytes (.trailer row .right tier) = [1, byteOf row, 2, byteOf tier, 0] ∧
        placeBytes (.lane k) = [2, 0, 0, 0, byteOf k])) ∧
  ∀ f : Frame, wfFrame f = true →
    checkFits (frameBytes f) = true ∧ frameOf (frameBytes f) = some f

/-- O17. A request is discarded while the bay cannot take it, and answered under its own name otherwise; that
the answer is formed in the step of the request, and that an unknown or ill-formed request is answered
under the one name unknown, are the model's choices: notes/assumptions/9.md and 28.md (R175, R179). -/
def Obligations.ServiceLineTakesOneRequest : Prop :=
  (∀ s : State, s.ready = true ↔ s.resetLine = false ∧ s.reading = false ∧ s.scu.answer = none) ∧
  (∀ (r : RequestName) (code : AnswerCode) (data : AnswerData) (s : State), s.answer r code data =
      { s with scu := { s.scu with answer := some { request := r, code := code, data := data } } }) ∧
  (∀ (c : Instr) (s : State), isRequest c = true → s.ready = false → exec c s = .next s) ∧
  (∀ (c : Instr) (s : State), isRequest c = true → s.ready = true →
    ∃ t a, exec c s = .next t ∧ t.scu.answer = some a ∧ requestName c = some a.request) ∧
  (∀ s : State, s.ready = true → exec .unknown s = .next (s.answer .unknown .unknown .nothing)) ∧
  (∀ s : State, s.ready = true → exec .floorReset s = .next (s.answer .floorReset .ok .nothing)) ∧
  (∀ s : State, s.resetLine = false → s.scu.answer.isSome = true → answersFloorReset s = false →
    exec .serviceAnswerSent s = .next { s with scu := { s.scu with answer := none } })

/-- O18. After either reset the FBI is as its table says (R38). -/
def Obligations.FbiAfterReset : Prop :=
  ∀ (c : Instr) (s : State), takesAnyReset c s = true →
    ∃ t, exec c s = .next t ∧ t.fbi.tx = [] ∧ t.fbi.transmitter = .idle ∧ t.fbi.inHand = false ∧
      t.fbi.rx = [] ∧ t.fbi.seq = 0 ∧ (∀ b, b < 63 → t.fbi.lastHeard[b]? = some none) ∧
      t.fbi.mute = false ∧ t.fbi.debt = 0 ∧ t.fbi.owedAdvert = false ∧ t.fbi.restartMark = true ∧
      t.fbi.turn = .lpu

/-- O19. After either reset the LPU is as its table says (R100). -/
def Obligations.LpuAfterReset : Prop :=
  ∀ (c : Instr) (s : State), takesAnyReset c s = true →
    ∃ t, exec c s = .next t ∧ t.plan.state = .absent ∧
      (∀ row sd, stackAt t.plan row sd = []) ∧ t.plan.floorStacks.size = 26 ∧ t.plan.face = 0 ∧
      t.plan.phase = none ∧ t.plan.payload = 0 ∧ t.plan.moment = 0 ∧ t.plan.overLimit = false ∧
      t.plan.mismatch = false ∧ t.lpu.binding = none ∧ t.lpu.closing = none ∧ t.lpu.owed = [] ∧
      t.lpu.owedClose = none ∧ t.fbi.tx = []

/-- O20. After either reset every block but the FBI and the LPU is as its table says, and the DCU after the
power-on read; the read under an asserted reset line, and no lane present after power-on, are the model's
choices: notes/assumptions/7.md and 13.md (R19, R8, R179, R41, R59, R148, R159, R182, R151). -/
def Obligations.BlocksAfterReset : Prop :=
  (∀ (st : BayState) (s : State), (s.inState st = true ↔ s.dcu.bayState = some st) ∧
      (s.reading = true ↔ s.dcu.bayState = none)) ∧
  (∀ (c : Instr) (s : State), takesAnyReset c s = true →
    ∃ t, exec c s = .next t ∧ t.dcu.beat = 0 ∧ t.dcu.binding = none ∧ t.dcu.cutOff = none ∧
      t.dcu.farCut = none ∧ t.dcu.leveller = none ∧ t.dcu.closingGrace = none ∧ t.dcu.phase = none ∧
      t.dcu.suspended = false ∧ (∀ line, (lineOf t.dcu line).changed = false) ∧
      t.lpu.closing = none ∧ t.fbi.tx = [] ∧
      (c = .powerOnReset → t.dcu.bayState = none) ∧
      (c ≠ .powerOnReset → s.reading = false →
        (t.dcu.bayState = if s.inState .unconfigured then some .unconfigured else some .listen) ∧
        (s.inState .unconfigured = false → t.dcu.join = some (2 * s.scu.config.advertPeriod)) ∧
        (∀ line, (lineOf t.dcu line).lastTaken = (lineOf s.dcu line).current ∧
          (lineOf t.dcu line).current = (lineOf s.dcu line).current) ∧
        t.dcu.beams = s.dcu.beams.map fun b => { b with lastTaken := b.current })) ∧
  (∀ (c : Instr) (s : State), takesAnyReset c s = true →
    ∃ t, exec c s = .next t ∧ (∀ i, entryAt t.pdr i = none) ∧ (∀ b, slotOf t.pdr b = none) ∧
      (∀ i, t.slotAt i = .free) ∧ t.dsu.seq = 0 ∧ (∀ n, n < 256 → t.dsu.borrowers[n]? = some none) ∧
      t.mlu.owed = [] ∧
      (∀ l ∈ t.mlu.lanes, l = suspectLane l.number ∧ l.assignment = .suspect ∧ l.dest = none ∧
        l.high = false ∧ l.noPut = false ∧ l.blocked = false ∧ l.items = [] ∧ l.puts = [] ∧ l.drain = none) ∧
      t.gdu.fifo = [] ∧ t.gdu.buffer = none ∧ t.gdu.dwellRunning = false ∧ t.gdu.dwell = none ∧
      t.gdu.showBy = none ∧ t.gdu.request = none ∧ t.gdu.current.name = .dark ∧
      t.gdu.current.colour = none ∧ (∀ k, channelPattern false t.gdu.current k = .off) ∧
      (∀ x ∈ t.gdu.channels.toList, x.drive = 0 ∧ x.openFault = false ∧ x.shortFault = false) ∧
      (∀ k, pendingFlag t.scu k = false) ∧ t.scu.enabled = Vector.replicate 19 true ∧
      t.scu.noticeLine = false ∧ t.scu.answer = none ∧
      (c = .powerOnReset → t.scu.sealed = false ∧ t.mlu.lanes = []) ∧
      (c ≠ .powerOnReset → t.scu.config = s.scu.config ∧ t.scu.sealed = s.scu.sealed ∧
        (s.reading = false → .bayStateChange ∈ t.handed ∧ ∃ u, exec .bayStateChange t = .next u ∧
          u.gdu.current = indicationOf s.own .holding) ∧
        (s.reading = false → s.inState .unconfigured = false →
          t.mlu.lanes = (laneNumbers.filter fun k => decide (k ≤ s.scu.config.laneCount)).map suspectLane))) ∧
  (∀ (image : Option (List Byte)) (s : State), s.reading = true →
    ∃ t, exec (.configurationReadEnd image) s = .next t ∧
      ((t.dcu.bayState = some .listen ∧
          t.dcu.join = some (s.dcu.beat + 2 * t.scu.config.advertPeriod)) ∨
        t.dcu.bayState = some .unconfigured) ∧
      (∀ line, (lineOf t.dcu line).lastTaken = (lineOf s.dcu line).current) ∧
      t.dcu.beams = s.dcu.beams.map fun b => { b with lastTaken := b.current })

/-- O21. After every step no two records have one pallet ID, and exclusion lists and ask counts keep their
bounds (R58, R59, R64, R68, R71, R61). -/
def Obligations.AskTableKeepsItsForm : Prop :=
  ∀ s t : State, AskTableFits s.dsu → step s = .next t → AskTableFits t.dsu

/-- O22. The end of the power-on read takes the image field by field, clamped, or the defaults; the model's
choices: notes/assumptions/7.md, 14.md and 45.md (R172, R173, R8, R9, R174, R146). -/
def Obligations.PlugImageTaken : Prop :=
  (∀ image : List Byte, imageGood image = true ↔
      390 ≤ image.length ∧ crcBytes (image.take 388) = (image.drop 388).take 2) ∧
  (∀ (a b c d : Byte) (rest : List Byte),
      signedWords (a :: b :: c :: d :: rest) = (a ++ b ++ c ++ d : BitVec 32).toInt :: signedWords rest) ∧
  (imageLength = 388 ∧ signedWords [] = []) ∧
  (∀ x ∈ [(FieldName.bayNumber, (1 : Int), (63 : Int)), (.advertPeriod, 2, 60), (.ageLimit, 2, 7),
      (.answerTimeout, 1, 10), (.holdBeats, 30, 900), (.guardMargin, 5, 60), (.closingGrace, 0, 300),
      (.levellerGrace, 0, 120), (.laneCount, 0, 4), (.highMark, 2, 8), (.lowMark, 0, 7),
      (.minimumDwell, 1, 10), (.showTime, 3, 60), (.mapFirst, 1, 999), (.mapLast, 1, 999),
      (.mapHandling, 0, 2), (.classD, -200, 0), (.classP, 90, 110), (.classL, 500, 1100),
      (.classK0, 0, 20000), (.classB0, 0, 20000), (.classKmax, 1000, 60000), (.classBmax, 1000, 60000),
      (.classGmax, 1000, 60000), (.classKmin, 0, 20000), (.classH, 2400, 3000), (.channelGroup, 1, 4),
      (.groupLevel, 0, 255), (.slopeClass, 0, 3)], fieldRange x.1 = x.2) ∧
  (∀ x ∈ [(FieldName.bayNumber, (0 : Int)), (.advertPeriod, 10), (.ageLimit, 3), (.answerTimeout, 2),
      (.holdBeats, 240), (.guardMargin, 10), (.closingGrace, 120), (.levellerGrace, 30), (.laneCount, 0),
      (.highMark, 7), (.lowMark, 5), (.minimumDwell, 2), (.showTime, 15), (.mapFirst, 999), (.mapLast, 1),
      (.mapHandling, 0), (.classD, -120), (.classP, 102), (.classL, 780), (.classK0, 2300),
      (.classB0, 4700), (.classKmax, 12000), (.classBmax, 24000), (.classGmax, 34000), (.classKmin, 3500),
      (.classH, 2700), (.channelGroup, 1), (.groupLevel, 255), (.slopeClass, 0)],
    ∀ i, fieldNamed x.1 i = true → getField defaultConfig x.1 (i.getD 0) = some x.2) ∧
  (imageFields.length = 96 ∧
    imageFields.take 12 = [FieldName.advertPeriod, .ageLimit, .answerTimeout, .holdBeats, .guardMargin,
      .closingGrace, .levellerGrace, .laneCount, .highMark, .lowMark, .minimumDwell, .showTime].map (·, 0) ∧
    (∀ e, e < 8 → (imageFields.drop (12 + 3 * e)).take 3 =
      [FieldName.mapFirst, .mapLast, .mapHandling].map (·, e + 1)) ∧
    (∀ k, k < 4 → (imageFields.drop (36 + 10 * k)).take 10 =
      [FieldName.classD, .classP, .classL, .classK0, .classB0, .classKmax, .classBmax, .classGmax,
        .classKmin, .classH].map (·, k)) ∧
    (∀ k, k < 12 → imageFields[76 + k]? = some (.channelGroup, k + 1)) ∧
    ∀ g, g < 4 → (imageFields.drop (88 + 2 * g)).take 2 = [FieldName.groupLevel, .slopeClass].map (·, g + 1)) ∧
  (∀ (image : List Byte) (s : State) (bay : Int) (rest : List Int), s.reading = true →
    imageGood image = true → signedWords (image.take imageLength) = bay :: rest →
    ∃ t, exec (.configurationReadEnd (some image)) s = .next t ∧ t.scu.fromPlug = true ∧
      (∀ (k : Nat) (f : FieldName) (i : Nat) (v : Int), imageFields[k]? = some (f, i) → rest[k]? = some v →
        getField t.scu.config f i = some (takenValue f v)) ∧
      (pendingFlag t.scu .configClamped = true ↔ pendingFlag s.scu .configClamped = true ∨
        ∃ (k : Nat) (f : FieldName) (i : Nat) (v : Int), imageFields[k]? = some (f, i) ∧
          rest[k]? = some v ∧ fieldInRange f v = false) ∧
      ((1 ≤ bay ∧ bay ≤ 63) → (t.scu.config.bay : Int) = bay ∧ t.dcu.bayState = some .listen ∧
        pendingFlag t.scu .configBad = pendingFlag s.scu .configBad ∧
        t.mlu.lanes = lanesFor s.mlu.lanes t.scu.config.laneCount ∧
        (s.mlu.lanes = [] → t.mlu.lanes =
          (laneNumbers.filter fun k => decide (k ≤ t.scu.config.laneCount)).map suspectLane)) ∧
      (¬ (1 ≤ bay ∧ bay ≤ 63) → t.scu.config.bay = 0 ∧ t.dcu.bayState = some .unconfigured ∧
        pendingFlag t.scu .configBad = true ∧ t.mlu = s.mlu)) ∧
  (∀ (image : Option (List Byte)) (s : State), s.reading = true →
    (∀ l, image = some l → imageGood l = false) →
    ∃ t, exec (.configurationReadEnd image) s = .next t ∧ t.scu.config = defaultConfig ∧
      t.scu.fromPlug = false ∧ pendingFlag t.scu .configBad = true ∧
      t.dcu.bayState = some .unconfigured ∧ t.dcu.join = s.dcu.join ∧ t.mlu = s.mlu) ∧
  ∀ (image : Option (List Byte)) (s : State), s.reading = false →
    exec (.configurationReadEnd image) s = .next s

/-- O23. A field written is read back, every other field stands, and a bad write is turned away; that a lane
newly present begins with no-put clear is the model's choice: notes/assumptions/45.md; that what is held
for a number a write makes the bay's own is kept is the model's choice: notes/assumptions/49.md (R176,
R178, R174, R101). -/
def Obligations.WriteFieldReadsBack : Prop :=
  (∀ (f : FieldName) (v : Int),
      (fieldInRange f v = true ↔ (fieldRange f).1 ≤ v ∧ v ≤ (fieldRange f).2) ∧
      evenPitch v = if v % 2 = 0 then v else v - 1) ∧
  (∀ (c : ConfigRecord) (k : Nat),
      [FieldName.bayNumber, .advertPeriod, .ageLimit, .answerTimeout, .holdBeats, .guardMargin, .closingGrace,
        .levellerGrace, .laneCount, .highMark, .lowMark, .minimumDwell, .showTime].map (getField c · 0) =
        [c.bay, c.advertPeriod, c.ageLimit, c.answerTimeout, c.holdBeats, c.guardMargin, c.closingGrace,
          c.levellerGrace, c.laneCount, c.highMark, c.lowMark, c.minimumDwell, c.showTime].map
          (fun n : Nat => some (n : Int)) ∧
      (∀ e, c.map[k]? = some e → getField c .mapFirst (k + 1) = some (e.first : Int) ∧
        getField c .mapLast (k + 1) = some (e.last : Int) ∧
        (getField c .mapHandling (k + 1) = some 0 ↔ e.handling = .direct) ∧
        (getField c .mapHandling (k + 1) = some 1 ↔ e.handling = .hold) ∧
        (getField c .mapHandling (k + 1) = some 2 ↔ e.handling = .except)) ∧
      (∀ x, c.classes[k]? = some x →
        [FieldName.classD, .classP, .classL, .classK0, .classB0, .classKmax, .classBmax, .classGmax, .classKmin,
          .classH].map (getField c · k) =
          [x.d, x.p, x.l, x.k0, x.b0, x.kmax, x.bmax, x.gmax, x.kmin, (x.h : Int)].map some) ∧
      (∀ g, c.channelGroup[k]? = some g → getField c .channelGroup (k + 1) = some (g : Int)) ∧
      ∀ g, c.groups[k]? = some g → getField c .groupLevel (k + 1) = some (g.level : Int) ∧
        getField c .slopeClass (k + 1) = some (g.slope : Int)) ∧
  (∀ (f : FieldName) (i : Option Nat), fieldNamed f i = true ↔
    f ≠ .unknown ∧
    (f ∈ [FieldName.mapFirst, .mapLast, .mapHandling] → ∃ k, i = some k ∧ 1 ≤ k ∧ k ≤ 8) ∧
    (f ∈ [FieldName.classD, .classP, .classL, .classK0, .classB0, .classKmax, .classBmax, .classGmax,
      .classKmin, .classH] → ∃ k, i = some k ∧ k ≤ 3) ∧
    (f = .channelGroup → ∃ k, i = some k ∧ 1 ≤ k ∧ k ≤ 12) ∧
    (f = .groupLevel ∨ f = .slopeClass → ∃ k, i = some k ∧ 1 ≤ k ∧ k ≤ 4) ∧
    (f ∈ [FieldName.bayNumber, .advertPeriod, .ageLimit, .answerTimeout, .holdBeats, .guardMargin,
      .closingGrace, .levellerGrace, .laneCount, .highMark, .lowMark, .minimumDwell, .showTime] → i = none)) ∧
  (∀ (old : List Lane) (n : Nat), n ≤ 4 →
    (lanesFor old n).map Lane.number = (List.range n).map (· + 1) ∧
    ∀ l ∈ lanesFor old n, l ∈ old ∨ (∀ o ∈ old, o.number ≠ l.number) ∧ l =
      { number := l.number, assignment := .suspect, dest := none, high := false, noPut := false
        blocked := false, items := [], puts := [], drain := none }) ∧
  (∀ (old : List Lane) (n : Nat) (l : Lane), n ≤ 4 → (old.map Lane.number).Nodup → l ∈ old →
    1 ≤ l.number → l.number ≤ n → l ∈ lanesFor old n) ∧
  (∀ (f : FieldName) (i : Option Nat) (v : Int) (s : State), s.ready = true → fieldNamed f i = true →
    s.scu.sealed = false → fieldInRange f v = true →
    ∃ t, exec (.writeField f i v) s = .next t ∧
      getField t.scu.config f (i.getD 0) = some (if f = .classP then evenPitch v else v) ∧
      (∀ (g : FieldName) (j : Option Nat), fieldNamed g j = true → (g, j) ≠ (f, i) →
        getField t.scu.config g (j.getD 0) = getField s.scu.config g (j.getD 0)) ∧
      t.scu = { s.scu with config := t.scu.config,
                           answer := some { request := .writeField, code := .ok, data := .nothing } } ∧
      t.mlu = (if f = .laneCount ∧ s.inState .unconfigured = false then
        { s.mlu with lanes := lanesFor s.mlu.lanes v.toNat } else s.mlu) ∧
      t.dcu = s.dcu ∧ t.fbi = s.fbi ∧ t.pdr = s.pdr ∧ t.dsu = s.dsu ∧ t.lpu = s.lpu ∧ t.gdu = s.gdu ∧
      t.handed = s.handed) ∧
  (∀ (f : FieldName) (i : Option Nat) (v : Int) (s : State), s.ready = true → fieldNamed f i = false →
    exec (.writeField f i v) s = .next (s.answer .writeField .range .nothing)) ∧
  (∀ (f : FieldName) (i : Option Nat) (v : Int) (s : State), s.ready = true → fieldNamed f i = true →
    s.scu.sealed = true → exec (.writeField f i v) s = .next (s.answer .writeField .sealed .nothing)) ∧
  (∀ (f : FieldName) (i : Option Nat) (v : Int) (s : State), s.ready = true → fieldNamed f i = true →
    s.scu.sealed = false → fieldInRange f v = false →
    exec (.writeField f i v) s = .next (s.answer .writeField .range .nothing)) ∧
  (∀ (f : FieldName) (i : Option Nat) (s : State), s.ready = true → fieldNamed f i = true →
    ∃ v, getField s.scu.config f (i.getD 0) = some v ∧
      exec (.readField f i) s = .next (s.answer .readField .ok (.field v))) ∧
  ∀ (f : FieldName) (i : Option Nat) (s : State), s.ready = true → fieldNamed f i = false →
    exec (.readField f i) s = .next (s.answer .readField .range .nothing)

/-- O24. Every read answers with the state as it stands and changes nothing of the bay; the loads of READ PLAN
with no class bound are a free value, and that READ STATE gives amended intensity settings at once is the
model's choice: notes/assumptions/1.md and 48.md (R178, R41, R99, R81, R148, R160). -/
def Obligations.ReadsChangeNothing : Prop :=
  (∀ s : State, stateReport s =
    { beat := s.dcu.beat, bayState := s.dcu.bayState, phase := s.dcu.phase, suspended := s.dcu.suspended
      binding := s.dcu.binding, join := s.dcu.join, cutOff := s.dcu.cutOff, farCut := s.dcu.farCut
      leveller := s.dcu.leveller, closingGrace := s.dcu.closingGrace, mute := s.fbi.mute
      restartMark := s.fbi.restartMark, debt := s.fbi.debt, seq := s.fbi.seq, txCount := s.fbi.tx.length
      rxCount := s.fbi.rx.length, lastHeard := s.fbi.lastHeard, gdu := gduReport s, sealed := s.scu.sealed
      fromPlug := s.scu.fromPlug } ∧
    ∃ (groupNos : Vector Nat 12) (groups : Vector IntensityGroup 4), gduReport s =
    { current := s.gdu.current, request := s.gdu.request, commitBeat := s.gdu.commitBeat
      buffer := s.gdu.buffer, fifo := s.gdu.fifo, dwellRunning := s.gdu.dwellRunning, dwell := s.gdu.dwell
      showBy := s.gdu.showBy, openFaults := s.gdu.channels.toList.map Channel.openFault
      shortFaults := s.gdu.channels.toList.map Channel.shortFault, channelGroup := groupNos
      groups := groups, redSubstitute := redFaulted s.gdu } ∧
      (s.dcu.bayState ≠ some .unconfigured →
        groupNos = s.scu.config.channelGroup ∧ groups = s.scu.config.groups) ∧
      (s.dcu.bayState = some .unconfigured → (∀ k, k < 12 → groupNos[k]? = some 1) ∧
        groups[0]? = some { level := 255, slope := 0 })) ∧
  ∀ s : State, s.ready = true →
    (∀ set way, set ≤ 31 → 1 ≤ way → way ≤ 4 → exec (.readDirectoryEntry set way) s =
      .next (s.answer .readDirectoryEntry .ok (.entry (entryAt s.pdr (4 * set + (way - 1)))))) ∧
    (∀ set way, (31 < set ∨ way = 0 ∨ 4 < way) → exec (.readDirectoryEntry set way) s =
      .next (s.answer .readDirectoryEntry .range .nothing)) ∧
    exec .readAskTable s = .next (s.answer .readAskTable .ok (.askTable s.dsu.seq s.dsu.slots)) ∧
    exec .readClosingRecord s = .next (s.answer .readClosingRecord .ok (.closing s.lpu.closing)) ∧
    exec .readLanes s = .next (s.answer .readLanes .ok (.lanes s.mlu.lanes)) ∧
    exec .readState s = .next (s.answer .readState .ok (.state (stateReport s))) ∧
    exec .readNotices s =
      .next (s.answer .readNotices .ok (.notices s.scu.pending s.scu.enabled s.scu.noticeLine)) ∧
    (∃ r, exec .readPlan s =
        .next ({ s with serial := s.serial + 1 }.answer .readPlan .ok (.plan r)) ∧
      r.state = s.plan.state ∧ r.binding = s.lpu.binding ∧ r.phase = s.plan.phase ∧
      r.face = s.plan.face ∧ r.band = openBand s.plan.face ∧ r.floorStacks = s.plan.floorStacks ∧
      r.payload = s.plan.payload ∧ r.moment = s.plan.moment ∧ r.overLimit = s.plan.overLimit ∧
      r.mismatch = s.plan.mismatch ∧ r.closing = s.lpu.closing ∧
      (s.plan.state ≠ .absent →
        r.loads = loadsOf (s.trailerClass s.plan.cls) s.plan.payload s.plan.moment) ∧
      (∀ b, s.plan.state = .absent → s.lpu.binding = some b →
        r.loads = loadsOf (s.trailerClass b.cls) 0 0))

/-- O25. Raising, enabling, disabling and clearing a notice change one flag or enable and judge the line
(R180, R181). -/
def Obligations.NoticesFollowTheirFlags : Prop :=
  (∀ (k : NoticeKind) (u : Scu), pendingFlag u k = true ↔ u.pending[noticeIndex k]? = some true) ∧
  (∀ pending enabled : Vector Bool 19, lineAsserted pending enabled = true ↔
    ∃ i, i < 19 ∧ pending[i]? = some true ∧ enabled[i]? = some true) ∧
  (∀ j k : NoticeKind, noticeIndex k < 19 ∧ (noticeIndex j = noticeIndex k → j = k)) ∧
  (∀ (k : NoticeKind) (s : State), s.resetLine = false → s.reading = false →
    exec (.noticeRaise k) s = .next { s with
      handed := s.handed.erase (.noticeRaise k)
      scu := { s.scu with
        pending := s.scu.pending.setIfInBounds (noticeIndex k) true
        noticeLine := lineAsserted (s.scu.pending.setIfInBounds (noticeIndex k) true) s.scu.enabled } }) ∧
  (∀ (k : NoticeKind) (u : Scu), pendingFlag { u with
      pending := u.pending.setIfInBounds (noticeIndex k) true } k = true ∧
    ∀ j, j ≠ k → pendingFlag { u with pending := u.pending.setIfInBounds (noticeIndex k) true } j =
      pendingFlag u j) ∧
  (∀ (k : NoticeKind) (s : State), s.ready = true →
    exec (.noticeEnable (some k)) s = .next ({ s with scu := { s.scu with
      enabled := s.scu.enabled.setIfInBounds (noticeIndex k) true
      noticeLine := lineAsserted s.scu.pending (s.scu.enabled.setIfInBounds (noticeIndex k) true) } }.answer
        .noticeEnable .ok .nothing)) ∧
  (∀ (k : NoticeKind) (s : State), s.ready = true →
    exec (.noticeDisable (some k)) s = .next ({ s with scu := { s.scu with
      enabled := s.scu.enabled.setIfInBounds (noticeIndex k) false
      noticeLine := lineAsserted s.scu.pending (s.scu.enabled.setIfInBounds (noticeIndex k) false) } }.answer
        .noticeDisable .ok .nothing)) ∧
  (∀ (k : NoticeKind) (s : State), s.ready = true → pendingFlag s.scu k = true →
    exec (.clearNotice (some k)) s = .next ({ s with scu := { s.scu with
      pending := s.scu.pending.setIfInBounds (noticeIndex k) false
      noticeLine := lineAsserted (s.scu.pending.setIfInBounds (noticeIndex k) false) s.scu.enabled } }.answer
        .clearNotice .ok .nothing)) ∧
  (∀ (k : NoticeKind) (s : State), s.ready = true → pendingFlag s.scu k = false →
    exec (.clearNotice (some k)) s = .next (s.answer .clearNotice .state .nothing)) ∧
  (∀ s : State, s.ready = true →
    exec (.noticeEnable none) s = .next (s.answer .noticeEnable .range .nothing) ∧
    exec (.noticeDisable none) s = .next (s.answer .noticeDisable .range .nothing) ∧
    exec (.clearNotice none) s = .next (s.answer .clearNotice .range .nothing))

/-- O26. A beat raises the counter by one and hands out every expiry and the tick that fall at it; the order
in which a tick reaches its blocks is the model's choice: notes/assumptions/47.md (R7, R8). -/
def Obligations.BeatAdvancesTheCounter : Prop :=
  (∀ s : State, s.resetLine = false → s.reading = true →
      exec .advertTick s = .next (s.drop .advertTick)) ∧
  (∀ s : State, (s.dcu.bayState = some .unconfigured → s.advertPeriod = 10) ∧
    (s.dcu.bayState ≠ some .unconfigured → s.advertPeriod = s.scu.config.advertPeriod)) ∧
  (∀ s : State, s.resetLine = false → s.dcu.beat < 4294967295 →
    ∃ l, exec .beat s = .next { s.handAll l with dcu := { s.dcu with beat := s.dcu.beat + 1 } } ∧
      (.cutOffExpiry ∈ l ↔ s.dcu.cutOff = some (s.dcu.beat + 1)) ∧
      (.farCutExpiry ∈ l ↔ s.dcu.farCut = some (s.dcu.beat + 1)) ∧
      (.joinDeadlineExpiry ∈ l ↔ s.dcu.join = some (s.dcu.beat + 1)) ∧
      (.levellerGraceExpiry ∈ l ↔ s.dcu.leveller = some (s.dcu.beat + 1)) ∧
      (.closingGraceExpiry ∈ l ↔ s.dcu.closingGrace = some (s.dcu.beat + 1)) ∧
      (.dwellExpiry ∈ l ↔ s.gdu.dwell = some (s.dcu.beat + 1)) ∧
      (.showExpiry ∈ l ↔ s.gdu.showBy = some (s.dcu.beat + 1)) ∧
      (∀ i r, s.slotAt i = .record r → r.answerBy = some (s.dcu.beat + 1) →
        .answerDeadlineExpiry r.pallet ∈ l) ∧
      (∀ i r, s.slotAt i = .record r → r.guardBy = some (s.dcu.beat + 1) →
        .guardDeadlineExpiry r.pallet ∈ l) ∧
      (∀ i r, s.slotAt i = .record r → r.retryAt = some (s.dcu.beat + 1) →
        .retryAfterExpiry r.pallet ∈ l) ∧
      (∀ row sd r, .reserved r ∈ stackAt s.plan row sd → r.expiry = s.dcu.beat + 1 →
        .reservationExpiry r.pallet ∈ l) ∧
      (∀ x ∈ s.mlu.lanes, ∀ y ∈ x.puts, y.expiry = s.dcu.beat + 1 → .putExpiry y.pallet ∈ l) ∧
      (∀ x ∈ s.mlu.lanes, ∀ d, x.drain = some d →
        (d.retryAt = some (s.dcu.beat + 1) → .drainRetryAfterExpiry x.number ∈ l) ∧
        (d.state = .asked → d.deadline = some (s.dcu.beat + 1) →
          .drainAnswerDeadlineExpiry x.number ∈ l) ∧
        (d.state = .granted ∨ d.state = .inTransit → d.deadline = some (s.dcu.beat + 1) →
          .drainGuardDeadlineExpiry x.number ∈ l)) ∧
      (∀ e ∈ [Instr.cutOffExpiry, .farCutExpiry, .joinDeadlineExpiry, .levellerGraceExpiry,
        .closingGraceExpiry, .dwellExpiry, .showExpiry, .advertTick], l.count e ≤ 1) ∧
      (∀ e ∈ l, e ∈ [Instr.cutOffExpiry, .farCutExpiry, .joinDeadlineExpiry, .levellerGraceExpiry,
          .closingGraceExpiry, .dwellExpiry, .showExpiry, .advertTick] ∨
        (∃ i r, s.slotAt i = .record r ∧
          (e = .answerDeadlineExpiry r.pallet ∧ r.answerBy = some (s.dcu.beat + 1) ∨
            e = .guardDeadlineExpiry r.pallet ∧ r.guardBy = some (s.dcu.beat + 1) ∨
            e = .retryAfterExpiry r.pallet ∧ r.retryAt = some (s.dcu.beat + 1))) ∨
        (∃ row sd r, .reserved r ∈ stackAt s.plan row sd ∧ e = .reservationExpiry r.pallet ∧
          r.expiry = s.dcu.beat + 1) ∨
        (∃ x ∈ s.mlu.lanes, (∃ y ∈ x.puts, e = .putExpiry y.pallet ∧ y.expiry = s.dcu.beat + 1) ∨
          ∃ d, x.drain = some d ∧
            (e = .drainRetryAfterExpiry x.number ∧ d.retryAt = some (s.dcu.beat + 1) ∨
              e = .drainAnswerDeadlineExpiry x.number ∧ d.state = .asked ∧
                d.deadline = some (s.dcu.beat + 1) ∨
              e = .drainGuardDeadlineExpiry x.number ∧ (d.state = .granted ∨ d.state = .inTransit) ∧
                d.deadline = some (s.dcu.beat + 1)))) ∧
      (.advertTick ∈ l ↔ s.reading = false ∧ (s.dcu.beat + 1) % s.advertPeriod = 0)) ∧
  (∀ s : State, 4294967295 ≤ s.dcu.beat → exec .beat s = .next s) ∧
  (∀ s : State, s.resetLine = false → s.reading = false →
    exec .advertTick s =
      .next ((s.drop .advertTick).handAll [.advertDebtRise, .agingEvent, .drainTick]))

/-- O27. A door line change is taken once, flagged and left on the line; that a change not taken still sets
the present value is the model's reading: notes/assumptions/6.md and 7.md (R1, R2). -/
def Obligations.LineChangesAreTaken : Prop :=
  (∀ (d : Dcu) (x : DoorLine), lineOf d .trailerPresent = d.trailerPresent ∧
      lineOf d .levellerDown = d.levellerDown ∧ lineOf d .doorOpen = d.doorOpen ∧
      lineOf d .closePush = d.closePush ∧ withLine d x .trailerPresent = { d with trailerPresent := x } ∧
      withLine d x .levellerDown = { d with levellerDown := x } ∧
      withLine d x .doorOpen = { d with doorOpen := x } ∧ withLine d x .closePush = { d with closePush := x }) ∧
  (∀ (line : Line) (value : Bool) (s : State), takesLine s line value = true ↔
      s.resetLine = false ∧ s.reading = false ∧ value ≠ (lineOf s.dcu line).lastTaken) ∧
  (∀ (line : Line) (value : Bool) (s : State), takesLine s line value = false →
      exec (.doorLineChange line value) s =
        .next (s.setDcu (withLine s.dcu { lineOf s.dcu line with current := value } line))) ∧
  (∀ (d : Dcu) (s : State), s.setDcu d = { s with dcu := d }) ∧
  (∀ (line : Line) (value : Bool) (s : State), takesLine s line value = true →
    ∃ t, exec (.doorLineChange line value) s = .next t ∧
      lineOf t.dcu line = { current := value, lastTaken := value, changed := true } ∧
      (∀ other, other ≠ line → lineOf t.dcu other = lineOf s.dcu other) ∧
      t.dcu.beams = s.dcu.beams ∧ t.dcu.beat = s.dcu.beat) ∧
  (∀ (line : Line) (s : State), exec (.doorLineChange line (lineOf s.dcu line).lastTaken) s =
    .next (s.setDcu (withLine s.dcu
      { lineOf s.dcu line with current := (lineOf s.dcu line).lastTaken } line))) ∧
  (∀ s : State, s.ready = true → ∃ t, exec .sensorRead s = .next t ∧
    t.scu = (s.answer .sensorRead .ok (.sensors
      (s.dcu.trailerPresent.current, s.dcu.trailerPresent.changed)
      (s.dcu.levellerDown.current, s.dcu.levellerDown.changed)
      (s.dcu.doorOpen.current, s.dcu.doorOpen.changed)
      (s.dcu.closePush.current, s.dcu.closePush.changed))).scu ∧
    (∀ line, lineOf t.dcu line = { lineOf s.dcu line with changed := false }) ∧
    { t.dcu with trailerPresent := s.dcu.trailerPresent, levellerDown := s.dcu.levellerDown,
                 doorOpen := s.dcu.doorOpen, closePush := s.dcu.closePush } = s.dcu ∧
    t.fbi = s.fbi ∧ t.pdr = s.pdr ∧ t.dsu = s.dsu ∧ t.lpu = s.lpu ∧ t.mlu = s.mlu ∧ t.gdu = s.gdu ∧
    t.handed = s.handed)

/-- O28. Docking, suspension, undock and the press of CLOSE PUSH change the bay state as stated; the seal
request and the leveller's return after a grace-expiry undock are the model's readings:
notes/assumptions/27.md and 31.md. The order of one event's hand-overs, where no rule gives it, is its
choice: 47.md (R10, R14, R16, R17, R18, R161, R165). -/
def Obligations.BayStatesFollowTheLines : Prop :=
  (∀ (line : Line) (value : Bool) (s : State), takesLine s line value = true →
      (line = .doorOpen ∨
        line = .closePush ∧ (value = false ∨ (s.dcu.bayState ≠ some .outbound ∧
          s.dcu.bayState ≠ some .closing ∧ (s.dcu.bayState = some .inbound → s.dcu.binding = none))) ∨
        line = .trailerPresent ∧ value = true ∧
          (s.dcu.bayState ≠ some .empty ∨ s.dcu.levellerDown.lastTaken = false) ∨
        line = .levellerDown ∧ value = true ∧ s.dcu.suspended = false ∧ s.dcu.returnDue = false ∧
          (s.dcu.bayState ≠ some .empty ∨ s.dcu.trailerPresent.lastTaken = false) ∨
        line = .levellerDown ∧ value = false ∧ s.dcu.bayState ≠ some .docked ∧
          (s.dcu.bayState ≠ some .inbound ∧ s.dcu.bayState ≠ some .outbound ∧
            s.dcu.bayState ≠ some .closing ∨ s.dcu.trailerPresent.lastTaken = false)) →
      exec (.doorLineChange line value) s = .next (s.setDcu (withLine s.dcu
        { current := value, lastTaken := value, changed := true } line))) ∧
  (∀ s : State, takesLine s .trailerPresent false = true →
      s.dcu.bayState ∈ [some .listen, some .unconfigured, some .empty] →
      exec (.doorLineChange .trailerPresent false) s = .next (s.setDcu { s.dcu with
        trailerPresent := { current := false, lastTaken := false, changed := true }
        returnDue := false })) ∧
  (∀ (value : Bool) (s : State), takesLine s .levellerDown value = true →
      ∃ t, exec (.doorLineChange .levellerDown value) s = .next t ∧
        ((s.dcu.bayState = some .inbound ∨ s.dcu.bayState = some .outbound ∨
            s.dcu.bayState = some .closing) → value = false → s.dcu.trailerPresent.lastTaken = true →
          HandsOnAtOnce s t (decide (s.scu.config.levellerGrace = 0)) .levellerGraceExpiry
            [.bayStateChange]) ∧
        (s.dcu.suspended = true → value = true → HandsOn s t [.bayStateChange])) ∧
  (∀ (b : Binding) (now : Nat), (phaseAt b now = .far ↔ b.far ≠ none ∧ ∃ beat, b.farCut = some beat ∧ now < beat)) ∧
  ∀ (line : Line) (value : Bool) (s : State), takesLine s line value = true →
    ∃ t, exec (.doorLineChange line value) s = .next t ∧
      (s.dcu.bayState = some .empty → s.dcu.suspended = false → value = true →
        (line = .trailerPresent ∧ s.dcu.levellerDown.lastTaken = true ∨
          line = .levellerDown ∧ s.dcu.trailerPresent.lastTaken = true ∧ s.dcu.returnDue = false) →
        t.dcu.bayState = some .docked ∧ HandsOn s t
          (if s.scu.sealed then [.bayStateChange] else [.bayStateChange, .sealRequest])) ∧
      (s.dcu.bayState = some .empty → s.dcu.suspended = false → s.dcu.returnDue = true →
        line = .levellerDown → value = true →
        t.dcu.bayState = some .empty ∧ t.dcu.returnDue = false ∧ HandsOn s t []) ∧
      (line = .trailerPresent → value = false → t.dcu.returnDue = false) ∧
      (s.dcu.bayState = some .docked → value = false →
        (line = .trailerPresent ∨ line = .levellerDown) →
        t.dcu.bayState = some .empty ∧ HandsOn s t [.bayStateChange]) ∧
      (s.dcu.bayState = some .blocked → line = .trailerPresent → value = false →
        t.dcu.bayState = some .empty ∧ HandsOn s t [.bayStateChange]) ∧
      ((s.dcu.bayState = some .inbound ∨ s.dcu.bayState = some .outbound ∨
          s.dcu.bayState = some .closing) → line = .levellerDown → value = false →
        s.dcu.trailerPresent.lastTaken = true →
        t.dcu.suspended = true ∧ t.dcu.bayState = s.dcu.bayState ∧
        t.dcu.leveller = some (s.dcu.beat + s.scu.config.levellerGrace)) ∧
      (s.dcu.suspended = true → line = .levellerDown → value = true →
        t.dcu.suspended = false ∧ t.dcu.leveller = none ∧ t.dcu.bayState = s.dcu.bayState) ∧
      ((s.dcu.bayState = some .inbound ∨ s.dcu.bayState = some .closed) → line = .trailerPresent →
        value = false →
        t.dcu.bayState = some .empty ∧ t.dcu.binding = none ∧ t.dcu.phase = none ∧
        t.dcu.suspended = false ∧ t.dcu.cutOff = none ∧ t.dcu.farCut = none ∧ t.dcu.leveller = none ∧
        t.dcu.closingGrace = none ∧ HandsOn s t [.bayStateChange, .departureRequest]) ∧
      ((s.dcu.bayState = some .outbound ∨ s.dcu.bayState = some .closing) → line = .trailerPresent →
        value = false →
        t.dcu.bayState = some .empty ∧ t.dcu.binding = none ∧ t.dcu.phase = none ∧
        t.dcu.suspended = false ∧ t.dcu.cutOff = none ∧ t.dcu.farCut = none ∧ t.dcu.leveller = none ∧
        t.dcu.closingGrace = none ∧
        HandsOn s t [.bayStateChange, .abortRequest, .noticeRaise .undockAbort]) ∧
      (∀ b, s.dcu.bayState = some .inbound → s.dcu.binding = some b → line = .closePush → value = true →
        s.dcu.beat < b.cutOff →
        t.dcu.bayState = some .outbound ∧ t.dcu.phase = some (phaseAt b s.dcu.beat) ∧
        t.dcu.binding = some b ∧
        HandsOn s t [.beginPlan b.cls b.near b.far (phaseAt b s.dcu.beat), .bayStateChange]) ∧
      (∀ b, s.dcu.bayState = some .inbound → s.dcu.binding = some b → line = .closePush → value = true →
        b.cutOff ≤ s.dcu.beat →
        t.dcu.bayState = some .closing ∧ t.dcu.phase = some (phaseAt b s.dcu.beat) ∧
        t.dcu.closingGrace = some (s.dcu.beat + s.scu.config.closingGrace) ∧
        HandsOnAtOnce s t (decide (s.scu.config.closingGrace = 0)) .closingGraceExpiry
          [.beginPlan b.cls b.near b.far (phaseAt b s.dcu.beat), .bayStateChange, .closeRequestClosing]) ∧
      (s.dcu.bayState = some .outbound → line = .closePush → value = true →
        t.dcu.bayState = some .closing ∧ t.dcu.binding = s.dcu.binding ∧ t.dcu.phase = s.dcu.phase ∧
        t.dcu.suspended = s.dcu.suspended ∧
        t.dcu.closingGrace = some (s.dcu.beat + s.scu.config.closingGrace) ∧
        HandsOnAtOnce s t (decide (s.scu.config.closingGrace = 0)) .closingGraceExpiry
          [.bayStateChange, .closeRequestClosing]) ∧
      (s.dcu.bayState = some .closing → line = .closePush → value = true →
        t.dcu.bayState = some .closed ∧ t.dcu.binding = s.dcu.binding ∧ t.dcu.cutOff = s.dcu.cutOff ∧
        t.dcu.closingGrace = none ∧ t.dcu.suspended = false ∧ t.dcu.leveller = none ∧
        t.dcu.farCut = none ∧ HandsOn s t [.bayStateChange, .closeRequestClosed]) ∧
      (s.dcu.bayState = some .closed → line = .levellerDown → value = false →
        t.dcu.suspended = s.dcu.suspended ∧ t.dcu.bayState = some .closed ∧ HandsOn s t []) ∧
      ((s.dcu.bayState = some .listen ∨ s.dcu.bayState = some .unconfigured) → s.dcu.suspended = false →
        t.dcu.bayState = s.dcu.bayState ∧ t.handed = s.handed)

/-- O29. A door read, a lane read and a beam change go where the bay state sends them (R3, R4, R5, R6, R8). -/
def Obligations.ReadsAreRouted : Prop :=
  (∀ (lane : Nat) (s : State),
      (s.resetLine = false → s.reading = false → 1 ≤ lane → lane ≤ 4 →
        (s.dcu.beams[lane - 1]?.map Beam.lastTaken) = some false →
        exec (.exitEvent lane) s = .next { s with dcu := { s.dcu with
          beams := s.dcu.beams.setIfInBounds (lane - 1) { current := false, lastTaken := false } } }) ∧
      (lane = 0 ∨ 4 < lane → exec (.exitEvent lane) s = .next s ∧
        exec (.beamInterrupted lane) s = .next s)) ∧
  (∀ s : State, (s.dcu.bayState = none ∨ s.dcu.bayState = some .unconfigured → s.laneCount = 0) ∧
    (s.dcu.bayState ≠ none → s.dcu.bayState ≠ some .unconfigured →
      s.laneCount = s.scu.config.laneCount)) ∧
  (∀ (r : DoorRead) (s : State), s.resetLine = false → s.reading = false →
    (r.pallet = 0 ∨ s.dcu.doorOpen.lastTaken = false ∨ s.dcu.suspended = true ∨
      (s.dcu.bayState ≠ some .inbound ∧ s.dcu.bayState ≠ some .outbound ∧
        s.dcu.bayState ≠ some .closing)) →
    exec (.doorRead r) s = .next (s.handAll [.noticeRaise .strayRead])) ∧
  (∀ (r : DoorRead) (s : State), s.resetLine = false → 1 ≤ r.pallet →
    s.dcu.doorOpen.lastTaken = true → s.dcu.suspended = false →
    (s.dcu.bayState = some .inbound → r.direction = .outOfTrailer → exec (.doorRead r) s =
      .next (s.handAll [.dsuDoorReadOut (normalDoorRead r)])) ∧
    (s.dcu.bayState = some .inbound → r.direction = .intoTrailer → exec (.doorRead r) s =
      .next (s.handAll [.dsuDoorReadInto (normalDoorRead r)])) ∧
    ((s.dcu.bayState = some .outbound ∨ s.dcu.bayState = some .closing) → r.direction = .intoTrailer →
      exec (.doorRead r) s =
        .next (s.handAll [.lpuDoorReadInto (normalDoorRead r)])) ∧
    ((s.dcu.bayState = some .outbound ∨ s.dcu.bayState = some .closing) → r.direction = .outOfTrailer →
      exec (.doorRead r) s =
        .next (s.handAll [.lpuDoorReadOut (normalDoorRead r)]))) ∧
  (∀ r : DoorRead, (normalDoorRead r).pallet = r.pallet ∧ (normalDoorRead r).dest = r.dest ∧
    (normalDoorRead r).stackable = r.stackable ∧
    (r.classCode = 1 → (normalDoorRead r).height = .half) ∧
    (r.classCode = 2 → (normalDoorRead r).height = .quarter) ∧
    (r.classCode = 3 → (normalDoorRead r).height = .mini) ∧
    ((r.classCode = 0 ∨ 3 < r.classCode) → (normalDoorRead r).height = .full) ∧
    (r.scale = .zero ∨ r.scale = .overload → (normalDoorRead r).scale = r.scale) ∧
    (∀ kg, r.scale = .ok kg → (kg = 0 ∨ 1500 < kg) → (normalDoorRead r).scale = .overload) ∧
    (∀ kg, r.scale = .ok kg → 1 ≤ kg → kg ≤ 1500 → (normalDoorRead r).scale = .ok kg)) ∧
  (∀ (r : LaneRead) (s : State), s.resetLine = false → s.reading = false →
    (r.pallet = 0 ∨ r.lane = 0 ∨ s.laneCount < r.lane) →
    exec (.laneRead r) s = .next (s.handAll [.noticeRaise .strayRead])) ∧
  (∀ (r : LaneRead) (s : State), s.resetLine = false → s.reading = false → 1 ≤ r.pallet → 1 ≤ r.lane →
    r.lane ≤ s.laneCount →
    exec (.laneRead r) s = .next (s.handAll [.mluLaneRead (normalLaneRead r)])) ∧
  (∀ r : LaneRead, (normalLaneRead r).lane = r.lane ∧ (normalLaneRead r).pallet = r.pallet ∧
    (normalLaneRead r).dest = r.dest ∧ (normalLaneRead r).stackable = r.stackable ∧
    (r.classCode = 1 → (normalLaneRead r).height = .half) ∧
    (r.classCode = 2 → (normalLaneRead r).height = .quarter) ∧
    (r.classCode = 3 → (normalLaneRead r).height = .mini) ∧
    ((r.classCode = 0 ∨ 3 < r.classCode) → (normalLaneRead r).height = .full)) ∧
  (∀ s : State, s.resetLine = false → s.reading = true →
    (∀ r, exec (.doorRead r) s = .next s) ∧ (∀ r, exec (.cardRead r) s = .next s) ∧
    (∀ r, exec (.laneRead r) s = .next s) ∧
    ∀ (lane : Nat) (b : Beam), 1 ≤ lane → lane ≤ 4 → s.dcu.beams[lane - 1]? = some b →
      exec (.exitEvent lane) s = .next { s with dcu := { s.dcu with
        beams := s.dcu.beams.setIfInBounds (lane - 1) { b with current := false } } } ∧
      exec (.beamInterrupted lane) s = .next { s with dcu := { s.dcu with
        beams := s.dcu.beams.setIfInBounds (lane - 1) { b with current := true } } }) ∧
  (∀ (lane : Nat) (s : State), s.resetLine = false → s.reading = false → 1 ≤ lane → lane ≤ 4 →
    exec (.beamInterrupted lane) s = .next { s with dcu := { s.dcu with
      beams := s.dcu.beams.setIfInBounds (lane - 1) { current := true, lastTaken := true } } }) ∧
  (∀ (lane : Nat) (s : State), s.resetLine = false → s.reading = false → 1 ≤ lane → lane ≤ 4 →
    (s.dcu.beams[lane - 1]?.map Beam.lastTaken) = some true →
    exec (.exitEvent lane) s = .next
      { s.handAll (if lane ≤ s.laneCount then [.mluExitEvent lane] else []) with
        dcu := { s.dcu with
          beams := s.dcu.beams.setIfInBounds (lane - 1) { current := false, lastTaken := false } } })

/-- O30. A card is refused outside DOCKED and when ill-filled, and binds the trunk otherwise; the order of one
event's hand-overs, where no rule gives it, is the model's choice: notes/assumptions/47.md (R12, R13). -/
def Obligations.CardsAreJudged : Prop :=
  (∀ (r : CardRead) (s : State), s.resetLine = false → s.reading = false →
    s.dcu.bayState ≠ some .docked →
    exec (.cardRead r) s = .next (s.handAll [.noticeRaise .cardRefused])) ∧
  (∀ (r : CardRead) (s : State), s.resetLine = false → s.dcu.bayState = some .docked →
    (3 < r.cls ∨ r.near = 0 ∨ 999 < r.near ∨
      (∃ f, r.far = some f ∧ f ≠ 0 ∧ (999 < f ∨ f = r.near ∨ r.farCut = none))) →
    exec (.cardRead r) s = .next (s.handAll [.noticeRaise .cardRefused,
      .indicationRequest { source := .dcu, indication := indicationOf s.own .refused, pallet := none }])) ∧
  (∀ (r : CardRead) (s : State), s.resetLine = false → s.dcu.bayState = some .docked →
    r.cls ≤ 3 → 1 ≤ r.near → r.near ≤ 999 →
    (∀ f, r.far = some f → f ≠ 0 → f ≤ 999 ∧ f ≠ r.near ∧ r.farCut ≠ none) →
    ∃ t b, exec (.cardRead r) s = .next t ∧ t.dcu.binding = some b ∧ t.lpu.binding = some b ∧
      t.lpu.closing = none ∧ t.lpu.plan = s.lpu.plan ∧
      b.trailerId = r.trailerId ∧ b.cls = r.cls ∧ b.arrivesLoaded = r.arrivesLoaded ∧ b.near = r.near ∧
      b.far = (if r.far = some 0 then none else r.far) ∧ b.readBeat = s.dcu.beat ∧
      b.cutOff = s.dcu.beat + min (max r.cutOff 10) 600 * 60 ∧
      (b.far = none → b.farCut = none) ∧
      (∀ m, b.far ≠ none → r.farCut = some m →
        b.farCut = some (s.dcu.beat + min m (min (max r.cutOff 10) 600) * 60)) ∧
      t.dcu.cutOff = some b.cutOff ∧ t.dcu.farCut = b.farCut ∧
      (r.arrivesLoaded = true → t.dcu.bayState = some .inbound ∧ t.dcu.phase = s.dcu.phase ∧
        HandsOnAtOnce s t (decide (b.farCut = some s.dcu.beat)) .farCutExpiry [.bayStateChange]) ∧
      (r.arrivesLoaded = false → t.dcu.bayState = some .outbound ∧
        ∃ ph, t.dcu.phase = some ph ∧ (ph = .far ↔ ∃ m, b.farCut = some m ∧ s.dcu.beat < m) ∧
        HandsOnAtOnce s t (decide (b.farCut = some s.dcu.beat)) .farCutExpiry
          [.beginPlan r.cls r.near b.far ph, .bayStateChange]))

/-- O31. The DCU's deadlines, the last reservation and DECLARE EMPTY change the bay state as stated; the
model's readings: notes/assumptions/3.md, 27.md and 31.md. The order of one event's hand-overs, where no
rule gives it, is its choice: 47.md (R8, R11, R15, R16, R163, R164, R92). -/
def Obligations.BayDeadlinesAct : Prop :=
  (∀ s : State, s.resetLine = false →
      ((s.dcu.bayState ≠ some .listen ∨ ∀ b, s.dcu.join = some b → s.dcu.beat < b) →
        exec .joinDeadlineExpiry s = .next (s.drop .joinDeadlineExpiry)) ∧
      ((∀ b, s.dcu.cutOff = some b → s.dcu.beat < b) →
        exec .cutOffExpiry s = .next (s.drop .cutOffExpiry)) ∧
      ((∀ b, s.dcu.farCut = some b → s.dcu.beat < b) →
        exec .farCutExpiry s = .next (s.drop .farCutExpiry)) ∧
      ((∀ b, s.dcu.leveller = some b → s.dcu.beat < b) →
        exec .levellerGraceExpiry s = .next (s.drop .levellerGraceExpiry)) ∧
      ((∀ b, s.dcu.closingGrace = some b → s.dcu.beat < b) →
        exec .closingGraceExpiry s = .next (s.drop .closingGraceExpiry)) ∧
      (s.dcu.suspended = false → (∃ b, s.dcu.leveller = some b ∧ b ≤ s.dcu.beat) →
        exec .levellerGraceExpiry s =
          .next ((s.setDcu { s.dcu with leveller := none }).drop .levellerGraceExpiry)) ∧
      (s.dcu.bayState ≠ some .closing → (∃ b, s.dcu.closingGrace = some b ∧ b ≤ s.dcu.beat) →
        exec .closingGraceExpiry s =
          .next ((s.setDcu { s.dcu with closingGrace := none }).drop .closingGraceExpiry))) ∧
  (∀ (b : Nat) (s : State), s.resetLine = false → s.dcu.bayState = some .listen →
    s.dcu.join = some b → b ≤ s.dcu.beat →
    ∃ t, exec .joinDeadlineExpiry s = .next t ∧ t.dcu.join = none ∧
      t.dcu.bayState = some (if s.dcu.trailerPresent.lastTaken && s.dcu.levellerDown.lastTaken then
        .blocked else .empty) ∧
      HandsOn (s.drop .joinDeadlineExpiry) t [.bayStateChange] ∧
      (s.fbi.tx = [] → s.fbi.mute = false → t.fbi.tx = [.advert] ∧ t.fbi.debt = s.fbi.debt ∧
        t.fbi.restartMark = s.fbi.restartMark ∧ t.fbi.seq = s.fbi.seq)) ∧
  (∀ (b : Nat) (s : State), s.resetLine = false → s.dcu.cutOff = some b → b ≤ s.dcu.beat →
    ∃ t, exec .cutOffExpiry s = .next t ∧ t.dcu.cutOff = none ∧
      (s.dcu.bayState = some .outbound → t.dcu.bayState = some .closing ∧
        t.dcu.closingGrace = some (s.dcu.beat + s.scu.config.closingGrace) ∧
        HandsOnAtOnce (s.drop .cutOffExpiry) t (decide (s.scu.config.closingGrace = 0))
          .closingGraceExpiry [.bayStateChange, .closeRequestClosing]) ∧
      (s.dcu.bayState ≠ some .outbound → t.dcu = { s.dcu with cutOff := none } ∧
        HandsOn (s.drop .cutOffExpiry) t [])) ∧
  (∀ (b : Nat) (s : State), s.resetLine = false → s.dcu.farCut = some b → b ≤ s.dcu.beat →
    ∃ t, exec .farCutExpiry s = .next t ∧ t.dcu.farCut = none ∧
      (s.dcu.bayState = some .outbound → s.dcu.phase = some .far →
        t.dcu = { s.dcu with farCut := none, phase := some .near } ∧
        (s.plan.state = .opened → t.lpu = { s.lpu with plan := { s.plan with phase := some .near } })) ∧
      ((s.dcu.bayState ≠ some .outbound ∨ s.dcu.phase ≠ some .far) →
        t.dcu = { s.dcu with farCut := none } ∧ t.lpu = s.lpu ∧
        HandsOn (s.drop .farCutExpiry) t [])) ∧
  (∀ (b : Nat) (s : State), s.resetLine = false → s.dcu.suspended = true → s.dcu.leveller = some b →
    b ≤ s.dcu.beat →
    ∃ t, exec .levellerGraceExpiry s = .next t ∧ t.dcu.leveller = none ∧ t.dcu.returnDue = true ∧
      (s.dcu.bayState = some .inbound → t.dcu.bayState = some .empty ∧ t.dcu.suspended = false ∧
        t.dcu.binding = none ∧ HandsOn (s.drop .levellerGraceExpiry) t [.bayStateChange, .departureRequest]) ∧
      ((s.dcu.bayState = some .outbound ∨ s.dcu.bayState = some .closing) →
        t.dcu.bayState = some .empty ∧ t.dcu.suspended = false ∧ t.dcu.binding = none ∧
        HandsOn (s.drop .levellerGraceExpiry) t [.bayStateChange, .abortRequest, .noticeRaise .undockAbort])) ∧
  (∀ (b : Nat) (s : State), s.resetLine = false → s.dcu.bayState = some .closing →
    s.dcu.closingGrace = some b → b ≤ s.dcu.beat →
    ∃ t, exec .closingGraceExpiry s = .next t ∧ t.dcu = { s.dcu with
        bayState := some .closed, closingGrace := none, suspended := false, leveller := none,
        farCut := none } ∧
      HandsOn (s.drop .closingGraceExpiry) t [.bayStateChange, .closeRequestClosed]) ∧
  (∀ s : State, s.resetLine = false → s.dcu.bayState = some .closing →
    ∃ t, exec .noReservationReport s = .next t ∧ t.dcu = { s.dcu with
        bayState := some .closed, closingGrace := none, suspended := false, leveller := none,
        farCut := none } ∧
      HandsOn (s.drop .noReservationReport) t [.bayStateChange, .closeRequestClosed]) ∧
  (∀ s : State, s.resetLine = false → s.dcu.bayState ≠ some .closing →
    exec .noReservationReport s = .next (s.drop .noReservationReport)) ∧
  (∀ s : State, s.ready = true → s.dcu.bayState = some .blocked →
    ∃ t, exec .declareEmpty s = .next t ∧
      t.dcu = { s.dcu with
        bayState := some (if s.dcu.levellerDown.lastTaken then .docked else .empty) } ∧
      t.scu.answer = some { request := .declareEmpty, code := .ok, data := .nothing } ∧
      HandsOn s t (if s.dcu.levellerDown.lastTaken && !s.scu.sealed then
        [.bayStateChange, .sealRequest] else [.bayStateChange])) ∧
  (∀ s : State, s.ready = true → s.dcu.bayState ≠ some .blocked →
    exec .declareEmpty s = .next (s.answer .declareEmpty .state .nothing))

/-- O32. An attempt sends the head frame, a collision backs off, and a backoff ends in DEFER; that a collision
goes by the bay number its attempt was begun with is the model's reading, and the cut-off told without a
binding its choice: notes/assumptions/44.md and 43.md, and so is the high flag of a SUSPECT lane: 23.md
(R20, R21, R23, R25, R95, R97, R112, R113, R176). -/
def Obligations.AttemptsAndCollisions : Prop :=
  (∀ s : State, s.own = s.scu.config.bay) ∧
  (∀ s : State, s.resetLine = false →
      ((s.fbi.transmitter ≠ .deferring ∨ s.fbi.tx = []) → exec .attemptStart s = .next s) ∧
      ((∀ n, s.fbi.transmitter ≠ .backoff n) → exec .backoffEnd s = .next s)) ∧
  (∀ (o : Outgoing) (rest : List Outgoing) (s : State), s.resetLine = false →
    s.fbi.transmitter = .deferring → s.fbi.tx = o :: rest →
    ∃ f : Frame, exec .attemptStart s = .next { s with fbi := { s.fbi with
        transmitter := .sending, inHand := true, sentAs := s.own
        lineOut := .attempt (frameBytes f) } } ∧
      f.sender = s.own ∧ f.seq = s.fbi.seq ∧
      (∀ x, o = .owned x → f.body = x.body ∧ f.restart = false) ∧
      (o = .advert → f.restart = s.fbi.restartMark ∧ ∃ a, f.body = .advert a ∧
        some a.state = (s.dcu.bayState.or (some .listen)) ∧ a.phase = s.dcu.phase ∧
        a.accepting = s.acceptingFigure ∧ a.cutOff = s.cutOffFigure ∧ a.margin = s.planMargin ∧
        a.openings = s.openingsFigure ∧ a.lanes = s.mlu.lanes.map laneEntry)) ∧
  (∀ (o : Outgoing) (rest : List Outgoing) (s : State), s.resetLine = false →
    s.fbi.transmitter = .sending → s.fbi.tx = o :: rest → s.fbi.collisions < 15 →
    exec .collision s = .next { s with fbi := { s.fbi with
      collisions := s.fbi.collisions + 1, lineOut := .jam
      transmitter := .backoff (s.fbi.sentAs + 64 * s.fbi.collisions) } }) ∧
  (∀ (n : Nat) (s : State), s.resetLine = false → s.fbi.transmitter = .backoff n →
    exec .backoffEnd s = .next { s with fbi := { s.fbi with transmitter := .deferring } }) ∧
  (∀ s : State, exec .fragmentReceived s = .next s) ∧
  (∀ (p : Plan) (f : Nat), (p.phase = some .far → p.far = some f → acceptingDest p = f) ∧
    (p.phase = some .near → acceptingDest p = p.near) ∧ (p.phase = none → acceptingDest p = 0)) ∧
  (∀ (c : TrailerClass) (p : Plan) (h : HeightClass), openingsFor (planOpenings c p) h =
    (bandPositions p).countP fun pos => isCandidate c h true none (stackAt p pos.1 pos.2)) ∧
  (∀ (o : Openings) (h : HeightClass), openingsFor noOpenings h = 0 ∧ openingsFor o .full = o.full ∧
    openingsFor o .half = o.half ∧ openingsFor o .quarter = o.quarter ∧ openingsFor o .mini = o.mini) ∧
  (∀ (c : TrailerClass) (payload : Int),
    (grossMargin c payload : Int) = max 0 (min 65535 (c.gmax - (c.k0 + c.b0 + payload)))) ∧
  (∀ l : Lane, (laneEntry l).number = l.number ∧ (laneEntry l).assignment = l.assignment ∧
    (laneEntry l).high = l.high ∧
    (l.assignment = .suspect → (laneEntry l).dest = 0 ∧ (laneEntry l).fill = 0) ∧
    (l.assignment ≠ .suspect → (laneEntry l).dest = l.dest.getD 0 ∧
      (laneEntry l).fill = l.items.length + l.puts.length)) ∧
  (∀ s : State, s.planClass = s.trailerClass s.plan.cls ∧
    ∀ c, s.scu.config.classes[s.plan.cls]? = some c → s.planClass = c) ∧
  ∀ s : State,
    s.acceptingFigure = (if s.dcu.bayState = some .outbound ∧ s.plan.state = .opened then
      acceptingDest s.plan else 0) ∧
    s.openingsFigure = (if s.dcu.bayState = some .outbound ∧ s.plan.state = .opened then
      planOpenings s.planClass s.plan else noOpenings) ∧
    s.planMargin = (if s.plan.state = .absent then 0 else grossMargin s.planClass s.plan.payload) ∧
    s.cutOffFigure ≤ 600 ∧
    ((s.dcu.bayState = some .outbound ∨ s.dcu.bayState = some .closing) ∧ s.plan.state = .opened ∨
      s.dcu.bayState = some .closed ∧ s.plan.state = .final →
      ∀ b, s.lpu.binding = some b → s.cutOffFigure = minutesUntil b.cutOff s.dcu.beat) ∧
    (¬((s.dcu.bayState = some .outbound ∨ s.dcu.bayState = some .closing) ∧ s.plan.state = .opened ∨
      s.dcu.bayState = some .closed ∧ s.plan.state = .final) → s.cutOffFigure = 0)

/-- O33. A frame sent whole, or discarded at its sixteenth collision, leaves the queue and the rest follow;
that the owner is told first, and the order of the owners at a mute, are the model's:
notes/assumptions/11.md and 36.md (R20, R21, R34, R35, R36, R37, R22, R31, R131, R79). -/
def Obligations.FramesLeaveTheQueue : Prop :=
  (∀ (f : OwnedFrame) (s : State), s.tellFailed .advert = s ∧ s.tellFailed (.owned f) = s.toldFailed f) ∧
  (∀ (f : Fbi) (s : State), s.setFbi f = { s with fbi := f }) ∧
  (∀ (o : Outgoing) (rest : List Outgoing) (s : State), s.resetLine = false →
      s.fbi.transmitter = .sending → s.fbi.tx = o :: rest →
      ∃ f : Fbi, exec .frameSent s = .next (s.setFbi f).spaceEvent ∧ f.tx = rest ∧
        (rest = [] → f.transmitter = .idle) ∧ (rest ≠ [] → f.transmitter = .deferring) ∧
        f.seq = (s.fbi.seq + 1) % 256 ∧ f.collisions = 0 ∧ f.inHand = false ∧
        f.debt = (if o = .advert then 0 else s.fbi.debt) ∧
        f.restartMark = (if o = .advert then false else s.fbi.restartMark) ∧
        { f with tx := s.fbi.tx, transmitter := s.fbi.transmitter, seq := s.fbi.seq
                 collisions := s.fbi.collisions, inHand := s.fbi.inHand, debt := s.fbi.debt
                 restartMark := s.fbi.restartMark, lineOut := s.fbi.lineOut } = s.fbi) ∧
  (∀ s : State, s.resetLine = false → (s.fbi.transmitter ≠ .sending ∨ s.fbi.tx = []) →
      exec .frameSent s = .next s ∧ exec .collision s = .next s) ∧
  (turnOrder .lpu = [.lpu, .mlu, .dsu] ∧ turnOrder .mlu = [.mlu, .dsu, .lpu] ∧
    turnOrder .dsu = [.dsu, .lpu, .mlu] ∧ nextOwner .lpu = .mlu ∧ nextOwner .mlu = .dsu ∧
    nextOwner .dsu = .lpu) ∧
  (∀ (o : Outgoing) (rest : List Outgoing) (s : State), s.resetLine = false →
    s.fbi.transmitter = .sending → s.fbi.tx = o :: rest → s.fbi.owedAdvert = false →
    ∃ t added, exec .frameSent s = .next t ∧ t.fbi.tx = rest ++ added ∧
      (∀ x ∈ added, ∃ f, x = .owned f) ∧ t.fbi.seq = (s.fbi.seq + 1) % 256 ∧ t.fbi.inHand = false ∧
      t.fbi.collisions = 0 ∧ (t.fbi.tx ≠ [] → t.fbi.transmitter = .deferring) ∧
      (t.fbi.tx = [] → t.fbi.transmitter = .idle) ∧
      (o = .advert → t.fbi.debt = 0 ∧ t.fbi.restartMark = false) ∧
      (o ≠ .advert → t.fbi.debt = s.fbi.debt ∧ t.fbi.restartMark = s.fbi.restartMark)) ∧
  (∀ (o : Outgoing) (rest : List Outgoing) (s : State), s.resetLine = false →
    s.fbi.transmitter = .sending → s.fbi.tx = o :: rest → 15 ≤ s.fbi.collisions →
    s.fbi.owedAdvert = false →
    ∃ t added, exec .collision s = .next t ∧ t.fbi.tx = rest ++ added ∧
      (∀ x ∈ added, ∃ f, x = .owned f) ∧ t.fbi.seq = s.fbi.seq ∧ t.fbi.inHand = false ∧
      t.fbi.collisions = 0 ∧ t.fbi.debt = s.fbi.debt ∧ t.fbi.restartMark = s.fbi.restartMark ∧
      .noticeRaise .busFault ∈ t.handed) ∧
  (∀ (o : Outgoing) (rest : List Outgoing) (s : State), s.resetLine = false → s.working = true →
    s.fbi.mute = false → s.fbi.restartMark = false → s.fbi.transmitter = .sending → s.fbi.tx = o :: rest →
    rest.length ≤ 11 →
    ∃ t added, exec .frameSent s = .next t ∧ (∀ x ∈ added, ∃ f, x = .owned f) ∧
      (t.fbi.tx.length = 12 ∨ ∀ w, owedFrames t w = []) ∧
      (s.fbi.owedAdvert = true → o ≠ .advert → t.fbi.owedAdvert = false ∧
        t.fbi.tx = (if s.fbi.debt = 4 then .advert :: rest else rest ++ [.advert]) ++ added)) ∧
  (∀ (o : Outgoing) (rest : List Outgoing) (f : OwnedFrame) (s : State), s.resetLine = false →
    s.working = true → s.fbi.mute = false → s.fbi.restartMark = false → s.fbi.transmitter = .sending →
    s.fbi.tx = o :: rest → rest.length = 11 → s.fbi.owedAdvert = false → f ∈ owedFrames s f.owner →
    (owedFrames s f.owner).Nodup → (∀ g ∈ owedFrames s f.owner, g ≠ f → f.built < g.built) →
    (∀ w ∈ (turnOrder s.fbi.turn).takeWhile (fun w => decide (w ≠ f.owner)), owedFrames s w = []) →
    ∃ t, exec .frameSent s = .next t ∧ t.fbi.tx = rest ++ [.owned f] ∧ t.fbi.turn = nextOwner f.owner ∧
      (∀ w, w ≠ f.owner → owedFrames t w = owedFrames s w) ∧
      owedFrames t f.owner = (owedFrames s f.owner).filter (fun g => decide (g ≠ f)) ∧
      (∀ a, f.body = .ask a → HandsOn s t [.askNote a]) ∧
      ((∀ a, f.body ≠ .ask a) → HandsOn s t [])) ∧
  (∀ (o : Outgoing) (rest : List Outgoing) (s : State), s.resetLine = false →
    s.fbi.transmitter = .sending → s.fbi.tx = o :: rest → 15 ≤ s.fbi.collisions →
    exec .collision s = .next ((((s.setFbi { s.fbi with
      tx := rest, inHand := false, collisions := 0, lineOut := .jam
      transmitter := if rest = [] then .idle else .deferring }).raiseNotice .busFault).tellFailed
        o).spaceEvent)) ∧
  (∀ (f : OwnedFrame) (s : State),
    (∀ x, f.body = .refuse x → s.toldFailed f = s ∧ s.toldMuted f = s) ∧
    ((∃ x, f.body = .placed x) ∨ (∃ x, f.body = .release x) → s.toldMuted f = s ∧
      (f.owner = .lpu → s.lpu.owed.length < 8 → s.toldFailed f = { s.bump with lpu :=
        { s.lpu with owed := s.lpu.owed ++ [{ f with built := s.serial }] } }) ∧
      (f.owner = .lpu → 8 ≤ s.lpu.owed.length → s.toldFailed f = s.bump) ∧
      (f.owner = .mlu → s.mlu.owed.length < 8 → s.toldFailed f = { s.bump with mlu :=
        { s.mlu with owed := s.mlu.owed ++ [{ f with built := s.serial }] } }) ∧
      (f.owner = .mlu → 8 ≤ s.mlu.owed.length → s.toldFailed f = s.bump)) ∧
    (∀ x, f.body = .close x → f.owner = .lpu → s.toldMuted f = s ∧
      (s.lpu.owedClose = none → s.toldFailed f = { s with lpu := { s.lpu with owedClose := some f } }) ∧
      (∀ g, s.lpu.owedClose = some g → f.built < g.built → s.toldFailed f = s)) ∧
    (∀ x, f.body = .ask x → s.toldMuted f = s.toldFailed f) ∧
    (∀ x, f.body = .grant x → s.toldMuted f = s.toldFailed f))

/-- O34. A frame that arrives is doubted, lost or queued by its checks; bytes short of or beyond the end the
header gives are the model's reading: notes/assumptions/10.md. The order of one event's hand-overs, where
no rule gives it, is the model's choice: notes/assumptions/47.md (R24, R28, R8, R27). -/
def Obligations.ArrivalsAreJudged : Prop :=
  (∀ bytes : List Byte, part bytes 4 1 = ((bytes[4]?).map BitVec.toNat).getD 0 ∧
      (checkFits bytes = true ↔
        crcBytes (bytes.take (5 + part bytes 4 1)) = (bytes.drop (5 + part bytes 4 1)).take 2)) ∧
  ∀ (bytes : List Byte) (s : State), s.resetLine = false →
    (s.reading = false → checkFits bytes = false → exec (.frameArrival bytes) s =
      .next (s.handAll [.doubtAll, .noticeRaise .loss])) ∧
    (s.reading = false → checkFits bytes = true → frameOf bytes = none →
      exec (.frameArrival bytes) s = .next s) ∧
    (∀ f, s.reading = false → checkFits bytes = true → frameOf bytes = some f → s.fbi.rx.length < 16 →
      exec (.frameArrival bytes) s = .next { s with fbi := { s.fbi with rx := s.fbi.rx ++ [f] } }) ∧
    (16 ≤ s.fbi.rx.length → checkFits bytes = true → exec (.frameArrival bytes) s = .next s) ∧
    (s.reading = true → exec (.frameArrival bytes) s = .next s) ∧
    (∀ f, frameOf bytes = some f → receivedFrame f = true ∧
      (checkFits bytes = true → wfFrame f = true → frameBytes f = bytes)) ∧
    (bytes.length < 7 + part bytes 4 1 → checkFits bytes = false) ∧
    (7 + part bytes 4 1 < bytes.length → frameOf bytes = none)

/-- O35. A frame's taking compares its sequence and hands it to the blocks of its kind, or finds a bay clash;
the order of the blocks that take a frame, and that in which the owners are told of a bay clash, are the
model's: notes/assumptions/47.md and 36.md (R28, R29, R30, R31). -/
def Obligations.FramesAreTaken : Prop :=
  (∀ s : State, s.resetLine = false → s.fbi.rx = [] → exec .frameTaking s = .next s) ∧
  (∀ (f : Frame) (rest : List Frame) (s : State), s.resetLine = false → s.fbi.rx = f :: rest →
    f.sender ≠ s.own → 1 ≤ f.sender → f.sender ≤ 63 →
    ∃ doubt routed : List Instr, exec .frameTaking s = .next { s.handAll (doubt ++ routed) with
      fbi := { s.fbi with
        rx := rest, lastHeard := s.fbi.lastHeard.setIfInBounds (f.sender - 1) (some f.seq) } } ∧
      (∀ a, f.body = .advert a → routed =
        .pdrAdvert f.sender f.restart a :: if f.restart then [.dsuRestartAdvert f.sender] else []) ∧
      (∀ a, f.body = .ask a → a.target = s.own → s.own ≠ 0 → s.fbi.mute = false →
        routed = [.pdrAsk f.sender a,
          if a.kind = .trailer then .lpuAsk f.sender a else .mluAsk f.sender a]) ∧
      (∀ a, f.body = .ask a → (a.target ≠ s.own ∨ s.own = 0 ∨ s.fbi.mute = true) →
        routed = [.pdrAsk f.sender a]) ∧
      (∀ x, f.body = .grant x → routed = .pdrGrant f.sender x ::
        if x.asker = s.own ∧ s.own ≠ 0 then [.dsuGrant f.sender x, .mluGrant f.sender x] else []) ∧
      (∀ x, f.body = .refuse x → routed = .pdrRefuse f.sender x ::
        if x.asker = s.own ∧ s.own ≠ 0 then [.dsuRefuse f.sender x, .mluRefuse f.sender x] else []) ∧
      (∀ x, f.body = .placed x →
        routed = [.pdrPlaced f.sender x, .dsuPlaced f.sender x, .mluPlaced f.sender x]) ∧
      (∀ x, f.body = .release x → x.reason ≠ .late → x.reason ≠ .cancel → routed =
        if x.asker = s.own ∧ s.own ≠ 0 then [.dsuRelease f.sender x, .mluRelease f.sender x] else []) ∧
      (∀ x, f.body = .release x → (x.reason = .late ∨ x.reason = .cancel) →
        routed = [.lpuRelease f.sender x, .mluRelease f.sender x]) ∧
      (∀ x, f.body = .close x → routed = [.pdrClose f.sender, .dsuClose f.sender x]) ∧
      (f.restart = true → doubt = []) ∧
      (s.fbi.lastHeard[f.sender - 1]? = some none → doubt = []) ∧
      (∀ e, s.fbi.lastHeard[f.sender - 1]? = some (some e) → f.seq = (e + 1) % 256 → doubt = []) ∧
      (∀ e, f.restart = false → s.fbi.lastHeard[f.sender - 1]? = some (some e) → f.seq ≠ (e + 1) % 256 →
        doubt = [.doubtSender f.sender, .noticeRaise .loss])) ∧
  (∀ (f : Frame) (rest : List Frame) (s : State), s.resetLine = false → s.fbi.rx = f :: rest →
    f.sender = s.own → f.sender ≠ 0 → s.fbi.mute = true →
    exec .frameTaking s =
      .next { s.handAll [.noticeRaise .bayClash] with fbi := { s.fbi with rx := rest } }) ∧
  (∀ (f : Frame) (rest : List Frame) (s : State), s.resetLine = false → s.fbi.rx = f :: rest →
    f.sender = s.own → f.sender ≠ 0 → s.fbi.mute = false →
    ∃ t, exec .frameTaking s = .next t ∧ t.fbi.mute = true ∧ t.fbi.tx = [] ∧ t.fbi.rx = rest ∧
      t.fbi.transmitter = .idle ∧ t.fbi.debt = 0 ∧ t.fbi.owedAdvert = false ∧
      t.fbi.lastHeard = s.fbi.lastHeard ∧ t.pdr = s.pdr ∧ .noticeRaise .bayClash ∈ t.handed ∧
      (s.fbi.transmitter = .sending → t.fbi.lineOut = .jam) ∧
      t = (s.fbi.tx.foldl State.tellMuted (s.setFbi { s.fbi with
        rx := rest, mute := true, tx := [], transmitter := .idle, inHand := false, collisions := 0, debt := 0
        owedAdvert := false
        lineOut := if s.fbi.transmitter = .sending then .jam else s.fbi.lineOut })).raiseNotice .bayClash) ∧
  ∀ (s : State) (f : OwnedFrame), s.tellMuted .advert = s ∧ s.tellMuted (.owned f) = s.toldMuted f

/-- O36. An advert tick raises the debt to at most 4 and keeps exactly one ADVERT standing or owed (R35, R36,
R37). -/
def Obligations.AdvertDebtRises : Prop :=
  (∀ s : State, s.resetLine = false → s.working = true → s.fbi.restartMark = true → .advert ∈ s.fbi.tx →
      exec .advertDebtRise s = .next (s.drop .advertDebtRise)) ∧
  (∀ s : State, s.resetLine = false → s.working = true → s.fbi.mute = false →
    s.fbi.restartMark = false → FbiBounds s.fbi →
    ∃ t, exec .advertDebtRise s = .next t ∧ t.fbi.debt = min (s.fbi.debt + 1) 4 ∧
      (t.fbi.tx.count .advert = 1 ∧ t.fbi.owedAdvert = false ∨
        t.fbi.tx.count .advert = 0 ∧ t.fbi.owedAdvert = true) ∧
      t.fbi.tx.filter (fun o => decide (o ≠ .advert)) = s.fbi.tx.filter (fun o => decide (o ≠ .advert)) ∧
      (t.fbi.debt = 4 → .advert ∈ t.fbi.tx → t.fbi.tx.head? = some .advert ∨
        (s.fbi.inHand = true ∧ t.fbi.tx[1]? = some .advert ∧ t.fbi.tx.head? = s.fbi.tx.head?)) ∧
      (t.fbi.debt < 4 → .advert ∈ s.fbi.tx → t.fbi.tx = s.fbi.tx) ∧
      (s.fbi.debt < 3 → .advert ∉ s.fbi.tx → s.fbi.owedAdvert = false → s.fbi.tx.length < 12 →
        t.fbi.tx = s.fbi.tx ++ [.advert]) ∧
      (.advert ∉ s.fbi.tx → s.fbi.owedAdvert = false → 12 ≤ s.fbi.tx.length →
        t.fbi.tx = s.fbi.tx ∧ t.fbi.owedAdvert = true)) ∧
  (∀ s : State, s.resetLine = false → s.working = true → s.fbi.mute = false →
    s.fbi.restartMark = true → s.fbi.tx = [] →
    ∃ t, exec .advertDebtRise s = .next t ∧ t.fbi.tx = [.advert] ∧ t.fbi.debt = s.fbi.debt ∧
      t.fbi.restartMark = true ∧ t.fbi.seq = s.fbi.seq) ∧
  (∀ s : State, s.resetLine = false → (s.working = false ∨ s.fbi.mute = true) →
    exec .advertDebtRise s = .next (s.drop .advertDebtRise))

/-- O37. Doubt, an aging event and a CLOSE change the entries they name and no other (R53, R54, R55, R52). -/
def Obligations.DoubtAgeAndCloseEntries : Prop :=
  (∀ (p : Pdr) (i : Nat) (e : Entry), entryAt p i = some e ↔ p.entries[i]? = some (some e)) ∧
  (∀ e : Entry, isTrailerEntry e = true ↔ ∃ c m o, e.kind = .trailer c m o) ∧
  (∀ s : State, s.resetLine = false → ∃ t, exec .doubtAll s = .next t ∧ t.pdr.heard = s.pdr.heard ∧
    ∀ i, entryAt t.pdr i = (entryAt s.pdr i).map fun e => { e with doubtful := true }) ∧
  (∀ (b : Nat) (s : State), s.resetLine = false →
    ∃ t, exec (.doubtSender b) s = .next t ∧ t.pdr.heard = s.pdr.heard ∧
    ∀ i, entryAt t.pdr i = (entryAt s.pdr i).map fun e =>
      if e.bay = b then { e with doubtful := true } else e) ∧
  (∀ s : State, s.resetLine = false → ∃ t, exec .agingEvent s = .next t ∧ t.pdr.heard = s.pdr.heard ∧
    ∀ i, entryAt t.pdr i = (entryAt s.pdr i).bind fun e =>
      if (if s.dcu.bayState = some .unconfigured then 3 else s.scu.config.ageLimit) ≤ e.age then none
      else some { e with age := e.age + 1 }) ∧
  (∀ (b : Nat) (s : State), s.resetLine = false →
    ∃ t, exec (.pdrClose b) s = .next t ∧ t.pdr.heard = s.pdr.heard ∧
    ∀ i, entryAt t.pdr i = (entryAt s.pdr i).filter fun e => !(decide (e.bay = b) && isTrailerEntry e))

/-- O38. After an ADVERT the directory holds for its sender just what it names, fresh and clamped; that an
entry is inserted, its way chosen, before the sender's other entries are removed is the model's choice:
notes/assumptions/38.md (R42, R43, R44, R45, R46, R40). -/
def Obligations.AdvertsAreEntered : Prop :=
  (∀ (b : Nat) (a : AdvertBody), advertTrailer b a =
    { doubtful := false, dest := a.accepting, bay := b, age := 0
      kind := .trailer (min a.cutOff 600) a.margin
        { full := min a.openings.full 4, half := min a.openings.half 4
          quarter := min a.openings.quarter 4, mini := min a.openings.mini 4 } }) ∧
  (∀ (b dest : Nat) (l : LaneAdvert),
    advertLane b dest l = { doubtful := false, dest := dest, bay := b, age := 0
                            kind := .lane l.number (min l.fill 8) l.high } ∧
    (advertLaneDest l = some dest ↔ 1 ≤ l.number ∧ l.number ≤ 4 ∧
      (l.assignment = .free ∧ dest = 0 ∨
        l.assignment = .assigned ∧ dest = l.dest ∧ 1 ≤ l.dest ∧ l.dest ≤ 999))) ∧
  (∀ (e : Entry) (c m : Nat) (o : Openings) (n f : Nat) (h : Bool),
    (e.kind = .trailer c m o → entryKey e = { dest := e.dest, bay := e.bay, lane := none }) ∧
    (e.kind = .lane n f h → entryKey e = { dest := e.dest, bay := e.bay, lane := some n })) ∧
  (∀ (p : Pdr) (i j : Nat) (e : Entry), i < 128 → (putEntry p i e).heard = p.heard ∧
    entryAt (putEntry p i e) j = if j = i then some e else entryAt p j) ∧
  ∀ (b : Nat) (restart : Bool) (a : AdvertBody) (s : State), s.resetLine = false → PdrFits s.pdr →
    ∃ t, exec (.pdrAdvert b restart a) s = .next t ∧ t.pdr.heard = s.pdr.heard ∧
      (∀ i e, entryAt t.pdr i = some e → e.bay = b → e.doubtful = false ∧ e.age = 0 ∧
        (e = advertTrailer b a ∧ a.state = .outbound ∧ 1 ≤ a.accepting ∧ a.accepting ≤ 999 ∨
          ∃ l ∈ a.lanes, ∃ dest, advertLaneDest l = some dest ∧ e = advertLane b dest l)) ∧
      (a.state = .outbound → 1 ≤ a.accepting → a.accepting ≤ 999 →
        ∃ i, entryAt t.pdr i = some (advertTrailer b a)) ∧
      (∀ i e, entryAt t.pdr i = some e → e.bay ≠ b → entryAt s.pdr i = some e) ∧
      (∀ (before after : List LaneAdvert) (l : LaneAdvert) (dest : Nat), a.lanes = before ++ l :: after →
        advertLaneDest l = some dest →
        (∀ m ∈ after, m.number = l.number → advertLaneDest m ≠ some dest) →
        (∃ i, entryAt t.pdr i = some (advertLane b dest l)) ∨
          ∀ i, i / 4 = dest % 32 → ∃ e, entryAt t.pdr i = some e ∧ e.bay = b ∧ e.age = 0) ∧
      (restart = false → a.lanes = [] → a.state = .outbound → 1 ≤ a.accepting → a.accepting ≤ 999 →
        ∃ i, InsertionWay s.pdr [] (entryKey (advertTrailer b a)) i ∧
          entryAt t.pdr i = some (advertTrailer b a) ∧
          ∀ j e, j ≠ i → entryAt s.pdr j = some e → e.bay ≠ b → entryAt t.pdr j = some e) ∧
      ∀ (p : Pdr) (kept : List Nat) (e : Entry),
        (∃ i, InsertionWay p kept (entryKey e) i ∧ insertEntry p kept e = (putEntry p i e, i :: kept)) ∨
        (∀ i, i / 4 = e.dest % 32 → i ∈ kept ∧ ∃ x, entryAt p i = some x ∧ entryKey x ≠ entryKey e) ∧
          insertEntry p kept e = (p, kept)

/-- O39. An overheard ASK fills a slot, a margin or a refusal corrects an entry, and nothing else changes
(R47, R48, R49, R50, R51). -/
def Obligations.OverheardFramesAreSnooped : Prop :=
  (∀ (p : Pdr) (b : Nat) (k : AskSlot), slotOf p b = some k ↔ 1 ≤ b ∧ p.heard[b - 1]? = some (some k)) ∧
  (∀ row sd tier lane, placeKind (.trailer row sd tier) = .trailer ∧ placeKind (.lane lane) = .lane) ∧
  (∀ a : AskBody, askSlotOf a = { seq := a.seq, target := a.target, pallet := a.pallet, kind := a.kind
                                  dest := a.dest, height := a.height, weight := a.weight }) ∧
  (∀ (o : Openings) (h k : HeightClass), openingsFor (openingsWithout o h) k =
    if k = h then 0 else openingsFor o k) ∧
  (∀ (b : Nat) (a : AskBody) (s : State), s.resetLine = false → 1 ≤ b → b ≤ 63 →
    ∃ t, exec (.pdrAsk b a) s = .next t ∧ t.pdr.entries = s.pdr.entries ∧
      slotOf t.pdr b = some (askSlotOf a) ∧ ∀ c, c ≠ b → slotOf t.pdr c = slotOf s.pdr c) ∧
  (∀ (a : AskBody) (s : State), s.resetLine = false → 1 ≤ s.own → s.own ≤ 63 →
    ∃ t, exec (.askNote a) s = .next t ∧ t.pdr.entries = s.pdr.entries ∧
      slotOf t.pdr s.own = some (askSlotOf a) ∧ ∀ c, c ≠ s.own → slotOf t.pdr c = slotOf s.pdr c) ∧
  (∀ (b : Nat) (g : GrantBody) (s : State), s.resetLine = false →
    ∃ t, exec (.pdrGrant b g) s = .next t ∧ t.pdr.heard = s.pdr.heard ∧
    ∀ i, entryAt t.pdr i = (entryAt s.pdr i).map fun e =>
      match placeKind g.place, e.kind with
      | .trailer, .trailer c _ o => if e.bay = b then { e with kind := .trailer c g.margin o } else e
      | _, _ => e) ∧
  (∀ (b : Nat) (x : PlacedBody) (s : State), s.resetLine = false →
    ∃ t, exec (.pdrPlaced b x) s = .next t ∧ t.pdr.heard = s.pdr.heard ∧
    ∀ i, entryAt t.pdr i = (entryAt s.pdr i).map fun e =>
      match placeKind x.place, e.kind with
      | .trailer, .trailer c _ o => if e.bay = b then { e with kind := .trailer c x.margin o } else e
      | _, _ => e) ∧
  (∀ (b : Nat) (x : RefuseBody) (s : State), s.resetLine = false →
    ∃ t, exec (.pdrRefuse b x) s = .next t ∧ t.pdr.heard = s.pdr.heard ∧
    ∀ i, entryAt t.pdr i = (entryAt s.pdr i).bind fun e =>
      match slotOf s.pdr x.asker, e.kind with
      | some k, .trailer c m o =>
        if k.target = b ∧ k.seq = x.seq ∧ k.pallet = x.pallet ∧ k.kind = .trailer ∧ e.bay = b ∧
            e.dest = k.dest then
          match x.reason with
          | .closed | .wrongDest => none
          | .full => some { e with kind := .trailer c m (openingsWithout o k.height) }
          | .gross => some { e with kind := .trailer c (min m (k.weight - 1)) o }
          | _ => some e
        else some e
      | _, _ => some e)

/-- O40. A request for candidates is answered with the trusted entries of the destination; that a drain's
request under a token its lane no longer waits on changes nothing is the model's reading:
notes/assumptions/5.md (R56, R57, R140). -/
def Obligations.CandidatesAreAnswered : Prop :=
  (∀ (k n : Nat) (q : DrainSearch) (s : State), s.drainSearch? k n = some q ↔
      ∃ l d, s.lane? k = some l ∧ l.drain = some d ∧ d.search = some q ∧ q.token = n) ∧
  (∀ (k j : Nat) (f : Drain → Drain) (s : State),
      (s.updateDrain k f).lane? j = (if j = k then (s.lane? k).map fun l => { l with drain := l.drain.map f }
        else s.lane? j) ∧
      { s.updateDrain k f with mlu := { s.mlu with lanes := s.mlu.lanes } } = s ∧
      (s.updateDrain k f).mlu.owed = s.mlu.owed) ∧
  (∀ (p : Pdr) (dest : Nat) (x : TrailerCandidate), x ∈ trailerCandidates p dest ↔
    ∃ i e, i / 4 = dest % 32 ∧ entryAt p i = some e ∧ e.dest = dest ∧ e.doubtful = false ∧
      e.bay = x.bay ∧ e.kind = .trailer x.cutOff x.margin x.openings) ∧
  (∀ (dest pallet token : Nat) (s : State), s.resetLine = false →
    ∃ l, exec (.trailerCandidatesRequest dest (.record pallet token)) s =
        .next ((s.drop (.trailerCandidatesRequest dest (.record pallet token))).handAll
          [.trailerCandidatesAnswer pallet token l]) ∧ l.length ≤ 4 ∧
      ∀ x, x ∈ l ↔ ∃ i e, i / 4 = dest % 32 ∧ entryAt s.pdr i = some e ∧ e.dest = dest ∧
        e.doubtful = false ∧ e.bay = x.bay ∧ e.kind = .trailer x.cutOff x.margin x.openings) ∧
  (∀ (dest pallet token : Nat) (s : State), s.resetLine = false →
    ∃ l, exec (.laneCandidatesRequest dest pallet token) s =
        .next ((s.drop (.laneCandidatesRequest dest pallet token)).handAll
          [.laneCandidatesAnswer pallet token l]) ∧ l.length ≤ 4 ∧
      ∀ x, x ∈ l ↔ ∃ i e, i / 4 = dest % 32 ∧ entryAt s.pdr i = some e ∧ e.dest = dest ∧
        e.doubtful = false ∧ e.bay = x.bay ∧ e.kind = .lane x.lane x.fill x.high) ∧
  (∀ (dest lane token : Nat) (q : DrainSearch) (s : State), s.resetLine = false →
    s.drainSearch? lane token = some q →
    exec (.trailerCandidatesRequest dest (.drain lane token)) s = .next
      (let t := (s.drop (.trailerCandidatesRequest dest (.drain lane token))).updateDrain lane fun d =>
          { d with search := some { q with found := some (trailerCandidates s.pdr dest) } }
       match q.own with
       | none => t
       | some own => t.handAll
           [.drainCandidatesAnswer lane token (trailerCandidates s.pdr dest) own])) ∧
  (∀ (dest lane token : Nat) (s : State), s.resetLine = false → s.drainSearch? lane token = none →
    exec (.trailerCandidatesRequest dest (.drain lane token)) s =
      .next (s.drop (.trailerCandidatesRequest dest (.drain lane token))))

/-- O41. A pallet read out is refused with the table full, an exception, or a record in search; a re-read
shows or seeks again. The order of one event's hand-overs, where no rule gives it, is the model's choice:
notes/assumptions/47.md (R60, R61, R62, R64, R77, R78). -/
def Obligations.PalletsAreRecorded : Prop :=
  (∀ (i j : Nat) (v : Slot) (s : State), i < 8 → s.dsu.slots[i]? = some (s.slotAt i) ∧
      (s.setSlot i v).slotAt j = (if j = i then v else s.slotAt j) ∧
      { s.setSlot i v with dsu := { s.dsu with slots := s.dsu.slots } } = s ∧
      (s.setSlot i v).dsu.seq = s.dsu.seq ∧ (s.setSlot i v).dsu.borrowers = s.dsu.borrowers) ∧
  (∀ sc : Scale, scaleFaulty sc = true ↔ sc = .zero ∨ sc = .overload) ∧
  (∀ (c : ConfigRecord) (dest : Nat),
    ((∀ e ∈ c.map.toList, dest < e.first ∨ e.last < dest) → handlingOf c dest = .direct) ∧
    ∀ (i : Nat) (e : MapEntry), c.map[i]? = some e → e.first ≤ dest → dest ≤ e.last →
      (∀ j x, j < i → c.map[j]? = some x → dest < x.first ∨ x.last < dest) →
      handlingOf c dest = e.handling) ∧
  (classMaxWeight .full = 1200 ∧ classMaxWeight .half = 600 ∧ classMaxWeight .quarter = 300 ∧
    classMaxWeight .mini = 150) ∧
  (∀ (r : PalletRead) (s : State), s.resetLine = false → s.findRecord r.pallet = none →
    s.freeSlot = none →
    exec (.dsuDoorReadOut r) s = .next ((s.drop (.dsuDoorReadOut r)).handAll
      [.indicationRequest { source := .dsu, indication := indicationOf s.own .fullTable, pallet := none },
       .noticeRaise .tableFull])) ∧
  (∀ (r : PalletRead) (i : Nat) (s : State), s.resetLine = false → s.findRecord r.pallet = none →
    s.freeSlot = some i →
    (r.dest = 0 ∨ 999 < r.dest ∨ r.scale = .overload ∨ handlingOf s.scu.config r.dest = .except) →
    ∃ q, exec (.dsuDoorReadOut r) s = .next (((s.drop (.dsuDoorReadOut r)).setSlot i (.record q)).handAll
      ((if scaleFaulty r.scale then [.noticeRaise .scaleFault] else []) ++ [.noticeRaise .exception,
        .indicationRequest
          { source := .dsu, indication := indicationOf s.own .except, pallet := some r.pallet }])) ∧
      q.pallet = r.pallet ∧ q.dest = r.dest ∧ q.state = .exception ∧ q.handling = .except ∧
      q.indication = some (indicationOf s.own .except) ∧ q.shown = false ∧ q.answerBy = none ∧
      q.guardBy = none ∧ q.retryAt = none ∧ q.search = none) ∧
  (∀ (r : PalletRead) (i : Nat) (s : State), s.resetLine = false → s.findRecord r.pallet = none →
    s.freeSlot = some i → 1 ≤ r.dest → r.dest ≤ 999 → r.scale ≠ .overload →
    handlingOf s.scu.config r.dest ≠ .except →
    ∃ q st, exec (.dsuDoorReadOut r) s =
        .next (((s.bump.drop (.dsuDoorReadOut r)).setSlot i (.record q)).handAll
          ((if scaleFaulty r.scale then [.noticeRaise .scaleFault] else []) ++
            [.indicationRequest
              { source := .dsu, indication := indicationOf s.own .wait, pallet := some r.pallet },
             searchRequest q s.serial st])) ∧
      q.pallet = r.pallet ∧ q.dest = r.dest ∧ q.height = r.height ∧ q.stackable = r.stackable ∧
      (∀ kg, r.scale = .ok kg → q.weight = kg ∧ q.estimated = false) ∧
      (r.scale = .zero → q.weight = classMaxWeight r.height ∧ q.estimated = true) ∧
      q.handling = handlingOf s.scu.config r.dest ∧ q.state = .seeking ∧ q.excluded = [] ∧
      q.trailerAsks = 0 ∧ q.totalAsks = 0 ∧ q.search = some { step := st, token := s.serial } ∧
      q.indication = some (indicationOf s.own .wait) ∧ q.shown = false ∧ q.owedRelease = none ∧
      st = (if q.handling = .direct ∧ s.fbi.mute = false then .trailerStage else .ownAssigned)) ∧
  (∀ (r : PalletRead) (i : Nat) (q : PalletRecord) (ind : Indication) (s : State), s.resetLine = false →
    s.findRecord r.pallet = some i → s.slotAt i = .record q → q.state ≠ .orphan →
    q.indication = some ind →
    exec (.dsuDoorReadOut r) s =
      .next (((s.drop (.dsuDoorReadOut r)).setSlot i (.record { q with shown := false })).hand
        (.indicationRequest { source := .dsu, indication := ind, pallet := some q.pallet }))) ∧
  (∀ (r : PalletRead) (i : Nat) (q : PalletRecord) (s : State), s.resetLine = false →
    s.findRecord r.pallet = some i → s.slotAt i = .record q → q.state = .orphan →
    ∃ st, exec (.dsuDoorReadOut r) s =
      .next (((s.bump.drop (.dsuDoorReadOut r)).setSlot i (.record
        { q with
          state := .seeking, excluded := [], trailerAsks := 0, totalAsks := 0, seq := none, target := none
          place := none, askKind := none, owedAsk := none, answerBy := none, guardBy := none
          retryAt := none, search := some { step := st, token := s.serial }
          indication := some (indicationOf s.own .wait), shown := false })).handAll
        [.indicationRequest
           { source := .dsu, indication := indicationOf s.own .wait, pallet := some q.pallet },
         searchRequest q s.serial st]) ∧
      st = (if q.handling = .direct ∧ s.fbi.mute = false then .trailerStage else .ownAssigned)) ∧
  (∀ (p : Nat) (s : State),
    (∀ i, s.findRecord p = some i → i < 8 ∧ (∃ q, s.slotAt i = .record q ∧ q.pallet = p) ∧
      ∀ j q, j < i → s.slotAt j = .record q → q.pallet ≠ p) ∧
    (s.findRecord p = none → ∀ j q, j < 8 → s.slotAt j = .record q → q.pallet ≠ p)) ∧
  ∀ s : State,
    (∀ i, s.freeSlot = some i → i < 8 ∧ s.slotAt i = .free ∧ ∀ j, j < i → s.slotAt j ≠ .free) ∧
    (s.freeSlot = none → ∀ j, j < 8 → s.slotAt j ≠ .free)

/-- O42. A pallet read back, or removed by the service line, frees its record and gives up its place; that a
record made since counts as the one a RELEASE is owed on is the model's reading: notes/assumptions/42.md
(R63, R80, R58, R79, R31). -/
def Obligations.PalletsAreTakenBack : Prop :=
  (∀ (r : PalletRead) (s : State), s.resetLine = false → s.findRecord r.pallet = none →
    exec (.dsuDoorReadInto r) s = .next (s.drop (.dsuDoorReadInto r))) ∧
  (∀ (r : PalletRead) (i : Nat) (q : PalletRecord) (s : State), s.resetLine = false →
    s.findRecord r.pallet = some i → s.slotAt i = .record q →
    exec (.dsuDoorReadInto r) s = .next ((s.drop (.dsuDoorReadInto r)).takeBack i q)) ∧
  (∀ (p i : Nat) (q : PalletRecord) (s : State), s.ready = true → 1 ≤ p → p ≤ 999999999999 →
    s.findRecord p = some i → s.slotAt i = .record q →
    exec (.removeRecord p) s = .next ((s.takeBack i q).answer .removeRecord .ok .nothing)) ∧
  (∀ (p : Nat) (s : State), s.ready = true → 1 ≤ p → p ≤ 999999999999 → s.findRecord p = none →
    exec (.removeRecord p) s = .next (s.answer .removeRecord .state .nothing)) ∧
  (∀ (p : Nat) (s : State), s.ready = true → (p = 0 ∨ 999999999999 < p) →
    exec (.removeRecord p) s = .next (s.answer .removeRecord .range .nothing)) ∧
  (∀ (i : Nat) (q : PalletRecord) (s : State),
    (q.state = .seeking ∨ q.state = .orphan ∨ q.state = .exception ∨
      (q.state = .asked ∧ q.owedAsk ≠ none)) →
    s.takeBack i q = s.setSlot i (slotFreed q)) ∧
  (∀ (i : Nat) (q : PalletRecord) (s : State), q.state = .guided → q.seq = none →
    s.takeBack i q = (s.setSlot i (slotFreed q)).hand (.selfPutCancel q.pallet)) ∧
  (∀ (i : Nat) (q : PalletRecord) (b n : Nat) (s : State),
    (q.state = .asked ∧ q.owedAsk = none ∨ q.state = .guided) → q.target = some b → q.seq = some n →
    s.offerResult = .placed →
    s.takeBack i q = (s.bump.setSlot i (slotFreed q)).placeFrame (.owned
      { owner := .dsu, built := s.serial, target := b, body := .release
          { pallet := q.pallet, asker := s.own, seq := n, reason := .cancel } })) ∧
  ∀ (i : Nat) (q : PalletRecord) (b n : Nat) (s : State),
    (q.state = .asked ∧ q.owedAsk = none ∨ q.state = .guided) → q.target = some b → q.seq = some n →
    DsuReleaseRefused s (s.setSlot i (slotFreed q)) (s.takeBack i q) b
      { pallet := q.pallet, asker := s.own, seq := n, reason := .cancel }

/-- O43. A search goes through its steps in order and ends in an ASK, a self-put or an exception; that a late
answer is known by its token is the model's reading: notes/assumptions/5.md. The order of one event's
hand-overs, where no rule gives it, is the model's choice: notes/assumptions/47.md (R64, R65, R66, R67,
R68, R59, R77). -/
def Obligations.SearchesGoStepByStep : Prop :=
  (∀ (p n : Nat) (s : State), s.resetLine = false → s.findRecord p = none →
      (∀ found, exec (.trailerCandidatesAnswer p n found) s =
        .next (s.drop (.trailerCandidatesAnswer p n found))) ∧
      (∀ found, exec (.laneCandidatesAnswer p n found) s =
        .next (s.drop (.laneCandidatesAnswer p n found))) ∧
      exec (.selfPutAnswer p n none) s = .next (s.drop (.selfPutAnswer p n none))) ∧
  (∀ (p i n : Nat) (st : SearchStep) (q : PalletRecord) (s : State), s.resetLine = false →
      s.findRecord p = some i → s.slotAt i = .record q → q.search = some { step := st, token := n } →
      (st ≠ .trailerStage → ∀ found, exec (.trailerCandidatesAnswer p n found) s =
        .next (s.drop (.trailerCandidatesAnswer p n found))) ∧
      (st ≠ .peerAssigned → st ≠ .peerFree → ∀ found, exec (.laneCandidatesAnswer p n found) s =
        .next (s.drop (.laneCandidatesAnswer p n found))) ∧
      (st ≠ .ownAssigned → st ≠ .ownFree →
        (∀ x, exec (.selfPutAnswer p n (some x)) s =
          .next ((s.drop (.selfPutAnswer p n (some x))).hand (.selfPutCancel p))) ∧
        exec (.selfPutAnswer p n none) s = .next (s.drop (.selfPutAnswer p n none)))) ∧
  (∀ (i : Nat) (q : PalletRecord) (s : State), 8 ≤ q.totalAsks →
    s.beginSearch i q = s.toException i q) ∧
  (∀ (i : Nat) (q : PalletRecord) (s : State), s.searchAt i q none = s.toException i q ∧
    s.toException i q = (s.setSlot i (.record
      { q with
        state := .exception, answerBy := none, guardBy := none, retryAt := none, search := none
        indication := some (indicationOf s.own .except), shown := false })).handAll
      [.noticeRaise .exception, .indicationRequest
        { source := .dsu, indication := indicationOf s.own .except, pallet := some q.pallet }]) ∧
  (∀ (excluded : List Nat) (weight : Nat) (h : HeightClass) (c : TrailerCandidate),
    trailerFits excluded weight h c = true ↔
      c.bay ∉ excluded ∧ weight ≤ c.margin ∧ 1 ≤ openingsFor c.openings h) ∧
  (∀ (q : PalletRecord) (c : LaneCandidate),
    (laneFits q .peerAssigned c = true ↔ c.bay ∉ q.excluded ∧ c.high = false ∧ c.fill < 8) ∧
    (laneFits q .peerFree c = true ↔ c.bay ∉ q.excluded)) ∧
  (∀ (q : PalletRecord) (n : Nat), ∃ p : SelfPut, p.pallet = q.pallet ∧ p.dest = q.dest ∧
    p.weight = q.weight ∧ p.estimated = q.estimated ∧ p.height = q.height ∧ p.stackable = q.stackable ∧
    searchRequest q n .trailerStage = .trailerCandidatesRequest q.dest (.record q.pallet n) ∧
    searchRequest q n .ownAssigned = .selfPutRequest p .assigned n ∧
    searchRequest q n .peerAssigned = .laneCandidatesRequest q.dest q.pallet n ∧
    searchRequest q n .ownFree = .selfPutRequest p .free n ∧
    searchRequest q n .peerFree = .laneCandidatesRequest 0 q.pallet n) ∧
  (∀ (i : Nat) (q : PalletRecord) (s : State), q.totalAsks < 8 → s.beginSearch i q = s.searchAt i q
    (some (if q.handling = .direct ∧ q.trailerAsks < 5 ∧ s.fbi.mute = false then .trailerStage
      else .ownAssigned))) ∧
  (∀ (i : Nat) (q : PalletRecord) (st : SearchStep) (s : State), s.searchAt i q (some st) =
    (s.bump.setSlot i (.record { q with search := some { step := st, token := s.serial } })).hand
      (searchRequest q s.serial st)) ∧
  (∀ (p i n : Nat) (q : PalletRecord) (found : List TrailerCandidate) (s : State),
    s.resetLine = false → s.findRecord p = some i → s.slotAt i = .record q → q.state = .seeking →
    q.search = some { step := .trailerStage, token := n } →
    (∀ c ∈ found, trailerFits q.excluded q.weight q.height c = false) ∧
      exec (.trailerCandidatesAnswer p n found) s =
        .next ((s.drop (.trailerCandidatesAnswer p n found)).searchAt i q (some .ownAssigned)) ∨
    ∃ c ∈ found, trailerFits q.excluded q.weight q.height c = true ∧
      (∀ d ∈ found, trailerFits q.excluded q.weight q.height d = true → c.cutOff < d.cutOff ∨
        c.cutOff = d.cutOff ∧ c.bay ≤ d.bay) ∧
      exec (.trailerCandidatesAnswer p n found) s =
        .next ((s.drop (.trailerCandidatesAnswer p n found)).makeAsk i q c.bay .trailer)) ∧
  (∀ (p i n : Nat) (st : SearchStep) (q : PalletRecord) (found : List LaneCandidate) (s : State),
    s.resetLine = false → s.findRecord p = some i → s.slotAt i = .record q → q.state = .seeking →
    q.search = some { step := st, token := n } → (st = .peerAssigned ∨ st = .peerFree) →
    (∀ c ∈ found, laneFits q st c = false) ∧
      exec (.laneCandidatesAnswer p n found) s =
        .next ((s.drop (.laneCandidatesAnswer p n found)).searchAt i q
          (if st = .peerAssigned then some .ownFree else none)) ∨
    ∃ c ∈ found, laneFits q st c = true ∧
      (∀ d ∈ found, laneFits q st d = true → c.bay ≤ d.bay) ∧
      exec (.laneCandidatesAnswer p n found) s =
        .next ((s.drop (.laneCandidatesAnswer p n found)).makeAsk i q c.bay .lane)) ∧
  (∀ (p i n : Nat) (g : SelfPutGiven) (st : SearchStep) (q : PalletRecord) (s : State),
    s.resetLine = false → s.findRecord p = some i → s.slotAt i = .record q → q.state = .seeking →
    q.search = some { step := st, token := n } → (st = .ownAssigned ∨ st = .ownFree) →
    exec (.selfPutAnswer p n (some g)) s =
      .next (((s.drop (.selfPutAnswer p n (some g))).setSlot i (.record
        { q with
          state := .guided, target := some s.own, place := some (.lane g.lane), seq := none
          askKind := none, search := none
          guardBy := some (s.dcu.beat + g.hold + s.scu.config.guardMargin)
          indication := some (indicationOf s.own (.goLane g.lane)), shown := false })).hand
        (.indicationRequest { source := .dsu, indication := indicationOf s.own (.goLane g.lane),
                              pallet := some q.pallet })) ∧
    exec (.selfPutAnswer p n none) s = .next ((s.drop (.selfPutAnswer p n none)).searchAt i q
      (if s.fbi.mute then (if st = .ownAssigned then some .ownFree else none)
       else some (if st = .ownAssigned then .peerAssigned else .peerFree)))) ∧
  (∀ (p n : Nat) (g : SelfPutGiven) (s : State), s.resetLine = false → s.findRecord p = none →
    exec (.selfPutAnswer p n (some g)) s =
      .next ((s.drop (.selfPutAnswer p n (some g))).hand (.selfPutCancel p))) ∧
  (∀ s : State, (s.takeSeq .dsu).dsu.seq = (s.dsu.seq + 1) % 256 ∧
    (s.dsu.seq ≤ 255 → (s.takeSeq .dsu).dsu.borrowers[s.dsu.seq]? = some (some .dsu)) ∧
    (∀ n, n ≠ s.dsu.seq → (s.takeSeq .dsu).dsu.borrowers[n]? = s.dsu.borrowers[n]?) ∧
    (s.takeSeq .dsu).dsu.slots = s.dsu.slots ∧ { s.takeSeq .dsu with dsu := s.dsu } = s) ∧
  (∀ (i b : Nat) (kind : PlaceKind) (q : PalletRecord) (s : State),
    (s.offerResult = .placed ∨ s.offerResult = .noRoom) →
    ∃ ask : AskBody, ask.seq = s.dsu.seq ∧ ask.target = b ∧ ask.kind = kind ∧ ask.pallet = q.pallet ∧
      ask.dest = q.dest ∧ ask.weight = q.weight ∧ ask.height = q.height ∧ ask.stackable = q.stackable ∧
    ∃ asked : PalletRecord, asked = { q with
        state := .asked, seq := some s.dsu.seq, target := some b, askKind := some kind, search := none
        totalAsks := q.totalAsks + 1
        trailerAsks := q.trailerAsks + (if kind = .trailer then 1 else 0)
        answerBy := some (s.dcu.beat + s.scu.config.answerTimeout) } ∧
    (s.offerResult = .placed → s.makeAsk i q b kind =
      (((s.bump.takeSeq .dsu).setSlot i (.record asked)).placeFrame (.owned
        { owner := .dsu, built := s.serial, target := b, body := .ask ask })).hand (.askNote ask)) ∧
    (s.offerResult = .noRoom → s.makeAsk i q b kind = (s.bump.takeSeq .dsu).setSlot i
      (.record { asked with owedAsk := some { built := s.serial, item := ask } }))) ∧
  (∀ (i b : Nat) (kind : PlaceKind) (q : PalletRecord) (s : State), s.offerResult = .muted →
    s.makeAsk i q b kind = (s.bump.takeSeq .dsu).beginSearch i
      { q with
        state := .seeking, seq := none, target := none, place := none, askKind := none, owedAsk := none
        answerBy := none, guardBy := none, retryAt := none, search := none
        totalAsks := q.totalAsks + 1
        trailerAsks := q.trailerAsks + (if kind = .trailer then 1 else 0) }) ∧
  (∀ (p i n : Nat) (q : PalletRecord) (s : State), s.resetLine = false → s.findRecord p = some i →
    s.slotAt i = .record q →
    (q.state ≠ .seeking ∨ ∀ st, q.search ≠ some { step := st, token := n }) →
    (∀ found, exec (.trailerCandidatesAnswer p n found) s =
      .next (s.drop (.trailerCandidatesAnswer p n found))) ∧
    (∀ found, exec (.laneCandidatesAnswer p n found) s =
      .next (s.drop (.laneCandidatesAnswer p n found))) ∧
    (∀ x, exec (.selfPutAnswer p n (some x)) s =
      .next ((s.drop (.selfPutAnswer p n (some x))).hand (.selfPutCancel p))) ∧
    exec (.selfPutAnswer p n none) s = .next (s.drop (.selfPutAnswer p n none)))

/-- O44. A record's deadlines begin a search or orphan it, and the reports of the head set its shown mark;
that a RELEASE owed again counts as newly built, and a record made since as its own, are the model's
readings: notes/assumptions/11.md and 42.md; and that a deadline not set does nothing: 3.md (R72, R73,
R64, R77, R78, R59, R22, R79). -/
def Obligations.RecordDeadlinesAct : Prop :=
  (∀ (p : Nat) (ind : Indication) (s : State), s.resetLine = false → s.findRecord p = none →
      exec (.answerDeadlineExpiry p) s = .next (s.drop (.answerDeadlineExpiry p)) ∧
      exec (.guardDeadlineExpiry p) s = .next (s.drop (.guardDeadlineExpiry p)) ∧
      exec (.retryAfterExpiry p) s = .next (s.drop (.retryAfterExpiry p)) ∧
      exec (.shownReport p ind) s = .next (s.drop (.shownReport p ind)) ∧
      exec (.droppedReport p ind) s = .next (s.drop (.droppedReport p ind))) ∧
  (∀ (p i : Nat) (q : PalletRecord) (s : State), s.resetLine = false → s.findRecord p = some i →
      s.slotAt i = .record q →
      ((q.state ≠ .asked ∨ ∀ b, q.answerBy = some b → s.dcu.beat < b) →
        exec (.answerDeadlineExpiry p) s = .next (s.drop (.answerDeadlineExpiry p))) ∧
      ((q.state ≠ .guided ∨ ∀ b, q.guardBy = some b → s.dcu.beat < b) →
        exec (.guardDeadlineExpiry p) s = .next (s.drop (.guardDeadlineExpiry p))) ∧
      ((q.state ≠ .seeking ∨ ∀ b, q.retryAt = some b → s.dcu.beat < b) →
        exec (.retryAfterExpiry p) s = .next (s.drop (.retryAfterExpiry p)))) ∧
  (∀ (f : OwnedFrame) (a : AskBody) (s : State), f.owner = .dsu → f.body = .ask a →
      s.findRecord a.pallet = none → s.toldFailed f = s) ∧
  (∀ (p i b : Nat) (q : PalletRecord) (s : State), s.resetLine = false → s.findRecord p = some i →
    s.slotAt i = .record q → q.state = .asked → q.answerBy = some b → b ≤ s.dcu.beat →
    exec (.answerDeadlineExpiry p) s = .next ((s.drop (.answerDeadlineExpiry p)).beginSearch i
      { q with state := .seeking, seq := none, target := none, place := none, askKind := none,
               owedAsk := none, answerBy := none, guardBy := none, retryAt := none, search := none })) ∧
  (∀ (p i b : Nat) (q : PalletRecord) (s : State), s.resetLine = false → s.findRecord p = some i →
    s.slotAt i = .record q → q.state = .guided → q.guardBy = some b → b ≤ s.dcu.beat →
    exec (.guardDeadlineExpiry p) s = .next (((s.drop (.guardDeadlineExpiry p)).setSlot i
      (.record { q with state := .orphan, guardBy := none })).hand (.noticeRaise .orphan))) ∧
  (∀ (p i b : Nat) (q : PalletRecord) (s : State), s.resetLine = false → s.findRecord p = some i →
    s.slotAt i = .record q → q.state = .seeking → q.retryAt = some b → b ≤ s.dcu.beat →
    exec (.retryAfterExpiry p) s =
      .next ((s.drop (.retryAfterExpiry p)).beginSearch i { q with retryAt := none })) ∧
  (∀ (p i : Nat) (ind : Indication) (q : PalletRecord) (s : State), s.resetLine = false →
    s.findRecord p = some i → s.slotAt i = .record q → q.indication = some ind →
    exec (.shownReport p ind) s = .next ((s.drop (.shownReport p ind)).setSlot i
      (if q.state = .exception ∧ ind.name = .except then slotFreed q
       else .record { q with shown := true })) ∧
    exec (.droppedReport p ind) s =
      .next ((s.drop (.droppedReport p ind)).setSlot i (.record { q with shown := false }))) ∧
  (∀ (p i : Nat) (ind : Indication) (q : PalletRecord) (s : State), s.resetLine = false →
    s.findRecord p = some i → s.slotAt i = .record q → q.indication ≠ some ind →
    exec (.shownReport p ind) s = .next (s.drop (.shownReport p ind)) ∧
    exec (.droppedReport p ind) s = .next (s.drop (.droppedReport p ind))) ∧
  (∀ (k p b : Nat) (s : State), s.resetLine = false →
    exec (.askSequenceRequest k p b) s =
      .next { (s.drop (.askSequenceRequest k p b)).hand (.askSequenceReturn k p b s.dsu.seq) with
        dsu := { s.dsu with seq := (s.dsu.seq + 1) % 256,
                            borrowers := s.dsu.borrowers.setIfInBounds s.dsu.seq (some .mlu) } }) ∧
  (∀ (f : OwnedFrame) (a : AskBody) (i : Nat) (q : PalletRecord) (s : State), f.owner = .dsu →
    f.body = .ask a → s.findRecord a.pallet = some i → s.slotAt i = .record q →
    (q.state = .asked → q.target = some a.target → q.seq = some a.seq → s.toldFailed f = s.beginSearch i
      { q with state := .seeking, seq := none, target := none, place := none, askKind := none,
               owedAsk := none, answerBy := none, guardBy := none, retryAt := none, search := none }) ∧
    ((q.state ≠ .asked ∨ q.target ≠ some a.target ∨ q.seq ≠ some a.seq) → s.toldFailed f = s)) ∧
  (∀ (f : OwnedFrame) (x : ReleaseBody) (s : State), f.owner = .dsu → f.body = .release x →
    (∀ i q, s.findRecord x.pallet = some i → s.slotAt i = .record q →
      (q.owedRelease = none → s.toldFailed f = s.bump.setSlot i (.record { q with
        owedRelease := some { built := s.serial, target := f.target, body := x } })) ∧
      (q.owedRelease ≠ none → s.toldFailed f = s.bump)) ∧
    (s.findRecord x.pallet = none →
      (∀ i, s.freeSlot = some i → s.toldFailed f = s.bump.setSlot i (.lone
        { built := s.serial, target := f.target, body := x })) ∧
      (s.freeSlot = none → s.toldFailed f = s.bump)))

/-- O45. A GRANT guides, a REFUSE sends the record on or makes it wait, a RELEASE orphans or seeks again; that
a record made since counts as the one a RELEASE is owed on is the model's reading:
notes/assumptions/42.md. The order of one event's hand-overs, where no rule gives it, is the model's
choice: notes/assumptions/47.md (R69, R70, R71, R72, R74, R79, R31). -/
def Obligations.AnswersEndAsks : Prop :=
  (∀ (n : Nat) (w : Borrower) (s : State),
      borrowerOf s n = some w ↔ s.dsu.borrowers[n]? = some (some w)) ∧
  (∀ q : PalletRecord, seekingAgain q = { q with
      state := .seeking, seq := none, target := none, place := none, askKind := none, owedAsk := none
      answerBy := none, guardBy := none, retryAt := none, search := none }) ∧
  (∀ (b i : Nat) (g : GrantBody) (q : PalletRecord) (s : State), s.resetLine = false →
    s.findRecord g.pallet = some i → s.slotAt i = .record q → q.state = .asked → q.target = some b →
    q.seq = some g.seq → q.askKind = some (placeKind g.place) →
    exec (.dsuGrant b g) s = .next (((s.drop (.dsuGrant b g)).setSlot i (.record
      { q with
        state := .guided, answerBy := none, owedAsk := none, place := some g.place
        guardBy := some (s.dcu.beat + g.hold + s.scu.config.guardMargin)
        indication := some (indicationOf s.own (guideName g.place b)), shown := false })).hand
      (.indicationRequest { source := .dsu, indication := indicationOf s.own (guideName g.place b),
                            pallet := some q.pallet }))) ∧
  (∀ (b : Nat) (g : GrantBody) (s : State), s.resetLine = false → s.findRecord g.pallet = none →
    (borrowerOf s g.seq = some .mlu →
      exec (.dsuGrant b g) s = .next (s.drop (.dsuGrant b g))) ∧
    (borrowerOf s g.seq ≠ some .mlu → s.offerResult = .placed →
      exec (.dsuGrant b g) s = .next ((s.bump.drop (.dsuGrant b g)).placeFrame (.owned
        { owner := .dsu, built := s.serial, target := b, body := .release
            { pallet := g.pallet, asker := s.own, seq := g.seq, reason := .late } }))) ∧
    (borrowerOf s g.seq ≠ some .mlu → ∃ t, exec (.dsuGrant b g) s = .next t ∧
      (s.offerResult ≠ .placed → DsuReleaseRefused s (s.drop (.dsuGrant b g)) t b
        { pallet := g.pallet, asker := s.own, seq := g.seq, reason := .late }))) ∧
  (∀ (b i : Nat) (g : GrantBody) (q : PalletRecord) (s : State), s.resetLine = false →
    s.findRecord g.pallet = some i → s.slotAt i = .record q → q.state = .guided → q.target = some b →
    q.place.map placeKind = some (placeKind g.place) →
    exec (.dsuGrant b g) s = .next (s.drop (.dsuGrant b g))) ∧
  (∀ (b i : Nat) (g : GrantBody) (q : PalletRecord) (s : State), s.resetLine = false →
    s.findRecord g.pallet = some i → s.slotAt i = .record q →
    (q.state = .asked → q.target = some b → q.seq ≠ some g.seq →
      q.askKind = some (placeKind g.place) →
      exec (.dsuGrant b g) s = .next (s.drop (.dsuGrant b g))) ∧
    ((q.state ≠ .asked ∨ q.target ≠ some b ∨ q.askKind ≠ some (placeKind g.place)) →
      (q.state ≠ .guided ∨ q.target ≠ some b ∨ q.place.map placeKind ≠ some (placeKind g.place)) →
      (borrowerOf s g.seq = some .mlu → exec (.dsuGrant b g) s = .next (s.drop (.dsuGrant b g))) ∧
      (borrowerOf s g.seq ≠ some .mlu → s.offerResult = .placed →
        exec (.dsuGrant b g) s = .next ((s.bump.drop (.dsuGrant b g)).placeFrame (.owned
          { owner := .dsu, built := s.serial, target := b, body := .release
              { pallet := g.pallet, asker := s.own, seq := g.seq, reason := .late } }))) ∧
      (borrowerOf s g.seq ≠ some .mlu → ∃ t, exec (.dsuGrant b g) s = .next t ∧
        (s.offerResult ≠ .placed → DsuReleaseRefused s (s.drop (.dsuGrant b g)) t b
          { pallet := g.pallet, asker := s.own, seq := g.seq, reason := .late })))) ∧
  (∀ (b i : Nat) (x : RefuseBody) (q : PalletRecord) (s : State), s.resetLine = false →
    s.findRecord x.pallet = some i → s.slotAt i = .record q → q.state = .asked → q.target = some b →
    q.seq = some x.seq →
    ((x.reason = .busy ∨ x.reason = .held) → exec (.dsuRefuse b x) s =
      .next ((s.drop (.dsuRefuse b x)).setSlot i (.record
        { seekingAgain q with retryAt := some (s.dcu.beat + 2) }))) ∧
    (x.reason ≠ .busy → x.reason ≠ .held → q.excluded.length < 4 → b ∉ q.excluded →
      exec (.dsuRefuse b x) s = .next ((s.drop (.dsuRefuse b x)).beginSearch i
        { seekingAgain q with excluded := q.excluded ++ [b] })) ∧
    (x.reason ≠ .busy → x.reason ≠ .held → 4 ≤ q.excluded.length → exec (.dsuRefuse b x) s =
      .next ((s.drop (.dsuRefuse b x)).toException i (seekingAgain q)))) ∧
  (∀ (b i : Nat) (x : ReleaseBody) (q : PalletRecord) (s : State), s.resetLine = false →
    s.findRecord x.pallet = some i → s.slotAt i = .record q → q.target = some b → q.seq = some x.seq →
    x.reason ≠ .late → x.reason ≠ .cancel →
    (q.state = .guided → exec (.dsuRelease b x) s = .next (((s.drop (.dsuRelease b x)).setSlot i
      (.record { q with state := .orphan, guardBy := none })).hand (.noticeRaise .orphan))) ∧
    (q.state = .asked → exec (.dsuRelease b x) s =
      .next ((s.drop (.dsuRelease b x)).beginSearch i (seekingAgain q))) ∧
    (q.state ≠ .guided → q.state ≠ .asked →
      exec (.dsuRelease b x) s = .next (s.drop (.dsuRelease b x)))) ∧
  (∀ (b : Nat) (x : RefuseBody) (y : ReleaseBody) (s : State), s.resetLine = false →
    (s.findRecord x.pallet = none → exec (.dsuRefuse b x) s = .next (s.drop (.dsuRefuse b x))) ∧
    (s.findRecord y.pallet = none → exec (.dsuRelease b y) s = .next (s.drop (.dsuRelease b y))) ∧
    (y.reason = .late ∨ y.reason = .cancel →
      exec (.dsuRelease b y) s = .next (s.drop (.dsuRelease b y)))) ∧
  (∀ (b i p : Nat) (q : PalletRecord) (s : State), s.resetLine = false → s.findRecord p = some i →
    s.slotAt i = .record q →
    (∀ x, x.pallet = p → (q.state ≠ .asked ∨ q.target ≠ some b ∨ q.seq ≠ some x.seq) →
      exec (.dsuRefuse b x) s = .next (s.drop (.dsuRefuse b x))) ∧
    (∀ y, y.pallet = p → (q.target ≠ some b ∨ q.seq ≠ some y.seq) →
      exec (.dsuRelease b y) s = .next (s.drop (.dsuRelease b y)))) ∧
  (∀ b row sd tier lane, guideName (.trailer row sd tier) b = .goDoor b ∧
    guideName (.lane lane) b = .goRemoteLane b) ∧
  ∀ q : PalletRecord, (seekingAgain q).state = .seeking ∧ (seekingAgain q).seq = none ∧
    (seekingAgain q).target = none ∧ (seekingAgain q).owedAsk = none ∧
    (seekingAgain q).answerBy = none ∧ (seekingAgain q).retryAt = none ∧
    (seekingAgain q).excluded = q.excluded ∧ (seekingAgain q).trailerAsks = q.trailerAsks ∧
    (seekingAgain q).totalAsks = q.totalAsks ∧ (seekingAgain q).owedRelease = q.owedRelease

/-- O46. A PLACED frees its record, and a restart, an aborted CLOSE or a lapsed self-put orphans those guided
there; that a record made since counts as the one a RELEASE is owed on is the model's reading:
notes/assumptions/42.md (R74, R75, R76, R79, R31). -/
def Obligations.PlacingsFreeRecords : Prop :=
  (∀ (b p asker : Nat) (x : PlacedBody) (place : Place) (reason : ReleaseReason) (s : State),
      s.resetLine = false →
      (s.findRecord x.pallet = none → exec (.dsuPlaced b x) s = .next (s.drop (.dsuPlaced b x))) ∧
      (s.findRecord p = none →
        exec (.placedNote p asker place) s = .next (s.drop (.placedNote p asker place)) ∧
        exec (.selfPutRelease p reason) s = .next (s.drop (.selfPutRelease p reason)))) ∧
  (∀ (p i : Nat) (reason : ReleaseReason) (q : PalletRecord) (s : State), s.resetLine = false →
      s.findRecord p = some i → s.slotAt i = .record q → (q.state ≠ .guided ∨ q.seq ≠ none) →
      exec (.selfPutRelease p reason) s = .next (s.drop (.selfPutRelease p reason))) ∧
  (∀ (b i : Nat) (x : PlacedBody) (q : PalletRecord) (s : State), s.resetLine = false →
    s.findRecord x.pallet = some i → s.slotAt i = .record q →
    (q.state ≠ .guided ∨ q.target = some b ∧ q.place.map placeKind = some (placeKind x.place)) →
    exec (.dsuPlaced b x) s = .next ((s.drop (.dsuPlaced b x)).setSlot i (slotFreed q))) ∧
  (∀ (p asker i : Nat) (place : Place) (q : PalletRecord) (s : State), s.resetLine = false →
    s.findRecord p = some i → s.slotAt i = .record q →
    (q.state ≠ .guided ∨ q.target = some s.own ∧ q.place.map placeKind = some (placeKind place)) →
    exec (.placedNote p asker place) s =
      .next ((s.drop (.placedNote p asker place)).setSlot i (slotFreed q))) ∧
  (∀ (b i : Nat) (x : PlacedBody) (q : PalletRecord) (s : State), s.resetLine = false →
    s.findRecord x.pallet = some i → s.slotAt i = .record q → q.state = .guided →
    (q.target ≠ some b ∨ q.place.map placeKind ≠ some (placeKind x.place)) →
    (q.seq = none → exec (.dsuPlaced b x) s =
      .next (((s.drop (.dsuPlaced b x)).setSlot i (slotFreed q)).hand (.selfPutCancel q.pallet))) ∧
    (∀ n c, q.seq = some n → q.target = some c → s.offerResult = .placed →
      exec (.dsuPlaced b x) s =
        .next (((s.bump.drop (.dsuPlaced b x)).setSlot i (slotFreed q)).placeFrame (.owned
        { owner := .dsu, built := s.serial, target := c, body := .release
            { pallet := q.pallet, asker := s.own, seq := n, reason := .cancel } }))) ∧
    (∀ n c, q.seq = some n → q.target = some c → ∃ t, exec (.dsuPlaced b x) s = .next t ∧
      (s.offerResult ≠ .placed →
        DsuReleaseRefused s ((s.drop (.dsuPlaced b x)).setSlot i (slotFreed q)) t c
          { pallet := q.pallet, asker := s.own, seq := n, reason := .cancel }))) ∧
  (∀ (p asker i : Nat) (place : Place) (q : PalletRecord) (s : State), s.resetLine = false →
    s.findRecord p = some i → s.slotAt i = .record q → q.state = .guided →
    (q.target ≠ some s.own ∨ q.place.map placeKind ≠ some (placeKind place)) →
    (q.seq = none → exec (.placedNote p asker place) s =
      .next (((s.drop (.placedNote p asker place)).setSlot i (slotFreed q)).hand
        (.selfPutCancel q.pallet))) ∧
    (∀ n c, q.seq = some n → q.target = some c → s.offerResult = .placed →
      exec (.placedNote p asker place) s =
        .next (((s.bump.drop (.placedNote p asker place)).setSlot i (slotFreed q)).placeFrame (.owned
        { owner := .dsu, built := s.serial, target := c, body := .release
            { pallet := q.pallet, asker := s.own, seq := n, reason := .cancel } }))) ∧
    (∀ n c, q.seq = some n → q.target = some c → ∃ t, exec (.placedNote p asker place) s = .next t ∧
      (s.offerResult ≠ .placed →
        DsuReleaseRefused s ((s.drop (.placedNote p asker place)).setSlot i (slotFreed q)) t c
          { pallet := q.pallet, asker := s.own, seq := n, reason := .cancel }))) ∧
  (∀ (b : Nat) (s : State), s.resetLine = false →
    ∃ t, exec (.dsuRestartAdvert b) s = .next t ∧
      t.handed = (s.drop (.dsuRestartAdvert b)).handed ++
        List.replicate (recordsWhere s fun q => decide (q.state = .guided ∧ q.target = some b))
          (.noticeRaise .orphan) ∧
      ∀ i, i < 8 → t.slotAt i = match s.slotAt i with
        | .record q => if q.state = .guided ∧ q.target = some b then
            .record { q with state := .orphan, guardBy := none } else .record q
        | .free => .free
        | .lone o => .lone o) ∧
  (∀ (b : Nat) (x : CloseBody) (s : State), s.resetLine = false → x.aborted = true →
    ∃ t, exec (.dsuClose b x) s = .next t ∧
      t.handed = (s.drop (.dsuClose b x)).handed ++
        List.replicate (recordsWhere s fun q => decide (q.state = .guided ∧ q.target = some b ∧
          q.place.map placeKind = some .trailer)) (.noticeRaise .orphan) ∧
      ∀ i, i < 8 → t.slotAt i = match s.slotAt i with
        | .record q => if q.state = .guided ∧ q.target = some b ∧
              q.place.map placeKind = some .trailer then
            .record { q with state := .orphan, guardBy := none } else .record q
        | .free => .free
        | .lone o => .lone o) ∧
  (∀ (b : Nat) (x : CloseBody) (s : State), s.resetLine = false → x.aborted = false →
    exec (.dsuClose b x) s = .next (s.drop (.dsuClose b x))) ∧
  (∀ (p i : Nat) (reason : ReleaseReason) (q : PalletRecord) (s : State), s.resetLine = false →
    s.findRecord p = some i → s.slotAt i = .record q → q.state = .guided → q.seq = none →
    exec (.selfPutRelease p reason) s = .next (((s.drop (.selfPutRelease p reason)).setSlot i
      (.record { q with state := .orphan, guardBy := none })).hand (.noticeRaise .orphan)))

/-- O47. The rounded loads follow the five steps, and every rounded check agrees with the exact load (R106,
R108). -/
def Obligations.LoadsAreRoundedUp : Prop :=
  (∀ (c : TrailerClass) (payload moment : Int), 0 < c.l →
    ∃ qlo qhi : Int, qlo * c.l ≤ moment ∧ moment < (qlo + 1) * c.l ∧
      (qhi - 1) * c.l < moment ∧ moment ≤ qhi * c.l ∧
      (c.l ∣ moment → qhi = qlo) ∧ (¬ c.l ∣ moment → qhi = qlo + 1) ∧
      (loadsOf c payload moment).bogie = c.b0 + qhi ∧
      (loadsOf c payload moment).kingpin = c.k0 + payload - qlo ∧
      (loadsOf c payload moment).gross = c.k0 + c.b0 + payload ∧
      (loadsOf c payload moment).bogie + (loadsOf c payload moment).kingpin =
        (loadsOf c payload moment).gross + (qhi - qlo)) ∧
  (∀ (c : TrailerClass) (payload moment x : Int), 0 < c.l →
    ((loadsOf c payload moment).bogie ≤ x ↔ c.b0 * c.l + moment ≤ x * c.l) ∧
    ((loadsOf c payload moment).kingpin ≤ x ↔ (c.k0 + payload) * c.l - moment ≤ x * c.l)) ∧
  (∀ (c : TrailerClass) (payload moment : Int) (row w : Nat), 0 < c.l →
    (axlesFit c payload moment row w = true ↔
      c.b0 * c.l + (moment + w * rowDistance c row) ≤ c.bmax * c.l ∧
      (c.k0 + (payload + w)) * c.l - (moment + w * rowDistance c row) ≤ c.kmax * c.l) ∧
    (grossFits c payload w = true ↔ c.k0 + c.b0 + (payload + w) ≤ c.gmax) ∧
    (overLoaded c payload moment = true ↔ c.gmax < c.k0 + c.b0 + payload ∨
      c.bmax * c.l < c.b0 * c.l + moment ∨ c.kmax * c.l < (c.k0 + payload) * c.l - moment)) ∧
  (∀ s : State, s.ready = true → s.plan.state ≠ .absent →
    ∃ t r, exec .readPlan s = .next t ∧
      t.scu.answer = some { request := .readPlan, code := .ok, data := .plan r } ∧
      r.loads = loadsOf s.planClass s.plan.payload s.plan.moment) ∧
  (∀ (s : State) (aborted : Bool),
    (closingRecordOf s aborted).body.gross = (loadsOf s.planClass s.plan.payload s.plan.moment).gross ∧
    (closingRecordOf s aborted).body.kingpin =
      (loadsOf s.planClass s.plan.payload s.plan.moment).kingpin ∧
    (closingRecordOf s aborted).body.bogie = (loadsOf s.planClass s.plan.payload s.plan.moment).bogie)

/-- O48. An ask for a trailer place is judged by the five checks in their order (R114, R115, R116, R91). -/
def Obligations.PlaceAsksAreJudged : Prop :=
  (∀ (p : Plan) (pallet : Nat),
    (∀ x, findInPlan p pallet = some x → 1 ≤ x.row ∧ x.row ≤ 13 ∧
      (stackAt p x.row x.side)[x.beneath]? = some x.tier ∧
      ((∃ l, x.tier = .landed l ∧ l.pallet = pallet) ∨ ∃ r, x.tier = .reserved r ∧ r.pallet = pallet)) ∧
    (findInPlan p pallet = none → ∀ row sd, 1 ≤ row → row ≤ 13 →
      (∀ l, .landed l ∈ stackAt p row sd → l.pallet ≠ pallet) ∧
      ∀ r, .reserved r ∈ stackAt p row sd → r.pallet ≠ pallet)) ∧
  (∀ (b : Nat) (x : AskBody) (a : OwnAsk),
    placeAskOf b x = { asker := b, seq := some x.seq, pallet := x.pallet, dest := x.dest
                       weight := x.weight, height := x.height, stackable := x.stackable } ∧
    placeAskOfOwn a = { asker := 0, seq := none, pallet := a.pallet, dest := a.dest, weight := a.weight
                        height := a.height, stackable := a.stackable }) ∧
  (∀ (a : PlaceAsk) (s : State),
    (s.dcu.bayState ≠ some .outbound ∨ s.plan.state ≠ .opened) → judgeAsk s a = .refuse .closed) ∧
  (∀ (a : PlaceAsk) (ph : Phase) (s : State), s.dcu.bayState = some .outbound →
    s.plan.state = .opened → s.plan.phase = some ph →
    (1 ≤ a.dest → a.dest ≤ 999 →
      (ph = .far ∧ a.dest = s.plan.near ∧ s.plan.far ≠ none ∧ s.plan.far ≠ some a.dest ∨
        ph = .near ∧ s.plan.far = some a.dest ∧ a.dest ≠ s.plan.near) →
      judgeAsk s a = .refuse .order) ∧
    ((a.dest = 0 ∨ 999 < a.dest ∨ a.dest ≠ s.plan.near ∧ s.plan.far ≠ some a.dest) →
      judgeAsk s a = .refuse .wrongDest)) ∧
  (∀ (a : PlaceAsk) (ph : Phase) (s : State), s.dcu.bayState = some .outbound →
    s.plan.state = .opened → s.plan.phase = some ph → 1 ≤ a.dest → a.dest ≤ 999 →
    (ph = .far → s.plan.far = some a.dest) → (ph = .near → a.dest = s.plan.near) →
    (∀ x r, findInPlan s.plan a.pallet = some x → x.tier = .reserved r → r.asker = a.asker →
      judgeAsk s a = .regrant x.row x.side (x.beneath + 1) r) ∧
    (∀ x, findInPlan s.plan a.pallet = some x → (∀ r, x.tier = .reserved r → r.asker ≠ a.asker) →
      judgeAsk s a = .refuse .duplicate) ∧
    (findInPlan s.plan a.pallet = none →
      (s.dcu.suspended = true ∨ s.plan.overLimit = true ∨ s.plan.mismatch = true) →
      judgeAsk s a = .refuse .held) ∧
    (findInPlan s.plan a.pallet = none → s.dcu.suspended = false → s.plan.overLimit = false →
      s.plan.mismatch = false →
      ((a.weight = 0 ∨ 1500 < a.weight) → judgeAsk s a = .refuse .gross) ∧
      (1 ≤ a.weight → a.weight ≤ 1500 →
        (∀ row sd tier, searchSpot s.planClass s.plan a.weight a.height a.stackable =
          .spot row sd tier → judgeAsk s a = .grant row sd tier ph) ∧
        (∀ reason, searchSpot s.planClass s.plan a.weight a.height a.stackable = .nowhere reason →
          judgeAsk s a = .refuse reason))))

/-- O49. The search names the first band position that fits, or the reason why none does (R88, R89, R90, R107,
R85, R86, R102). -/
def Obligations.SpotsAreTheFirstThatFit : Prop :=
  (∀ (p : Plan) (row : Nat), stackAt p row .left = (p.floorStacks[2 * (row - 1)]?).getD [] ∧
      stackAt p row .right = (p.floorStacks[2 * (row - 1) + 1]?).getD []) ∧
  (∀ y : Tier, isReserved y = true ↔ ∃ r, y = .reserved r) ∧
  (∀ (c : TrailerClass) (h : HeightClass) (stackable : Bool) (w : Option Nat) (st : List Tier),
    isCandidate c h stackable w st = true ↔
      (∀ x ∈ st, ∃ l, x = .landed l) ∧ st.length < 3 ∧ stackHeight st + nominalHeight h ≤ c.h ∧
      ∀ x, st.getLast? = some x → stackable = true ∧
        ∃ l, x = .landed l ∧ l.stackable = true ∧ ∀ n, w = some n → n ≤ l.grant) ∧
  (∀ (c : TrailerClass) (h : HeightClass) (stackable : Bool) (w : Nat) (st : List Tier),
    reservationBlocked c h stackable w st = true ↔
      (∃ r, st.getLast? = some (.reserved r)) ∧ isCandidate c h stackable (some w) st.dropLast = true) ∧
  (nominalHeight .full = 2200 ∧ nominalHeight .half = 1100 ∧ nominalHeight .quarter = 800 ∧
    nominalHeight .mini = 600 ∧ stackHeight [] = 0 ∧
    (∀ l st, stackHeight (.landed l :: st) = nominalHeight l.height + stackHeight st) ∧
    ∀ r st, stackHeight (.reserved r :: st) = nominalHeight r.height + stackHeight st) ∧
  (openBand 0 = [1] ∧ openBand 13 = [13] ∧ ∀ face, 1 ≤ face → face ≤ 12 → openBand face = [face, face + 1]) ∧
  (∀ p : Plan, bandPositions p =
    ((openBand p.face).map fun row => [(row, Side.left), (row, Side.right)]).flatten) ∧
  (∀ p : Plan, (∀ row sd l, 1 ≤ row → row ≤ 13 → .landed l ∈ stackAt p row sd → row ≤ faceOf p) ∧
    (faceOf p ≠ 0 → faceOf p ≤ 13 ∧ ∃ sd l, .landed l ∈ stackAt p (faceOf p) sd)) ∧
  (∀ (c : TrailerClass) (row : Nat), c.p % 2 = 0 →
    2 * rowDistance c row = 2 * c.d + c.p * (2 * (row : Int) - 1)) ∧
  (∀ (c : TrailerClass) (p : Plan) (w : Nat) (h : HeightClass) (stackable : Bool) (row : Nat) (sd : Side)
    (tier : Nat), searchSpot c p w h stackable = .spot row sd tier →
    row ∈ openBand p.face ∧ (∀ x ∈ stackAt p row sd, isReserved x = false) ∧
      tier = (stackAt p row sd).length + 1 ∧ tier ≤ 3 ∧
      stackHeight (stackAt p row sd) + nominalHeight h ≤ c.h ∧
      (∀ x, (stackAt p row sd).getLast? = some x → stackable = true ∧
        ∃ l, x = .landed l ∧ l.stackable = true ∧ w ≤ l.grant) ∧
      (loadsOf c (p.payload + w) (p.moment + w * rowDistance c row)).gross ≤ c.gmax ∧
      (loadsOf c (p.payload + w) (p.moment + w * rowDistance c row)).bogie ≤ c.bmax ∧
      (loadsOf c (p.payload + w) (p.moment + w * rowDistance c row)).kingpin ≤ c.kmax ∧
      ∀ pos ∈ bandPositions p, isCandidate c h stackable (some w) (stackAt p pos.1 pos.2) = true →
        axlesFit c p.payload p.moment pos.1 w = true →
        row < pos.1 ∨ row = pos.1 ∧ (sd = .right → pos.2 = .right)) ∧
  (∀ (c : TrailerClass) (p : Plan) (w : Nat) (h : HeightClass) (stackable : Bool) (reason : RefuseReason),
    searchSpot c p w h stackable = .nowhere reason →
    (reason = .busy ∧
        (∀ pos ∈ bandPositions p, isCandidate c h stackable (some w) (stackAt p pos.1 pos.2) = false) ∧
        ∃ pos ∈ bandPositions p, reservationBlocked c h stackable w (stackAt p pos.1 pos.2) = true) ∨
      (reason = .full ∧
        (∀ pos ∈ bandPositions p, isCandidate c h stackable (some w) (stackAt p pos.1 pos.2) = false) ∧
        ∀ pos ∈ bandPositions p, reservationBlocked c h stackable w (stackAt p pos.1 pos.2) = false) ∨
      (reason = .gross ∧
        (∃ pos ∈ bandPositions p, isCandidate c h stackable (some w) (stackAt p pos.1 pos.2) = true) ∧
        c.gmax < c.k0 + c.b0 + (p.payload + w)) ∨
      (reason = .axle ∧
        (∃ pos ∈ bandPositions p, isCandidate c h stackable (some w) (stackAt p pos.1 pos.2) = true) ∧
        c.k0 + c.b0 + (p.payload + w) ≤ c.gmax ∧
        ∀ pos ∈ bandPositions p, isCandidate c h stackable (some w) (stackAt p pos.1 pos.2) = true →
          axlesFit c p.payload p.moment pos.1 w = false))

/-- O50. A granted ask reserves its place and counts in the sums; without room for the GRANT nothing is made;
that an offer is answered muted where it would also find no room is the model's choice:
notes/assumptions/8.md (R114, R115, R116, R87, R104, R112, R32, R33, R31). -/
def Obligations.GrantsReserveAPlace : Prop :=
  (∀ (p : Plan) (s : State), s.plan = s.lpu.plan ∧ s.setPlan p = { s with lpu := { s.lpu with plan := p } }) ∧
  (∀ s : State, (s.offerResult = .muted ↔ s.fbi.mute = true) ∧
    (s.offerResult = .noRoom ↔ s.fbi.mute = false ∧ (s.dcu.bayState = none ∨
      s.dcu.bayState = some .listen ∨ s.dcu.bayState = some .unconfigured ∨ s.fbi.restartMark = true ∨
      12 ≤ s.fbi.tx.length)) ∧
    (s.offerResult ≠ .muted → s.offerResult ≠ .noRoom → s.offerResult = .placed)) ∧
  (∀ (o : Outgoing) (s : State), s.placeFrame o = { s with fbi := { s.fbi with
    tx := s.fbi.tx ++ [o]
    transmitter := if s.fbi.transmitter = .idle then .deferring else s.fbi.transmitter } }) ∧
  (∀ (c : TrailerClass) (p : Plan) (row : Nat) (w : Int), addWeight c p row w =
    { p with payload := p.payload + w, moment := p.moment + w * (c.d + c.p * (row : Int) - c.p / 2) }) ∧
  (∀ (c : TrailerClass) (payload : Int),
    (c.gmax ≤ c.k0 + c.b0 + payload → grossMargin c payload = 0) ∧
    (c.k0 + c.b0 + payload < c.gmax → c.gmax ≤ c.k0 + c.b0 + payload + 65535 →
      (grossMargin c payload : Int) = c.gmax - (c.k0 + c.b0 + payload)) ∧
    (c.k0 + c.b0 + payload + 65535 < c.gmax → grossMargin c payload = 65535)) ∧
  (∀ (p : Plan) (row : Nat) (sd : Side) (y : Tier) (st : List Tier), 1 ≤ row → row ≤ 13 →
    stackAt (pushTier p row sd y) row sd = stackAt p row sd ++ [y] ∧ stackAt (setStack p row sd st) row sd = st ∧
    ∀ row' sd', 1 ≤ row' → (row', sd') ≠ (row, sd) →
      stackAt (pushTier p row sd y) row' sd' = stackAt p row' sd' ∧
      stackAt (setStack p row sd st) row' sd' = stackAt p row' sd') ∧
  (∀ (b : Nat) (x : AskBody) (reason : RefuseReason) (s : State), s.resetLine = false →
    judgeAsk s (placeAskOf b x) = .refuse reason →
    (s.offerResult = .placed → exec (.lpuAsk b x) s = .next ((s.bump.drop (.lpuAsk b x)).placeFrame (.owned
      { owner := .lpu, built := s.serial, target := b, body := .refuse
          { asker := b, seq := x.seq, pallet := x.pallet, reason := reason } }))) ∧
    (s.offerResult ≠ .placed → exec (.lpuAsk b x) s = .next (s.drop (.lpuAsk b x)))) ∧
  (∀ (b row tier : Nat) (sd : Side) (x : AskBody) (r : Reservation) (s : State), s.resetLine = false →
    judgeAsk s (placeAskOf b x) = .regrant row sd tier r →
    (s.offerResult = .placed → exec (.lpuAsk b x) s = .next (((s.bump.drop (.lpuAsk b x)).setPlan
      (setStack s.plan row sd ((stackAt s.plan row sd).dropLast ++
        [.reserved { r with seq := some x.seq }]))).placeFrame (.owned
      { owner := .lpu, built := s.serial, target := b, body := .grant
          { asker := b, seq := x.seq, pallet := x.pallet, place := .trailer row sd tier
            hold := r.expiry - s.dcu.beat, margin := s.planMargin } }))) ∧
    (s.offerResult ≠ .placed → exec (.lpuAsk b x) s = .next (s.drop (.lpuAsk b x)))) ∧
  (∀ (b row tier : Nat) (sd : Side) (drop : Phase) (x : AskBody) (s : State), s.resetLine = false →
    PlanFits s.plan → judgeAsk s (placeAskOf b x) = .grant row sd tier drop →
    (s.offerResult = .placed → ∃ p : Plan, p.overLimit = false ∧
      p = addWeight s.planClass (pushTier { s.plan with overLimit := false } row sd (.reserved
        { pallet := x.pallet, asker := b, seq := some x.seq, grant := x.weight, height := x.height
          stackable := x.stackable, drop := drop, expiry := s.dcu.beat + s.scu.config.holdBeats }))
        row x.weight ∧
      exec (.lpuAsk b x) s = .next (((s.bump.drop (.lpuAsk b x)).setPlan p).placeFrame (.owned
        { owner := .lpu, built := s.serial, target := b, body := .grant
            { asker := b, seq := x.seq, pallet := x.pallet, place := .trailer row sd tier
              hold := s.scu.config.holdBeats
              margin := grossMargin s.planClass (s.plan.payload + x.weight) } }))) ∧
    (s.offerResult ≠ .placed → exec (.lpuAsk b x) s = .next (s.drop (.lpuAsk b x)))) ∧
  (∀ (a : OwnAsk) (reason : RefuseReason) (s : State), s.resetLine = false →
    judgeAsk s (placeAskOfOwn a) = .refuse reason →
    exec (.ownTrailerAsk a) s =
      .next ((s.drop (.ownTrailerAsk a)).hand (.ownTrailerAnswer a.pallet (.refused reason)))) ∧
  (∀ (row tier : Nat) (sd : Side) (a : OwnAsk) (r : Reservation) (s : State), s.resetLine = false →
    judgeAsk s (placeAskOfOwn a) = .regrant row sd tier r →
    exec (.ownTrailerAsk a) s = .next ((s.drop (.ownTrailerAsk a)).hand
      (.ownTrailerAnswer a.pallet (.granted row sd tier (r.expiry - s.dcu.beat))))) ∧
  (∀ (row tier : Nat) (sd : Side) (drop : Phase) (a : OwnAsk) (s : State), s.resetLine = false →
    PlanFits s.plan → judgeAsk s (placeAskOfOwn a) = .grant row sd tier drop →
    ∃ p : Plan, p.overLimit = false ∧
      p = addWeight s.planClass (pushTier { s.plan with overLimit := false } row sd (.reserved
        { pallet := a.pallet, asker := 0, seq := none, grant := a.weight, height := a.height
          stackable := a.stackable, drop := drop, expiry := s.dcu.beat + s.scu.config.holdBeats }))
        row a.weight ∧
      exec (.ownTrailerAsk a) s = .next (((s.drop (.ownTrailerAsk a)).setPlan p).hand
        (.ownTrailerAnswer a.pallet (.granted row sd tier s.scu.config.holdBeats))))

/-- O51. A reservation that expires or is given up by its asker leaves its stack and the sums; the order of
one event's hand-overs, where no rule gives it, is the model's choice: notes/assumptions/47.md (R117,
R119, R118, R22, R87, R104, R125, R130, R31). -/
def Obligations.ReservationsEnd : Prop :=
  (∀ (p : Nat) (reason : ReleaseReason) (s : State), s.resetLine = false →
      (s.findReservation p = none → exec (.reservationExpiry p) s = .next (s.drop (.reservationExpiry p))) ∧
      ((∀ row sd r, s.findReservation p = some (row, sd, r) → r.asker ≠ 0) →
        exec (.ownDrainRelease p reason) s = .next (s.drop (.ownDrainRelease p reason)))) ∧
  (∀ (c : TrailerClass) (p : Plan), (withOver c p).overLimit = overLoaded c p.payload p.moment ∧
    { withOver c p with overLimit := p.overLimit } = p) ∧
  (∀ (row grant : Nat) (sd : Side) (s : State), 1 ≤ row → row ≤ 13 →
    (planWithoutTop s row sd grant).payload = s.plan.payload - (grant : Int) ∧
    (planWithoutTop s row sd grant).moment = s.plan.moment - (grant : Int) * rowDistance s.planClass row ∧
    stackAt (planWithoutTop s row sd grant) row sd = (stackAt s.plan row sd).dropLast ∧
    (∀ row' sd', 1 ≤ row' → (row', sd') ≠ (row, sd) →
      stackAt (planWithoutTop s row sd grant) row' sd' = stackAt s.plan row' sd') ∧
    { planWithoutTop s row sd grant with floorStacks := s.plan.floorStacks, payload := s.plan.payload,
                                         moment := s.plan.moment } = s.plan) ∧
  (∀ (p row : Nat) (sd : Side) (r : Reservation) (s : State), s.findReservation p = some (row, sd, r) ↔
    ∃ x, findInPlan s.plan p = some x ∧ x.row = row ∧ x.side = sd ∧ x.tier = .reserved r) ∧
  (∀ (p row : Nat) (sd : Side) (r : Reservation) (s : State), s.resetLine = false → PlanFits s.plan →
    s.plan.state = .opened → s.findReservation p = some (row, sd, r) → r.expiry ≤ s.dcu.beat →
    ∃ t, exec (.reservationExpiry p) s = .next t ∧
      t.plan = withOver s.planClass (planWithoutTop s row sd r.grant) ∧
      (r.asker = 0 → t.fbi = s.fbi ∧ HandsOn (s.drop (.reservationExpiry p)) t
        (overRaised s.plan t.plan ++
          .ownTrailerAnswer r.pallet (.released .expired) :: closingReport s t.plan)) ∧
      (r.asker ≠ 0 → HandsOn (s.drop (.reservationExpiry p)) t
        (overRaised s.plan t.plan ++ closingReport s t.plan)) ∧
      (r.asker ≠ 0 → s.offerResult = .placed → t.fbi = (s.placeFrame (.owned
        { owner := .lpu, built := s.serial, target := r.asker, body := .release
            { pallet := r.pallet, asker := r.asker, seq := r.seq.getD 0, reason := .expired } })).fbi) ∧
      (r.asker ≠ 0 → s.offerResult = .noRoom → s.lpu.owed.length < 8 → t.fbi = s.fbi ∧
        t.lpu.owed = s.lpu.owed ++ [
          { owner := .lpu, built := s.serial, target := r.asker, body := .release
              { pallet := r.pallet, asker := r.asker, seq := r.seq.getD 0, reason := .expired } }]) ∧
      (r.asker ≠ 0 → FramesOffered s t s.lpu.owed t.lpu.owed [
        { owner := .lpu, built := s.serial, target := r.asker, body := .release
            { pallet := r.pallet, asker := r.asker, seq := r.seq.getD 0, reason := .expired } }])) ∧
  (∀ (p row : Nat) (sd : Side) (r : Reservation) (s : State), s.resetLine = false →
    s.findReservation p = some (row, sd, r) → s.dcu.beat < r.expiry →
    exec (.reservationExpiry p) s = .next (s.drop (.reservationExpiry p))) ∧
  (∀ (b row : Nat) (sd : Side) (x : ReleaseBody) (r : Reservation) (s : State), s.resetLine = false →
    PlanFits s.plan → s.plan.state = .opened → s.findReservation x.pallet = some (row, sd, r) →
    r.asker = x.asker → (x.reason = .late ∨ x.reason = .cancel) →
    ∃ t, exec (.lpuRelease b x) s = .next t ∧ t.fbi = s.fbi ∧
      t.plan = withOver s.planClass (planWithoutTop s row sd r.grant) ∧
      HandsOn (s.drop (.lpuRelease b x)) t (overRaised s.plan t.plan ++ closingReport s t.plan)) ∧
  (∀ (b : Nat) (x : ReleaseBody) (s : State), s.resetLine = false →
    (∀ row sd r, s.findReservation x.pallet = some (row, sd, r) → r.asker ≠ x.asker) →
    exec (.lpuRelease b x) s = .next (s.drop (.lpuRelease b x))) ∧
  (∀ (p row : Nat) (sd : Side) (reason : ReleaseReason) (r : Reservation) (s : State),
    s.resetLine = false → PlanFits s.plan → s.plan.state = .opened →
    s.findReservation p = some (row, sd, r) → r.asker = 0 → (reason = .late ∨ reason = .cancel) →
    ∃ t, exec (.ownDrainRelease p reason) s = .next t ∧ t.fbi = s.fbi ∧
      t.plan = withOver s.planClass (planWithoutTop s row sd r.grant) ∧
      HandsOn (s.drop (.ownDrainRelease p reason)) t (overRaised s.plan t.plan ++ closingReport s t.plan)) ∧
  (∀ (p : Nat) (reason : ReleaseReason) (s : State), s.resetLine = false → s.findReservation p = none →
    exec (.ownDrainRelease p reason) s = .next (s.drop (.ownDrainRelease p reason))) ∧
  (∀ (f : OwnedFrame) (g : GrantBody) (s : State), f.owner = .lpu → f.body = .grant g →
    (∀ row sd r, PlanFits s.plan → s.findReservation g.pallet = some (row, sd, r) → r.asker = g.asker →
      r.seq = some g.seq →
      (s.toldFailed f).fbi = s.fbi ∧
      (s.toldFailed f).plan = withOver s.planClass (planWithoutTop s row sd r.grant) ∧
      HandsOn s (s.toldFailed f)
        (overRaised s.plan (s.toldFailed f).plan ++ closingReport s (s.toldFailed f).plan)) ∧
    ((∀ row sd r, s.findReservation g.pallet = some (row, sd, r) →
      r.asker ≠ g.asker ∨ r.seq ≠ some g.seq) → s.toldFailed f = s))

/-- O52. A read into the trailer lands at its reservation, is a walk-in, or is stray; the order of the notes
of a placing, the DSU before the MLU, is the model's choice: notes/assumptions/47.md (R120, R121, R123,
R124, R125, R87, R104). -/
def Obligations.ReadsIntoTheTrailerLand : Prop :=
  (∀ (st : List Tier) (r : Reservation), topReservation st = some r ↔ st.getLast? = some (.reserved r)) ∧
  (∀ (p : Plan) (row : Nat) (sd : Side) (r : Reservation),
      ((row, sd, r) ∈ allReservations p ↔
        1 ≤ row ∧ row ≤ 13 ∧ (stackAt p row sd).getLast? = some (.reserved r)) ∧
      (PlanFits p → ((row, sd, r) ∈ allReservations p ↔
        1 ≤ row ∧ row ≤ 13 ∧ .reserved r ∈ stackAt p row sd))) ∧
  (∀ (p : Plan) (dest : Nat) (drop : Phase), judgeDest p dest = .accepted drop ↔
    p.phase = some drop ∧ 1 ≤ dest ∧ dest ≤ 999 ∧
      (drop = .far ∧ dest = p.far.getD 0 ∨ drop = .near ∧ dest = p.near)) ∧
  (∀ r : PalletRead, (∀ kg, r.scale = .ok kg → walkinWeight r = kg) ∧
    ((∀ kg, r.scale ≠ .ok kg) → walkinWeight r = classMaxWeight r.height)) ∧
  (∀ (c : TrailerClass) (p : Plan), (restow c p).plan.face = faceOf p ∧
    (∀ row sd, 1 ≤ row → row ≤ 13 → stackAt (restow c p).plan row sd =
      if row ∉ openBand (faceOf p) ∧ (topReservation (stackAt p row sd)).isSome then
        (stackAt p row sd).dropLast else stackAt p row sd) ∧
    (restow c p).plan.payload =
      p.payload - ((((restow c p).stranded.map Reservation.grant).sum : Nat) : Int) ∧
    (restow c p).plan.moment = p.moment - strandedMoment c p ∧
    (restow c p).plan.overLimit = overLoaded c (restow c p).plan.payload (restow c p).plan.moment ∧
    { (restow c p).plan with floorStacks := p.floorStacks, face := p.face, payload := p.payload
                             moment := p.moment, overLimit := p.overLimit } = p ∧
    (restow c p).stranded = ((allReservations p).filter fun y =>
      decide (y.1 ∉ openBand (faceOf p))).map (fun y => y.2.2) ∧
    (allReservations p).Pairwise fun y z => y.1 < z.1 ∨ y.1 = z.1 ∧ y.2.1 = .left ∧ z.2.1 = .right) ∧
  (∀ (r : PalletRead) (x : Standing) (res : Reservation) (m : Nat) (s : State), s.resetLine = false →
    findInPlan s.plan r.pallet = some x → x.tier = .reserved res →
    (∀ kg, r.scale = .ok kg → m = kg) → ((∀ kg, r.scale ≠ .ok kg) → m = res.grant) →
    ∃ t p, exec (.lpuDoorReadInto r) s = .next t ∧
      p = restow s.planClass (addWeight s.planClass (setStack s.plan x.row x.side
        ((stackAt s.plan x.row x.side).dropLast ++ [.landed
          { pallet := res.pallet, grant := res.grant, measured := m, height := res.height
            stackable := res.stackable, drop := res.drop, asker := res.asker }]))
        x.row ((m : Int) - (res.grant : Int))) ∧
      t.plan = p.plan ∧
      FramesOffered s t s.lpu.owed t.lpu.owed (
        { owner := .lpu, built := s.serial, target := 0, body := .placed
            { pallet := res.pallet, asker := res.asker, place := .trailer x.row x.side (x.beneath + 1)
              margin := (s.setPlan p.plan).planMargin } } ::
        releaseFrames .stranded (s.serial + 1) p.stranded) ∧
      HandsOn (s.drop (.lpuDoorReadInto r)) t (List.flatten
        [scaleRaised r.scale, overRaised s.plan p.plan,
         [.placedNote res.pallet res.asker (.trailer x.row x.side (x.beneath + 1)),
          .mluPlaced s.own { pallet := res.pallet, asker := res.asker
                             place := .trailer x.row x.side (x.beneath + 1)
                             margin := (s.setPlan p.plan).planMargin }],
         releaseAnswers .stranded p.stranded, closingReport s p.plan,
         [.indicationRequest { source := .lpu, pallet := none
                               indication := indicationOf s.own (.loadAt x.row x.side (x.beneath + 1)) }]])) ∧
  (∀ (r : PalletRead) (x : Standing) (l : Landed) (s : State), s.resetLine = false →
    findInPlan s.plan r.pallet = some x → x.tier = .landed l →
    exec (.lpuDoorReadInto r) s = .next ((s.drop (.lpuDoorReadInto r)).hand (.noticeRaise .strayRead))) ∧
  (∀ (r : PalletRead) (s : State), s.resetLine = false → findInPlan s.plan r.pallet = none →
    (s.dcu.bayState = some .closing ∨ s.plan.state ≠ .opened ∨
      (∀ drop, judgeDest s.plan r.dest ≠ .accepted drop) ∨ s.plan.overLimit = true ∨
      s.plan.mismatch = true ∨ r.scale = .overload ∨
      ∀ row sd tier, searchSpot s.planClass s.plan (walkinWeight r) r.height r.stackable ≠
        .spot row sd tier) →
    exec (.lpuDoorReadInto r) s = .next ((s.drop (.lpuDoorReadInto r)).handAll
      (scaleRaised r.scale ++ [.indicationRequest
        { source := .lpu, indication := indicationOf s.own .refused, pallet := none },
        .noticeRaise .walkinRefused]))) ∧
  (∀ (r : PalletRead) (row tier w : Nat) (sd : Side) (drop : Phase) (s : State), s.resetLine = false →
    findInPlan s.plan r.pallet = none → s.dcu.bayState ≠ some .closing → s.plan.state = .opened →
    judgeDest s.plan r.dest = .accepted drop → s.plan.overLimit = false → s.plan.mismatch = false →
    (r.scale = .ok w ∨ r.scale = .zero ∧ w = classMaxWeight r.height) →
    searchSpot s.planClass s.plan w r.height r.stackable = .spot row sd tier →
    ∃ t p, exec (.lpuDoorReadInto r) s = .next t ∧
      p = restow s.planClass (addWeight s.planClass (pushTier s.plan row sd (.landed
        { pallet := r.pallet, grant := w, measured := w, height := r.height, stackable := r.stackable
          drop := drop, asker := 0 })) row w) ∧
      t.plan = p.plan ∧
      HandsOn (s.drop (.lpuDoorReadInto r)) t (List.flatten
        [scaleRaised r.scale, overRaised s.plan p.plan,
         [.placedNote r.pallet 0 (.trailer row sd tier),
          .mluPlaced s.own { pallet := r.pallet, asker := 0, place := .trailer row sd tier
                             margin := (s.setPlan p.plan).planMargin }],
         releaseAnswers .stranded p.stranded,
         [.indicationRequest { source := .lpu, pallet := none
                               indication := indicationOf s.own (.walkinAt row sd tier) }]]) ∧
      FramesOffered s t s.lpu.owed t.lpu.owed (
        { owner := .lpu, built := s.serial, target := 0, body := .placed
            { pallet := r.pallet, asker := 0, place := .trailer row sd tier
              margin := (s.setPlan p.plan).planMargin } } ::
        releaseFrames .stranded (s.serial + 1) p.stranded))

/-- O53. A read out of the trailer removes a band top, or is a mismatch or stray; CLEAR HOLD clears the mark;
a read out with no plan OPEN is stray by the model's reading: notes/assumptions/22.md; the order of one
event's hand-overs, where no rule gives it, is its choice: 47.md (R126, R127, R128, R129, R87, R125, R104,
R94). -/
def Obligations.ReadsOutOfTheTrailerRemove : Prop :=
  (∀ (p : Plan) (row : Nat) (sd : Side), popTier p row sd = setStack p row sd (stackAt p row sd).dropLast) ∧
  (∀ (r : PalletRead) (s : State), s.resetLine = false → s.plan.state ≠ .opened →
      exec (.lpuDoorReadOut r) s = .next ((s.drop (.lpuDoorReadOut r)).hand (.noticeRaise .strayRead))) ∧
  (∀ (r : PalletRead) (x : Standing) (l : Landed) (s : State), s.resetLine = false →
    s.plan.state = .opened → findInPlan s.plan r.pallet = some x → x.tier = .landed l →
    x.row ∈ openBand s.plan.face → x.beneath + 1 = (stackAt s.plan x.row x.side).length →
    ∃ t p, exec (.lpuDoorReadOut r) s = .next t ∧
      p = restow s.planClass
        (addWeight s.planClass (popTier s.plan x.row x.side) x.row (-(l.measured : Int))) ∧
      t.plan.payload =
        s.plan.payload - (l.measured : Int) - (((p.stranded.map Reservation.grant).sum : Nat) : Int) ∧
      t.plan.moment = s.plan.moment - (l.measured : Int) * rowDistance s.planClass x.row -
        strandedMoment s.planClass (popTier s.plan x.row x.side) ∧
      t.plan = p.plan ∧ (p.stranded = [] → t.fbi = s.fbi) ∧
      FramesOffered s t s.lpu.owed t.lpu.owed (releaseFrames .stranded s.serial p.stranded) ∧
      HandsOn (s.drop (.lpuDoorReadOut r)) t
        (overRaised s.plan p.plan ++ releaseAnswers .stranded p.stranded ++ closingReport s p.plan)) ∧
  (∀ (r : PalletRead) (x : Standing) (l : Landed) (res : Reservation) (s : State), s.resetLine = false →
    s.plan.state = .opened → findInPlan s.plan r.pallet = some x → x.tier = .landed l →
    x.row ∈ openBand s.plan.face → x.beneath + 2 = (stackAt s.plan x.row x.side).length →
    topReservation (stackAt s.plan x.row x.side) = some res →
    ∃ t p, exec (.lpuDoorReadOut r) s = .next t ∧
      p = restow s.planClass (addWeight s.planClass (popTier (addWeight s.planClass
        (popTier s.plan x.row x.side) x.row (-(res.grant : Int))) x.row x.side) x.row
        (-(l.measured : Int))) ∧
      t.plan.payload = s.plan.payload - (res.grant : Int) - (l.measured : Int) -
        (((p.stranded.map Reservation.grant).sum : Nat) : Int) ∧
      t.plan.moment = s.plan.moment -
        ((res.grant : Int) + (l.measured : Int)) * rowDistance s.planClass x.row -
        strandedMoment s.planClass (popTier (popTier s.plan x.row x.side) x.row x.side) ∧
      t.plan = p.plan ∧
      FramesOffered s t s.lpu.owed t.lpu.owed (releaseFrames .stranded s.serial (res :: p.stranded)) ∧
      HandsOn (s.drop (.lpuDoorReadOut r)) t (overRaised s.plan p.plan ++
        releaseAnswers .stranded (res :: p.stranded) ++ closingReport s p.plan)) ∧
  (∀ (r : PalletRead) (x : Standing) (l : Landed) (s : State), s.resetLine = false →
    s.plan.state = .opened → findInPlan s.plan r.pallet = some x → x.tier = .landed l →
    (x.row ∉ openBand s.plan.face ∨ x.beneath + 2 < (stackAt s.plan x.row x.side).length ∨
      x.beneath + 2 = (stackAt s.plan x.row x.side).length ∧
        topReservation (stackAt s.plan x.row x.side) = none) →
    exec (.lpuDoorReadOut r) s = .next (((s.drop (.lpuDoorReadOut r)).setPlan
      { s.plan with mismatch := true }).handAll
      [.noticeRaise .planMismatch, .indicationRequest
        { source := .lpu, indication := indicationOf s.own .refused, pallet := none }])) ∧
  (∀ (r : PalletRead) (s : State), s.resetLine = false →
    (∀ x, findInPlan s.plan r.pallet = some x → isReserved x.tier = true) →
    exec (.lpuDoorReadOut r) s = .next ((s.drop (.lpuDoorReadOut r)).hand (.noticeRaise .strayRead))) ∧
  (∀ s : State, s.ready = true → s.plan.state = .opened → s.plan.mismatch = true →
    exec .clearHold s =
      .next ((s.setPlan { s.plan with mismatch := false }).answer .clearHold .ok .nothing)) ∧
  (∀ s : State, s.ready = true → (s.plan.state ≠ .opened ∨ s.plan.mismatch = false) →
    exec .clearHold s = .next (s.answer .clearHold .state .nothing))

/-- O54. A plan begins empty, is closed by releasing its reservations and forming its record, and ends ABSENT;
a request to a plan that is not OPEN is the model's reading: notes/assumptions/22.md. The order of one
event's hand-overs, where no rule gives it, is its choice: 47.md (R82, R83, R162, R166, R167, R168, R170,
R171, R110, R111, R18, R125). -/
def Obligations.PlansBeginAndEnd : Prop :=
  (∀ (p : Plan) (r : Reservation), reservationList p = (allReservations p).map (fun y => y.2.2) ∧
      (PlanFits p → (r ∈ reservationList p ↔
        ∃ row sd, 1 ≤ row ∧ row ≤ 13 ∧ .reserved r ∈ stackAt p row sd))) ∧
  (∀ (p : Plan) (d : Phase), landedCount p d = p.floorStacks.toList.flatten.countP fun y =>
      match y with
      | .landed l => decide (l.drop = d)
      | .reserved _ => false) ∧
  (absentPlan.state = .absent ∧ absentPlan.phase = none ∧ absentPlan.face = 0 ∧ absentPlan.payload = 0 ∧
      absentPlan.moment = 0 ∧ absentPlan.overLimit = false ∧ absentPlan.mismatch = false ∧
      ∀ row sd, stackAt absentPlan row sd = []) ∧
  (∀ (cls near : Nat) (far : Option Nat) (ph : Phase) (s : State), s.resetLine = false →
    ∃ p : Plan, exec (.beginPlan cls near far ph) s =
        .next (((s.drop (.beginPlan cls near far ph)).setPlan p).handAll
          (if p.overLimit then [.noticeRaise .overLimit] else [])) ∧
      p.state = .opened ∧ p.cls = cls ∧ p.near = near ∧ p.far = far ∧ p.phase = some ph ∧ p.face = 0 ∧
      p.payload = 0 ∧ p.moment = 0 ∧ p.mismatch = false ∧ (∀ row sd, stackAt p row sd = []) ∧
      (p.overLimit = true ↔ (s.trailerClass cls).gmax < (s.trailerClass cls).k0 + (s.trailerClass cls).b0 ∨
        (s.trailerClass cls).bmax < (s.trailerClass cls).b0 ∨
        (s.trailerClass cls).kmax < (s.trailerClass cls).k0)) ∧
  (∀ s : State, s.resetLine = false →
    (s.plan.state = .opened → allReservations s.plan = [] → exec .closeRequestClosing s =
      .next ((s.drop .closeRequestClosing).hand .noReservationReport)) ∧
    ((s.plan.state ≠ .opened ∨ allReservations s.plan ≠ []) →
      exec .closeRequestClosing s = .next (s.drop .closeRequestClosing))) ∧
  (∀ s : State, s.resetLine = false → s.plan.state = .opened → PlanFits s.plan →
    ∃ t x, exec .closeRequestClosed s = .next t ∧ t.lpu.closing = some x ∧ ClosingRecordFits s x ∧
      x.body.aborted = false ∧ t.plan.state = .final ∧
      (∀ row sd, stackAt t.plan row sd = (stackAt s.plan row sd).filter fun y => !isReserved y) ∧
      t.plan.face = s.plan.face ∧ t.plan.payload = releasedPayload s.plan ∧
      t.plan.moment = releasedMoment s.planClass s.plan ∧ t.plan.overLimit = x.body.overLimit ∧
      t.lpu.binding = s.lpu.binding ∧
      (x.body.lightNose = true → .noticeRaise .lightNose ∈ t.handed) ∧
      t.handed.getLast? = some (.indicationRequest
        { source := .lpu, indication := indicationOf s.own .closed, pallet := none }) ∧
      List.Sublist (releaseAnswers .cutoff (reservationList s.plan)) t.handed ∧
      ClosesBehind s t (releaseFrames .cutoff s.serial (reservationList s.plan)) x.body) ∧
  (∀ s : State, s.resetLine = false → s.plan.state ≠ .opened →
    exec .closeRequestClosed s = .next (s.drop .closeRequestClosed)) ∧
  (∀ s : State, s.resetLine = false → exec .departureRequest s = .next
    { s.drop .departureRequest with lpu := { s.lpu with plan := absentPlan, binding := none } }) ∧
  (∀ s : State, s.resetLine = false → s.plan.state = .opened → PlanFits s.plan →
    ∃ t x, exec .abortRequest s = .next t ∧ t.lpu.closing = some x ∧ ClosingRecordFits s x ∧
      x.body.aborted = true ∧ t.plan = absentPlan ∧ t.lpu.binding = none ∧
      (x.body.lightNose = true → .noticeRaise .lightNose ∈ t.handed) ∧
      (∃ l, HandsOn (s.drop .abortRequest) t l ∧ (∀ r, .indicationRequest r ∉ l) ∧
        List.Sublist (releaseAnswers .undock (reservationList s.plan)) l) ∧
      ClosesBehind s t (releaseFrames .undock s.serial (reservationList s.plan)) x.body) ∧
  (∀ s : State, s.resetLine = false → s.plan.state ≠ .opened → exec .abortRequest s = .next
    { s.drop .abortRequest with lpu := { s.lpu with plan := absentPlan, binding := none } })

/-- O55. An ask or self-put is given the first lane that may take it, and a put given up leaves its lane; that
a re-grant is followed by no judgement of its lane is the model's choice: notes/assumptions/34.md. The
order of one event's hand-overs, where no rule gives it, is the model's choice: notes/assumptions/47.md
(R134, R135, R136, R133, R32, R22, R147, R31). -/
def Obligations.LaneAsksAndPutsAreKept : Prop :=
  (∀ (p : Nat) (s : State), s.inLanes p = true ↔
      ∃ l ∈ s.mlu.lanes, (∃ y ∈ l.items, y.pallet = p) ∨ ∃ y ∈ l.puts, y.pallet = p) ∧
  (∀ (k : Nat) (s : State), (∀ l, s.lane? k = some l → l ∈ s.mlu.lanes ∧ l.number = k) ∧
      (s.lane? k = none → ∀ l ∈ s.mlu.lanes, l.number ≠ k) ∧
      ((s.mlu.lanes.map Lane.number).Nodup → ∀ l ∈ s.mlu.lanes, s.lane? l.number = some l)) ∧
  (∀ (dest : Nat) (l : Lane),
    (takesPut dest l = true ↔ l.assignment = .assigned ∧ l.dest = some dest ∧ l.high = false ∧
      l.noPut = false ∧ l.items.length + l.puts.length < 8) ∧
    (freeForPut l = true ↔ l.assignment = .free ∧ l.noPut = false)) ∧
  (∀ (c : ConfigRecord) (l : Lane), laneFill l = l.items.length + l.puts.length ∧
    (c.lowMark < c.highMark → lowMarkInUse c = c.lowMark) ∧
    (c.highMark ≤ c.lowMark → lowMarkInUse c = c.highMark - 1)) ∧
  (∀ (p : Lane → Bool) (s : State), LanesInOrder s.mlu.lanes →
    LowestLane s.mlu.lanes p (s.firstLane p)) ∧
  (∀ (p : Put → Bool) (s : State),
    (∀ k y, s.findPut p = some (k, y) → p y = true ∧ ∃ l ∈ s.mlu.lanes, l.number = k ∧ y ∈ l.puts) ∧
    (s.findPut p = none → ∀ l ∈ s.mlu.lanes, ∀ y ∈ l.puts, p y = false)) ∧
  (∀ (b : Nat) (x : AskBody) (s : State),
    ((∀ l ∈ s.mlu.lanes, l.assignment = .suspect) ∨ x.dest = 0 ∨ 999 < x.dest ∨ x.weight = 0 ∨
      1500 < x.weight → judgeLaneAsk s b x = .refuse .noLane) ∧
    ((∃ l ∈ s.mlu.lanes, l.assignment ≠ .suspect) → 1 ≤ x.dest → x.dest ≤ 999 → 1 ≤ x.weight →
      x.weight ≤ 1500 → judgeLaneAsk s b x =
        match s.findPut fun y => decide (y.pallet = x.pallet) && decide (y.asker = b) with
        | some (k, y) => .regrant k y
        | none => if s.inLanes x.pallet then .refuse .duplicate else
          match (s.firstLane (takesPut x.dest)).or (s.firstLane freeForPut) with
          | some k => .grant k
          | none => .refuse .noLane)) ∧
  (∀ (b : Nat) (x : AskBody) (reason : RefuseReason) (s : State), s.resetLine = false →
    judgeLaneAsk s b x = .refuse reason →
    ∃ t, exec (.mluAsk b x) s = .next t ∧ LanesKept s t ∧
      (s.offerResult = .placed → t.fbi = (s.placeFrame (.owned
        { owner := .mlu, built := s.serial, target := b, body := .refuse
            { asker := b, seq := x.seq, pallet := x.pallet, reason := reason } })).fbi) ∧
      (s.offerResult ≠ .placed → t.fbi = s.fbi)) ∧
  (∀ (b k : Nat) (x : AskBody) (l : Lane) (s : State), s.resetLine = false → LanesFit s.mlu.lanes →
    judgeLaneAsk s b x = .grant k → s.lane? k = some l → s.offerResult = .placed →
    ∃ t m, exec (.mluAsk b x) s = .next t ∧ t.lane? k = some m ∧ OtherLanesKept s t k ∧
      m.assignment = .assigned ∧ m.dest = some x.dest ∧ m.items = l.items ∧ m.noPut = l.noPut ∧
      m.puts = l.puts ++ [{ pallet := x.pallet, asker := b, seq := some x.seq, weight := x.weight
                            estimated := false, height := x.height, stackable := x.stackable
                            expiry := s.dcu.beat + s.scu.config.holdBeats }] ∧
      m.high = (if s.scu.config.highMark ≤ laneFill l + 1 then true
        else if laneFill l + 1 ≤ lowMarkInUse s.scu.config then false else l.high) ∧
      (l.high = false → s.scu.config.highMark ≤ laneFill l + 1 → .noticeRaise .laneHigh ∈ t.handed) ∧
      t.fbi = (s.placeFrame (.owned
        { owner := .mlu, built := s.serial, target := b, body := .grant
            { asker := b, seq := x.seq, pallet := x.pallet, place := .lane k
              hold := s.scu.config.holdBeats, margin := 0 } })).fbi) ∧
  (∀ (b k : Nat) (x : AskBody) (y : Put) (l : Lane) (s : State), s.resetLine = false →
    judgeLaneAsk s b x = .regrant k y → s.lane? k = some l → s.offerResult = .placed →
    ∃ t m, exec (.mluAsk b x) s = .next t ∧ t.lane? k = some m ∧ OtherLanesKept s t k ∧
      m.puts = l.puts.map (fun z => if z.pallet = x.pallet then { z with seq := some x.seq } else z) ∧
      laneCore { m with puts := l.puts } = laneCore l ∧
      t.fbi = (s.placeFrame (.owned
        { owner := .mlu, built := s.serial, target := b, body := .grant
            { asker := b, seq := x.seq, pallet := x.pallet, place := .lane k
              hold := y.expiry - s.dcu.beat, margin := 0 } })).fbi) ∧
  (∀ (b : Nat) (x : AskBody) (s : State), s.resetLine = false → s.offerResult ≠ .placed →
    ∃ t, exec (.mluAsk b x) s = .next t ∧ t.fbi = s.fbi ∧ LanesKept s t) ∧
  (∀ (p : SelfPut) (kind : SelfPutKind) (n : Nat) (s : State), s.resetLine = false →
    (s.inLanes p.pallet = true ∨
      s.firstLane (match kind with
        | .assigned => takesPut p.dest
        | .free => freeForPut) = none) →
    ∃ t rest, exec (.selfPutRequest p kind n) s = .next t ∧ t.fbi = s.fbi ∧ LanesKept s t ∧
      t.handed = (s.drop (.selfPutRequest p kind n)).handed ++ .selfPutAnswer p.pallet n none :: rest) ∧
  (∀ (p : SelfPut) (kind : SelfPutKind) (n k : Nat) (l : Lane) (s : State), s.resetLine = false →
    LanesFit s.mlu.lanes → s.inLanes p.pallet = false →
    s.firstLane (match kind with
      | .assigned => takesPut p.dest
      | .free => freeForPut) = some k → s.lane? k = some l →
    ∃ t m, exec (.selfPutRequest p kind n) s = .next t ∧ t.fbi = s.fbi ∧ t.lane? k = some m ∧
      OtherLanesKept s t k ∧ m.assignment = .assigned ∧ m.dest = some p.dest ∧ m.items = l.items ∧
      m.puts = l.puts ++ [{ pallet := p.pallet, asker := s.own, seq := none, weight := p.weight
                            estimated := p.estimated, height := p.height, stackable := p.stackable
                            expiry := s.dcu.beat + s.scu.config.holdBeats }] ∧
      LaneJudged s t { l with assignment := .assigned, dest := some p.dest, puts := m.puts } m ∧
      .selfPutAnswer p.pallet n (some { lane := k, hold := s.scu.config.holdBeats }) ∈ t.handed) ∧
  (∀ (p k : Nat) (y : Put) (l : Lane) (s : State), s.resetLine = false → s.lane? k = some l →
    (s.findPut (fun z => decide (z.pallet = p) && decide (z.asker = s.own)) = some (k, y) →
      ∃ t m, exec (.selfPutCancel p) s = .next t ∧ t.fbi = s.fbi ∧ t.lane? k = some m ∧
        OtherLanesKept s t k ∧ m.items = l.items ∧
        m.puts = l.puts.filter (fun z => decide (z.pallet ≠ p)) ∧
        LaneJudged s t { l with puts := m.puts } m) ∧
    (∀ b x, x.pallet = p → (x.reason = .late ∨ x.reason = .cancel) →
      s.findPut (fun z => decide (z.pallet = p) && decide (z.asker = x.asker)) = some (k, y) →
      ∃ t m, exec (.mluRelease b x) s = .next t ∧ t.fbi = s.fbi ∧ t.lane? k = some m ∧
        OtherLanesKept s t k ∧ m.items = l.items ∧
        m.puts = l.puts.filter (fun z => decide (z.pallet ≠ p)) ∧
        LaneJudged s t { l with puts := m.puts } m) ∧
    (s.findPut (fun z => decide (z.pallet = p) && decide (z.expiry ≤ s.dcu.beat)) = some (k, y) →
      ∃ t m, exec (.putExpiry p) s = .next t ∧ t.lane? k = some m ∧ OtherLanesKept s t k ∧
        m.items = l.items ∧ m.puts = l.puts.filter (fun z => decide (z.pallet ≠ p)) ∧
        LaneJudged s t { l with puts := m.puts } m ∧
        (y.seq = none → t.fbi = s.fbi ∧ .selfPutRelease p .expired ∈ t.handed) ∧
        (∀ n, y.seq = some n → s.offerResult = .placed → t.fbi = (s.placeFrame (.owned
          { owner := .mlu, built := s.serial, target := y.asker, body := .release
              { pallet := p, asker := y.asker, seq := n, reason := .expired } })).fbi) ∧
        (∀ n, y.seq = some n → MluFrameRefused s t
          { owner := .mlu, built := s.serial, target := y.asker, body := .release
              { pallet := p, asker := y.asker, seq := n, reason := .expired } }))) ∧
  (∀ (b : Nat) (x : ReleaseBody) (s : State), s.resetLine = false →
    (x.reason = .late ∨ x.reason = .cancel) →
    s.findPut (fun z => decide (z.pallet = x.pallet) && decide (z.asker = x.asker)) = none →
    ∃ t, exec (.mluRelease b x) s = .next t ∧ t.fbi = s.fbi ∧ LanesKept s t) ∧
  (∀ (p : Nat) (s : State), s.resetLine = false →
    s.findPut (fun z => decide (z.pallet = p) && decide (z.expiry ≤ s.dcu.beat)) = none →
    ∃ t, exec (.putExpiry p) s = .next t ∧ t.fbi = s.fbi ∧ LanesKept s t) ∧
  (∀ (p : Nat) (s : State), s.resetLine = false →
    s.findPut (fun z => decide (z.pallet = p) && decide (z.asker = s.own)) = none →
    ∃ t, exec (.selfPutCancel p) s = .next t ∧ t.fbi = s.fbi ∧ LanesKept s t) ∧
  (∀ (f : OwnedFrame) (g : GrantBody) (s : State), f.owner = .mlu → f.body = .grant g →
    (∀ k y l, s.findPut (fun z => decide (z.pallet = g.pallet) && decide (z.asker = g.asker) &&
        decide (z.seq = some g.seq)) = some (k, y) → s.lane? k = some l →
      ∃ m, (s.toldFailed f).lane? k = some m ∧ (s.toldFailed f).fbi = s.fbi ∧
        OtherLanesKept s (s.toldFailed f) k ∧ m.items = l.items ∧
        m.puts = l.puts.filter (fun z => decide (z.pallet ≠ g.pallet)) ∧
        LaneJudged s (s.toldFailed f) { l with puts := m.puts } m) ∧
    (s.findPut (fun z => decide (z.pallet = g.pallet) && decide (z.asker = g.asker) &&
        decide (z.seq = some g.seq)) = none → s.toldFailed f = s))

/-- O56. A lane read appends its pallet, an exit event takes the head, and lamp reports and CLEAR LANE set the
lane. The order of one event's hand-overs, where no rule gives it, is the model's choice:
notes/assumptions/47.md (R137, R138, R143, R145, R146, R132, R133). -/
def Obligations.LaneReadsAndExitsMoveItems : Prop :=
  (∀ (k : Nat) (s : State), s.resetLine = false → s.lane? k = none →
      (∃ t, exec (.lampFaultReport k) s = .next t ∧ t.fbi = s.fbi ∧ LanesKept s t) ∧
      ∃ t, exec (.lampClearReport k) s = .next t ∧ t.fbi = s.fbi ∧ LanesKept s t) ∧
  (∀ (r : LanePut) (s : State), s.resetLine = false →
    (∀ l, s.lane? r.lane = some l → l.assignment = .suspect ∨ 8 ≤ l.items.length ∨
      ∃ m ∈ s.mlu.lanes, ∃ i ∈ m.items, i.pallet = r.pallet) →
    ∃ t rest, exec (.mluLaneRead r) s = .next t ∧ t.fbi = s.fbi ∧ LanesKept s t ∧
      t.handed = (s.drop (.mluLaneRead r)).handed ++ .noticeRaise .strayRead :: rest) ∧
  (∀ (r : LanePut) (l : Lane) (y : Put) (s : State), s.resetLine = false → LanesFit s.mlu.lanes →
    s.lane? r.lane = some l → l.assignment ≠ .suspect → l.items.length < 8 →
    (∀ m ∈ s.mlu.lanes, ∀ i ∈ m.items, i.pallet ≠ r.pallet) →
    s.findPut (fun z => decide (z.pallet = r.pallet)) = some (r.lane, y) →
    ∃ t m, exec (.mluLaneRead r) s = .next t ∧ t.lane? r.lane = some m ∧ OtherLanesKept s t r.lane ∧
      m.assignment = .assigned ∧ m.dest = l.dest ∧ m.noPut = l.noPut ∧
      m.puts = l.puts.filter (fun z => decide (z.pallet ≠ r.pallet)) ∧
      m.items = l.items ++ [{ pallet := r.pallet, weight := y.weight, estimated := y.estimated
                              height := y.height, stackable := y.stackable
                              foreign := !decide (l.dest = some r.dest) }] ∧
      LaneJudged s t { l with puts := m.puts, items := m.items } m ∧
      .placedNote r.pallet y.asker (.lane r.lane) ∈ t.handed ∧ (y.seq = none → t.fbi = s.fbi) ∧
      (y.seq ≠ none → s.offerResult = .placed → t.fbi = (s.placeFrame (.owned
        { owner := .mlu, built := s.serial, target := 0, body := .placed
            { pallet := r.pallet, asker := y.asker, place := .lane r.lane, margin := 0 } })).fbi)) ∧
  (∀ (r : LanePut) (k : Nat) (l o : Lane) (y : Put) (s : State), s.resetLine = false →
    LanesFit s.mlu.lanes → s.lane? r.lane = some l → l.assignment ≠ .suspect → l.items.length < 8 →
    (∀ m ∈ s.mlu.lanes, ∀ i ∈ m.items, i.pallet ≠ r.pallet) → k ≠ r.lane → s.lane? k = some o →
    s.findPut (fun z => decide (z.pallet = r.pallet)) = some (k, y) →
    ∃ t m n, exec (.mluLaneRead r) s = .next t ∧ t.lane? r.lane = some m ∧ t.lane? k = some n ∧
      (∀ j, j ≠ k → j ≠ r.lane → (t.lane? j).map laneCore = (s.lane? j).map laneCore) ∧
      n.items = o.items ∧ n.puts = o.puts.filter (fun z => decide (z.pallet ≠ r.pallet)) ∧
      m.assignment = .assigned ∧ m.noPut = l.noPut ∧
      m.dest = (if l.assignment = .free then (if 1 ≤ r.dest ∧ r.dest ≤ 999 then some r.dest else none)
        else l.dest) ∧
      m.puts = (if laneFill l = 8 then l.puts.dropLast else l.puts) ∧
      m.items = l.items ++ [{ pallet := r.pallet, weight := y.weight, estimated := y.estimated
                              height := y.height, stackable := y.stackable
                              foreign := !decide (m.dest = some r.dest) }] ∧
      LaneJudged s t { o with puts := n.puts } n ∧
      LaneJudged s t { l with assignment := .assigned, dest := m.dest, puts := m.puts, items := m.items } m ∧
      .placedNote r.pallet y.asker (.lane r.lane) ∈ t.handed ∧
      (∀ x, strandedPut l = some x → x.seq = none → .selfPutRelease x.pallet .stranded ∈ t.handed) ∧
      (y.seq = none → FramesOffered s t s.mlu.owed t.mlu.owed (strandFrames s.serial l)) ∧
      (y.seq ≠ none → FramesOffered s t s.mlu.owed t.mlu.owed (
        { owner := .mlu, built := s.serial, target := 0, body := .placed
            { pallet := r.pallet, asker := y.asker, place := .lane r.lane, margin := 0 } } ::
        strandFrames (s.serial + 1) l))) ∧
  (∀ (r : LanePut) (l : Lane) (s : State), s.resetLine = false → LanesFit s.mlu.lanes →
    s.lane? r.lane = some l → l.assignment ≠ .suspect → l.items.length < 8 →
    (∀ m ∈ s.mlu.lanes, ∀ i ∈ m.items, i.pallet ≠ r.pallet) →
    s.findPut (fun z => decide (z.pallet = r.pallet)) = none →
    ∃ t m, exec (.mluLaneRead r) s = .next t ∧ t.lane? r.lane = some m ∧ OtherLanesKept s t r.lane ∧
      m.assignment = .assigned ∧ m.noPut = l.noPut ∧
      m.dest = (if l.assignment = .free then (if 1 ≤ r.dest ∧ r.dest ≤ 999 then some r.dest else none)
        else l.dest) ∧
      m.puts = (if laneFill l = 8 then l.puts.dropLast else l.puts) ∧
      m.items = l.items ++ [{ pallet := r.pallet, weight := classMaxWeight r.height, estimated := true
                              height := r.height, stackable := r.stackable
                              foreign := !decide (m.dest = some r.dest) }] ∧
      LaneJudged s t { l with assignment := .assigned, dest := m.dest, puts := m.puts, items := m.items } m ∧
      .placedNote r.pallet 0 (.lane r.lane) ∈ t.handed ∧
      (∀ x, strandedPut l = some x → x.seq = none → .selfPutRelease x.pallet .stranded ∈ t.handed) ∧
      FramesOffered s t s.mlu.owed t.mlu.owed (
        { owner := .mlu, built := s.serial, target := 0, body := .placed
            { pallet := r.pallet, asker := 0, place := .lane r.lane, margin := 0 } } ::
        strandFrames (s.serial + 1) l)) ∧
  (∀ (k : Nat) (s : State), s.resetLine = false → (∀ l, s.lane? k = some l → l.items = []) →
    ∃ t, exec (.mluExitEvent k) s = .next t ∧ t.fbi = s.fbi ∧ LanesKept s t) ∧
  (∀ (k : Nat) (l : Lane) (head : Item) (rest : List Item) (s : State), s.resetLine = false →
    s.lane? k = some l → l.items = head :: rest →
    ∃ t m, exec (.mluExitEvent k) s = .next t ∧ t.fbi = s.fbi ∧ t.lane? k = some m ∧
      OtherLanesKept s t k ∧ m.items = rest ∧ m.puts = l.puts ∧
      (∀ d, l.drain = some d → d.state = .granted → m.drain = some { d with state := .inTransit }) ∧
      (∀ d, l.drain = some d → d.state = .inTransit → m.drain = some d) ∧
      ((∀ d, l.drain = some d → d.state ≠ .granted) → .noticeRaise .unguidedRemoval ∈ t.handed) ∧
      ((∀ d, l.drain = some d → d.state = .seeking ∨ d.state = .asked) → DrainCleared m) ∧
      LaneJudged s t { l with items := rest, drain := drainAfterExit l.drain } m ∧
      (rest = [] → l.puts = [] → l.drain = none → l.assignment = .assigned →
        m.assignment = .free ∧ m.dest = none ∧ m.high = false)) ∧
  (∀ (k : Nat) (l : Lane) (s : State), s.resetLine = false → s.lane? k = some l →
    (∃ t m, exec (.lampFaultReport k) s = .next t ∧ t.lane? k = some m ∧ OtherLanesKept s t k ∧
      laneCore m = laneCore { l with noPut := true }) ∧
    (∃ t m, exec (.lampClearReport k) s = .next t ∧ t.lane? k = some m ∧ OtherLanesKept s t k ∧
      laneCore m = laneCore { l with noPut := false })) ∧
  (∀ (k : Nat) (s : State), s.ready = true →
    (s.lane? k = none → exec (.clearLane k) s = .next (s.answer .clearLane .range .nothing)) ∧
    (∀ l, s.lane? k = some l → l.assignment ≠ .suspect →
      exec (.clearLane k) s = .next (s.answer .clearLane .state .nothing)) ∧
    (∀ l, s.lane? k = some l → l.assignment = .suspect →
      ∃ t m, exec (.clearLane k) s = .next t ∧ t.lane? k = some m ∧ OtherLanesKept s t k ∧
        m = { suspectLane k with assignment := .free, noPut := l.noPut } ∧
        t.scu.answer = some { request := .clearLane, code := .ok, data := .nothing }))

/-- O57. A head is searched a trailer, the best candidate is asked, and a tick searches again; the disregard
of an answer under another token, no summary in OUTBOUND before a plan is OPEN, a plan without a binding,
the disregard of a second value that returns to one drain, and a retry-after not due, are the model's:
notes/assumptions/5.md, 39.md, 43.md, 46.md and 3.md. The order of one event's hand-overs, where no rule
gives it, is the model's choice: notes/assumptions/47.md (R139, R140, R98, R95, R113). -/
def Obligations.DrainsSearchForTrailers : Prop :=
  (∀ (k : Nat) (s : State), s.drainAt k = (s.lane? k).bind Lane.drain) ∧
  (∀ (k n : Nat) (s : State), s.resetLine = false →
      (s.drainSearch? k n = none →
        exec (.ownTrailerSummary k n) s = .next (s.drop (.ownTrailerSummary k n))) ∧
      ((∀ d, s.drainAt k = some d → d.state ≠ .seeking ∨ ∀ b, d.retryAt = some b → s.dcu.beat < b) →
        ∃ t, exec (.drainRetryAfterExpiry k) s = .next t ∧ t.fbi = s.fbi ∧ LanesKept s t)) ∧
  (∀ s : State, s.resetLine = false → LanesFit s.mlu.lanes →
    (∀ l ∈ s.mlu.lanes, 1 ≤ l.number ∧ l.number ≤ 4) →
    ∃ t, exec .drainTick s = .next t ∧ t.fbi = s.fbi ∧ t.mlu.owed = s.mlu.owed ∧ LanesKept s t ∧
      ∀ l ∈ s.mlu.lanes,
        (∀ d, l.drain = some d → d.state = .seeking → d.retryAt = none →
          ∃ n, t.lane? l.number = some { l with drain := some { d with search := some (freshSearch n) } } ∧
            SearchAsked t l.number (l.dest.getD 0) n) ∧
        (∀ d, l.drain = some d → (d.state ≠ .seeking ∨ d.retryAt ≠ none) →
          t.lane? l.number = some l) ∧
        (l.drain = none → (l.assignment ≠ .assigned ∨ l.items = []) → t.lane? l.number = some l) ∧
        (∀ head rest, l.drain = none → l.assignment = .assigned → l.items = head :: rest →
          (head.foreign = true → t.lane? l.number = some { l with blocked := true }) ∧
          (head.foreign = false → ∃ n, SearchAsked t l.number (l.dest.getD 0) n ∧
            t.lane? l.number = some { l with
              drain := some { newDrain head.pallet with search := some (freshSearch n) } }))) ∧
  (∀ p : Nat, newDrain p = { pallet := p, state := .seeking, excluded := [], target := none, seq := none
                             place := none, deadline := none, retryAt := none, owedAsk := none
                             search := none }) ∧
  (∀ (k n : Nat) (found : List TrailerCandidate) (own : Option OwnSummary) (q : DrainSearch) (l : Lane)
    (head : Item) (rest : List Item) (d : Drain) (s : State), s.resetLine = false →
    s.drainSearch? k n = some q → s.lane? k = some l → l.items = head :: rest → l.drain = some d →
    d.state = .seeking →
    ∃ t m kept, exec (.drainCandidatesAnswer k n found own) s = .next t ∧ t.fbi = s.fbi ∧
      t.lane? k = some m ∧ OtherLanesKept s t k ∧ { m with blocked := l.blocked, drain := l.drain } = l ∧
      (∀ c, c ∈ kept ↔ trailerFits d.excluded head.weight head.height c = true ∧
        (s.fbi.mute = false ∧ c ∈ found ∨ ∃ o, own = some o ∧ o.dest = l.dest.getD 0 ∧
          c = { bay := s.own, cutOff := o.cutOff, margin := o.margin, openings := o.openings })) ∧
      (kept = [] → m.blocked = true ∧ m.drain = some { d with search := none }) ∧
      (kept ≠ [] → ∃ c ∈ kept, (∀ e ∈ kept, c.cutOff < e.cutOff ∨
          c.cutOff = e.cutOff ∧ c.bay ≤ e.bay) ∧ m.blocked = false ∧
        m.drain = some { d with
          state := .asked, target := some c.bay, seq := none, retryAt := none, search := none
          deadline := some (s.dcu.beat + s.scu.config.answerTimeout) } ∧
        (c.bay = s.own → .ownTrailerAsk
          { pallet := head.pallet, dest := l.dest.getD 0, weight := head.weight, height := head.height
            stackable := head.stackable } ∈ t.handed) ∧
        (c.bay ≠ s.own → .askSequenceRequest k head.pallet c.bay ∈ t.handed))) ∧
  (∀ (k n : Nat) (found : List TrailerCandidate) (own : Option OwnSummary) (s : State),
    s.resetLine = false → s.drainSearch? k n = none →
    ∃ t, exec (.drainCandidatesAnswer k n found own) s = .next t ∧ t.fbi = s.fbi ∧ LanesKept s t) ∧
  (∀ (k p b n : Nat) (l : Lane) (head : Item) (rest : List Item) (d : Drain) (s : State),
    s.resetLine = false → s.lane? k = some l → l.items = head :: rest → l.drain = some d →
    d.state = .asked → d.pallet = p → d.target = some b → d.seq = none →
    ∃ t m ask, exec (.askSequenceReturn k p b n) s = .next t ∧
      ask = ({ seq := n, target := b, kind := .trailer, pallet := head.pallet, dest := l.dest.getD 0
               weight := head.weight, height := head.height, stackable := head.stackable } : AskBody) ∧
      t.lane? k = some m ∧ OtherLanesKept s t k ∧
      (s.offerResult = .placed → m = { l with drain := some { d with seq := some n } } ∧
        .askNote ask ∈ t.handed ∧ t.fbi = (s.placeFrame (.owned
          { owner := .mlu, built := s.serial, target := b, body := .ask ask })).fbi) ∧
      (s.offerResult = .noRoom → t.fbi = s.fbi ∧ m = { l with
        drain := some { d with seq := some n, owedAsk := some { built := s.serial, item := ask } } }) ∧
      (s.offerResult = .muted → t.fbi = s.fbi ∧ ∃ w, SearchAsked t k (l.dest.getD 0) w ∧
        m = { l with drain := some { drainSeeking d none with search := some (freshSearch w) } })) ∧
  (∀ (k p b n : Nat) (s : State), s.resetLine = false →
    (∀ d, s.drainAt k = some d →
      d.state ≠ .asked ∨ d.pallet ≠ p ∨ d.target ≠ some b ∨ d.seq ≠ none) →
    ∃ t, exec (.askSequenceReturn k p b n) s = .next t ∧ t.fbi = s.fbi ∧ LanesKept s t) ∧
  (∀ (k b : Nat) (l : Lane) (d : Drain) (s : State), s.resetLine = false → s.lane? k = some l →
    l.drain = some d → d.state = .seeking → d.retryAt = some b → b ≤ s.dcu.beat →
    ∃ t n, exec (.drainRetryAfterExpiry k) s = .next t ∧ t.fbi = s.fbi ∧ OtherLanesKept s t k ∧
      SearchAsked t k (l.dest.getD 0) n ∧ t.lane? k = some { l with
        drain := some { d with retryAt := none, search := some (freshSearch n) } }) ∧
  (∀ (k n : Nat) (q : DrainSearch) (s : State), s.resetLine = false → s.drainSearch? k n = some q →
    (q.found = none → exec (.ownTrailerSummary k n) s =
      .next ((s.drop (.ownTrailerSummary k n)).updateDrain k fun d =>
        { d with search := some { q with own := some s.ownSummary } })) ∧
    (∀ found, q.found = some found → exec (.ownTrailerSummary k n) s =
      .next (((s.drop (.ownTrailerSummary k n)).updateDrain k fun d =>
        { d with search := some { q with own := some s.ownSummary } }).hand
          (.drainCandidatesAnswer k n found s.ownSummary)))) ∧
  (∀ s : State, (s.dcu.bayState ≠ some .outbound ∨ s.plan.state ≠ .opened → s.ownSummary = none) ∧
    (s.dcu.bayState = some .outbound → s.plan.state = .opened →
      ∃ o, s.ownSummary = some o ∧ o.dest = acceptingDest s.plan ∧
        (∀ b, s.lpu.binding = some b → o.cutOff = minutesUntil b.cutOff s.dcu.beat) ∧
        o.margin = grossMargin s.planClass s.plan.payload ∧
        o.openings = planOpenings s.planClass s.plan)) ∧
  (∀ cutOff now : Nat, (cutOff ≤ now → minutesUntil cutOff now = 0) ∧
    (now < cutOff → cutOff ≤ now + 36000 → cutOff - now ≤ 60 * minutesUntil cutOff now ∧
      60 * minutesUntil cutOff now < cutOff - now + 60) ∧
    (now + 36000 < cutOff → minutesUntil cutOff now = 600))

/-- O58. A GRANT sends a drain on, a REFUSE or a timeout back to its search, and a PLACED or a deadline ends
it; that a PLACED leaves a SEEKING drain alone is the model's reading: notes/assumptions/12.md; that a
deadline not set does nothing is another: 3.md. The order of one event's hand-overs, where no rule gives
it, is the model's choice: notes/assumptions/47.md (R141, R142, R144, R133, R22). -/
def Obligations.DrainsEnd : Prop :=
  (∀ (b : Nat) (g : GrantBody) (x : Lane) (e : Drain) (s : State), s.resetLine = false →
      x ∈ s.mlu.lanes → x.drain = some e → e.pallet = g.pallet → e.target = some b → e.state = .asked →
      (∀ y ∈ s.mlu.lanes, ∀ d, y.drain = some d → d.pallet = g.pallet → d.state = .asked →
        d.target = some b → d.seq ≠ some g.seq) →
      ∃ t, exec (.mluGrant b g) s = .next t ∧ LanesKept s t ∧ t.fbi = s.fbi) ∧
  (∀ (b : Nat) (x : RefuseBody) (s : State), s.resetLine = false →
      (x.asker ≠ s.own ∨ ∀ y ∈ s.mlu.lanes, ∀ d, y.drain = some d → d.pallet = x.pallet →
        d.state ≠ .asked ∨ d.target ≠ some b ∨ d.seq ≠ some x.seq) →
      ∃ t, exec (.mluRefuse b x) s = .next t ∧ LanesKept s t ∧ t.fbi = s.fbi) ∧
  (∀ (b : Nat) (x : ReleaseBody) (s : State), s.resetLine = false → x.reason ≠ .late →
      x.reason ≠ .cancel → (x.asker ≠ s.own ∨ ∀ y ∈ s.mlu.lanes, ∀ d, y.drain = some d →
        d.pallet = x.pallet → d.target ≠ some b ∨ d.seq ≠ some x.seq) →
      ∃ t, exec (.mluRelease b x) s = .next t ∧ LanesKept s t ∧ t.fbi = s.fbi) ∧
  (∀ (p : Nat) (reason : RefuseReason) (why : ReleaseReason) (s : State), s.resetLine = false →
      ((∀ y ∈ s.mlu.lanes, ∀ d, y.drain = some d → d.pallet = p → d.state ≠ .asked ∨ d.target ≠ some s.own) →
        ∃ t, exec (.ownTrailerAnswer p (.refused reason)) s = .next t ∧ LanesKept s t ∧ t.fbi = s.fbi) ∧
      ((∀ y ∈ s.mlu.lanes, ∀ d, y.drain = some d → d.pallet = p → d.target ≠ some s.own) →
        ∃ t, exec (.ownTrailerAnswer p (.released why)) s = .next t ∧ LanesKept s t ∧ t.fbi = s.fbi)) ∧
  (∀ (k : Nat) (s : State), s.resetLine = false →
      ((∀ d, s.drainAt k = some d → d.state ≠ .asked ∨ ∀ b, d.deadline = some b → s.dcu.beat < b) →
        ∃ t, exec (.drainAnswerDeadlineExpiry k) s = .next t ∧ LanesKept s t ∧ t.fbi = s.fbi) ∧
      ((∀ d, s.drainAt k = some d → d.state = .seeking ∨ d.state = .asked ∨
          ∀ b, d.deadline = some b → s.dcu.beat < b) →
        ∃ t, exec (.drainGuardDeadlineExpiry k) s = .next t ∧ LanesKept s t ∧ t.fbi = s.fbi)) ∧
  (∀ (k b : Nat) (g : GrantBody) (l : Lane) (d : Drain) (s : State), s.resetLine = false →
    s.lane? k = some l → l.drain = some d → d.pallet = g.pallet → d.state = .asked →
    d.target = some b → OnlyAsked s l g.pallet →
    (d.seq = some g.seq → g.asker = s.own → placeKind g.place = .trailer →
      ∃ t, exec (.mluGrant b g) s = .next t ∧ t.fbi = s.fbi ∧ OtherLanesKept s t k ∧
        t.lane? k = some { l with drain := some { d with
          state := .granted, place := some g.place, owedAsk := none
          deadline := some (s.dcu.beat + g.hold + s.scu.config.guardMargin) } } ∧
        .indicationRequest { source := .mlu, indication := indicationOf s.own (.drain k b)
                             pallet := none } ∈ t.handed) ∧
    (∀ row sd tier hold, b = s.own →
      ∃ t, exec (.ownTrailerAnswer g.pallet (.granted row sd tier hold)) s = .next t ∧ t.fbi = s.fbi ∧
        OtherLanesKept s t k ∧ t.lane? k = some { l with drain := some { d with
          state := .granted, place := some (.trailer row sd tier), owedAsk := none
          deadline := some (s.dcu.beat + hold + s.scu.config.guardMargin) } } ∧
        .indicationRequest { source := .mlu, indication := indicationOf s.own (.drain k s.own)
                             pallet := none } ∈ t.handed)) ∧
  (∀ (b : Nat) (g : GrantBody) (s : State), s.resetLine = false →
    (∀ x ∈ s.mlu.lanes, ∀ e, x.drain = some e → e.pallet = g.pallet → e.target = some b →
      e.state ≠ .asked ∧ e.state ≠ .granted) →
    (s.dsu.borrowers[g.seq]?.getD none = some .mlu → ∀ f : OwnedFrame,
      f = { owner := .mlu, built := s.serial, target := b, body := .release
              { pallet := g.pallet, asker := s.own, seq := g.seq, reason := .late } } →
      ∃ t, exec (.mluGrant b g) s = .next t ∧ LanesKept s t ∧ MluFrameRefused s t f ∧
        (s.offerResult = .placed → t.fbi = (s.placeFrame (.owned f)).fbi)) ∧
    (s.dsu.borrowers[g.seq]?.getD none ≠ some .mlu →
      ∃ t, exec (.mluGrant b g) s = .next t ∧ LanesKept s t ∧ t.fbi = s.fbi) ∧
    (∀ row sd tier hold, b = s.own →
      ∃ t, exec (.ownTrailerAnswer g.pallet (.granted row sd tier hold)) s = .next t ∧
      LanesKept s t ∧ t.fbi = s.fbi ∧ .ownDrainRelease g.pallet .late ∈ t.handed)) ∧
  (∀ (b : Nat) (g : GrantBody) (x : Lane) (e : Drain) (s : State), s.resetLine = false →
    x ∈ s.mlu.lanes → x.drain = some e → e.pallet = g.pallet → e.target = some b → e.state = .granted →
    (∀ y ∈ s.mlu.lanes, ∀ d, y.drain = some d → d.pallet = g.pallet → d.state ≠ .asked) →
    (∃ t, exec (.mluGrant b g) s = .next t ∧ LanesKept s t ∧ t.fbi = s.fbi) ∧
    (∀ row sd tier hold, b = s.own → ∃ t rest,
      exec (.ownTrailerAnswer g.pallet (.granted row sd tier hold)) s = .next t ∧ LanesKept s t ∧
      t.fbi = s.fbi ∧ t.handed = (s.drop (.ownTrailerAnswer g.pallet
        (.granted row sd tier hold))).handed ++ rest ∧ .ownDrainRelease g.pallet .late ∉ rest)) ∧
  (∀ (k b : Nat) (x : RefuseBody) (c : Instr) (l : Lane) (d : Drain) (s : State), s.resetLine = false →
    s.lane? k = some l → l.drain = some d → d.pallet = x.pallet → d.state = .asked →
    d.target = some b → OnlyAsked s l x.pallet →
    (c = .mluRefuse b x ∧ d.seq = some x.seq ∧ x.asker = s.own ∨
      c = .ownTrailerAnswer x.pallet (.refused x.reason) ∧ b = s.own) →
    ∃ t, exec c s = .next t ∧ t.fbi = s.fbi ∧ OtherLanesKept s t k ∧
      ((x.reason = .busy ∨ x.reason = .held) → t.lane? k = some { l with
        drain := some (drainSeeking d (some (s.dcu.beat + 2))) }) ∧
      (x.reason ≠ .busy → x.reason ≠ .held → d.excluded.length < 4 → b ∉ d.excluded →
        ∃ n, SearchAsked t k (l.dest.getD 0) n ∧ t.lane? k = some { l with
          drain := some { drainSeeking { d with excluded := d.excluded ++ [b] } none with
            search := some (freshSearch n) } }) ∧
      (x.reason ≠ .busy → x.reason ≠ .held → 4 ≤ d.excluded.length → t.lane? k = some { l with
        blocked := true, drain := some (drainSeeking d none) })) ∧
  (∀ (k b : Nat) (l : Lane) (d : Drain) (s : State), s.resetLine = false → s.lane? k = some l →
    l.drain = some d → d.deadline = some b → b ≤ s.dcu.beat →
    (d.state = .asked → ∃ t, exec (.drainAnswerDeadlineExpiry k) s = .next t ∧ t.fbi = s.fbi ∧
      OtherLanesKept s t k ∧
      t.lane? k = some { l with drain := some (drainSeeking d (some (s.dcu.beat + 2))) }) ∧
    ((d.state = .granted ∨ d.state = .inTransit) →
      ∃ t m, exec (.drainGuardDeadlineExpiry k) s = .next t ∧ t.fbi = s.fbi ∧ OtherLanesKept s t k ∧
        t.lane? k = some m ∧ m.items = l.items ∧ m.puts = l.puts ∧ DrainCleared m ∧
        LaneJudged s t { l with drain := none } m ∧
        (d.state = .inTransit → .noticeRaise .orphan ∈ t.handed))) ∧
  (∀ (k b : Nat) (x : ReleaseBody) (c : Instr) (l : Lane) (d : Drain) (s : State), s.resetLine = false →
    1 ≤ k → k ≤ 4 → s.lane? k = some l → l.drain = some d → d.pallet = x.pallet → d.target = some b →
    x.reason ≠ .late → x.reason ≠ .cancel →
    (c = .mluRelease b x ∧ d.seq = some x.seq ∧ x.asker = s.own ∨
      c = .ownTrailerAnswer x.pallet (.released x.reason) ∧ b = s.own) →
    (d.state = .asked → ∃ t n, exec c s = .next t ∧ t.fbi = s.fbi ∧ UnrelatedLanesKept s t k x.pallet ∧
      SearchAsked t k (l.dest.getD 0) n ∧
      t.lane? k = some { l with drain := some { drainSeeking d none with search := some (freshSearch n) } }) ∧
    ((d.state = .granted ∨ d.state = .inTransit) →
      ∃ t m, exec c s = .next t ∧ t.fbi = s.fbi ∧ UnrelatedLanesKept s t k x.pallet ∧ t.lane? k = some m ∧
        m.items = l.items ∧ m.puts = l.puts ∧ DrainCleared m ∧
        LaneJudged s t { l with drain := none } m ∧
        (d.state = .inTransit → .noticeRaise .orphan ∈ t.handed))) ∧
  (∀ (k b : Nat) (x : PlacedBody) (l : Lane) (d : Drain) (s : State), s.resetLine = false →
    1 ≤ k → k ≤ 4 → s.lane? k = some l → l.drain = some d → d.pallet = x.pallet →
    ∃ t m, exec (.mluPlaced b x) s = .next t ∧ t.lane? k = some m ∧
      UnrelatedLanesKept s t k x.pallet ∧ m.puts = l.puts ∧
      (d.state = .seeking → m = l) ∧
      (d.state = .inTransit → m.items = l.items) ∧
      ((d.state = .asked ∨ d.state = .granted) → ∀ head rest, l.items = head :: rest →
        m.items = if head.pallet = d.pallet then rest else l.items) ∧
      (l.items = [] → m.items = []) ∧
      (d.state ≠ .seeking → DrainCleared m ∧ LaneJudged s t { l with items := m.items, drain := none } m) ∧
      (NoOtherDrain s k x.pallet → (d.state = .seeking ∨ d.state = .asked ∨
        d.target = some b ∧ placeKind x.place = .trailer) → t.fbi = s.fbi) ∧
      ((d.state = .granted ∨ d.state = .inTransit) →
        (d.target ≠ some b ∨ placeKind x.place ≠ .trailer) →
        (d.target = some s.own → .ownDrainRelease d.pallet .cancel ∈ t.handed ∧
          (NoOtherDrain s k x.pallet → t.fbi = s.fbi)) ∧
        (∀ e n, d.target = some e → e ≠ s.own → d.seq = some n → NoOtherDrain s k x.pallet →
          MluFrameRefused s t
            { owner := .mlu, built := s.serial, target := e, body := .release
                { pallet := d.pallet, asker := s.own, seq := n, reason := .cancel } }) ∧
        (∀ e n, d.target = some e → e ≠ s.own → d.seq = some n → s.offerResult = .placed →
          (s.fbi.tx.length + 4 ≤ 12 → ∃ f, .owned f ∈ t.fbi.tx ∧ f.target = e ∧ f.body = .release
            { pallet := d.pallet, asker := s.own, seq := n, reason := .cancel }) ∧
          (NoOtherDrain s k x.pallet → t.fbi = (s.placeFrame (.owned
            { owner := .mlu, built := s.serial, target := e, body := .release
                { pallet := d.pallet, asker := s.own, seq := n, reason := .cancel } })).fbi)))) ∧
  (∀ (d : Drain) (r : Option Nat), drainSeeking d r = { d with
      state := .seeking, target := none, seq := none, place := none, deadline := none, retryAt := r
      owedAsk := none, search := none }) ∧
  (∀ (f : OwnedFrame) (a : AskBody) (s : State), f.owner = .mlu → f.body = .ask a →
    (∀ k l d, s.lane? k = some l → l.drain = some d → d.pallet = a.pallet → d.state = .asked →
      d.target = some a.target → d.seq = some a.seq → OnlyAsked s l a.pallet →
      ∃ n, (s.toldFailed f).fbi = s.fbi ∧ OtherLanesKept s (s.toldFailed f) k ∧
        SearchAsked (s.toldFailed f) k (l.dest.getD 0) n ∧ (s.toldFailed f).lane? k = some { l with
          drain := some { drainSeeking d none with search := some (freshSearch n) } }) ∧
    ((∀ x ∈ s.mlu.lanes, ∀ d, x.drain = some d → d.pallet = a.pallet →
      d.state ≠ .asked ∨ d.target ≠ some a.target ∨ d.seq ≠ some a.seq) → s.toldFailed f = s))

/-- O59. A request waits its turn, becomes current at the dwell, and gives way to the idle indication; a spent
show deadline, and the state shown at a change, are the model's readings: notes/assumptions/3.md and 26.md
(R149, R150, R151, R152, R153, R154, R157). -/
def Obligations.IndicationsTakeTheirTurn : Prop :=
  (∀ s : State, s.resetLine = false →
      ((∀ b, s.gdu.dwell = some b → s.dcu.beat < b) →
        exec .dwellExpiry s = .next (s.drop .dwellExpiry)) ∧
      ((∀ b, s.gdu.showBy = some b → s.dcu.beat < b) →
        exec .showExpiry s = .next (s.drop .showExpiry))) ∧
  (∀ (g : Gdu) (k : Nat), 1 ≤ k → k ≤ 12 → g.channels[k - 1]? = some (channelAt g k)) ∧
  (∀ g : Gdu, redFaulted g = faulted (channelAt g 1)) ∧
  (∀ own b k r t : Nat, ∀ sd : Side,
    Shows (indicationOf own .wait) (some .amber) .steady .dashes none none none ∧
    Shows (indicationOf own (.goDoor b)) (some .green) .steady (.number b) none none none ∧
    Shows (indicationOf own (.goLane k)) (some .green) .steady (.number own) none none (some (k, .steady)) ∧
    Shows (indicationOf own (.goRemoteLane b)) (some .green) .slow (.number b) none none none ∧
    Shows (indicationOf own .except) (some .red) .steady .blank none none none ∧
    Shows (indicationOf own .fullTable) (some .red) .fast .dashes none none none ∧
    Shows (indicationOf own (.loadAt r sd t)) (some .green) .steady (.number r) (some sd) (some t) none ∧
    Shows (indicationOf own (.walkinAt r sd t)) (some .green) .slow (.number r) (some sd) (some t) none ∧
    Shows (indicationOf own .refused) (some .red) .fast .blank none none none ∧
    Shows (indicationOf own (.drain k b)) none .off (.number b) none none (some (k, .slow)) ∧
    Shows (indicationOf own .holding) (some .amber) .slow .blank none none none ∧
    Shows (indicationOf own .closed) (some .red) .steady .dashes none none none ∧
    Shows (indicationOf own .dark) none .off .blank none none none ∧
    ∀ n : IndicationName, (indicationOf own n).name = n) ∧
  (∀ suspended : Bool, idleIndication none suspended = .dark ∧
    (∀ st ∈ [BayState.listen, .unconfigured, .blocked], idleIndication (some st) suspended = .holding) ∧
    (∀ st ∈ [BayState.inbound, .outbound, .closing],
      idleIndication (some st) suspended = if suspended then .holding else .dark) ∧
    (∀ st ∈ [BayState.empty, .docked], idleIndication (some st) suspended = .dark) ∧
    idleIndication (some .closed) suspended = .closed) ∧
  (∀ (substitute : Bool) (i : Indication),
    (substitute = false ∨ i.colour ≠ some .red →
      channelPattern substitute i 1 = (if i.colour = some .red then i.pattern else .off) ∧
      channelPattern substitute i 2 = (if i.colour = some .amber then i.pattern else .off) ∧
      channelPattern substitute i 3 = if i.colour = some .green then i.pattern else .off) ∧
    (substitute = true → i.colour = some .red → channelPattern substitute i 1 = .off ∧
      channelPattern substitute i 2 = .fast ∧ channelPattern substitute i 3 = .off) ∧
    (∀ k, 1 ≤ k → k ≤ 4 →
      channelPattern substitute i (k + 3) = if i.lane = some k then i.lanePattern else .off) ∧
    channelPattern substitute i 8 = (if i.side = some .left then .steady else .off) ∧
    channelPattern substitute i 9 = (if i.side = some .right then .steady else .off) ∧
    ∀ k, 1 ≤ k → k ≤ 3 → channelPattern substitute i (k + 9) = if i.tier = some k then .steady else .off) ∧
  (∀ s : State,
    (s.dcu.bayState = some .unconfigured → s.minimumDwell = 2 ∧ s.showTime = 15) ∧
    (s.dcu.bayState ≠ some .unconfigured → s.minimumDwell = s.scu.config.minimumDwell ∧
      s.showTime = s.scu.config.showTime)) ∧
  (∀ (r : IndicationRequest) (s : State), s.resetLine = false → s.gdu.dwellRunning = false →
    s.gdu.buffer = none → exec (.indicationRequest r) s = .next
      { s.drop (.indicationRequest r) with
        handed := .dwellExpiry :: (s.drop (.indicationRequest r)).handed
        gdu := { s.gdu with buffer := some r, dwell := some s.dcu.beat } }) ∧
  (∀ (r : IndicationRequest) (s : State), s.resetLine = false →
    (s.gdu.dwellRunning = true ∨ s.gdu.buffer ≠ none) →
    (s.gdu.fifo.length < 4 → exec (.indicationRequest r) s = .next
      { s.drop (.indicationRequest r) with gdu := { s.gdu with fifo := s.gdu.fifo ++ [r] } }) ∧
    (∀ old rest, s.gdu.fifo = old :: rest → 4 ≤ s.gdu.fifo.length →
      ∃ t, exec (.indicationRequest r) s = .next t ∧ t.gdu = { s.gdu with fifo := rest ++ [r] } ∧
        (old.pallet = none → HandsOn (s.drop (.indicationRequest r)) t []) ∧
        (∀ p, old.pallet = some p → HandsOn (s.drop (.indicationRequest r)) t
          [.droppedReport p old.indication]))) ∧
  (∀ (b : Nat) (r : IndicationRequest) (s : State), s.resetLine = false → s.gdu.dwell = some b →
    b ≤ s.dcu.beat → (s.gdu.buffer = some r ∨ s.gdu.buffer = none ∧ s.gdu.fifo.head? = some r) →
    ∃ t, exec .dwellExpiry s = .next t ∧ t.gdu.current = r.indication ∧ t.gdu.request = some r ∧
      t.gdu.commitBeat = s.dcu.beat ∧ t.gdu.dwellRunning = true ∧
      t.gdu.dwell = some (s.dcu.beat + s.minimumDwell) ∧ t.gdu.showBy = some (s.dcu.beat + s.showTime) ∧
      t.gdu.buffer = none ∧
      t.gdu.fifo = (if s.gdu.buffer = none then s.gdu.fifo.tail else s.gdu.fifo) ∧
      (∀ k, 1 ≤ k → k ≤ 12 →
        (channelAt t.gdu k).pattern = channelPattern (redFaulted s.gdu) r.indication k ∧
        (channelAt t.gdu k).on = decide (channelPattern (redFaulted s.gdu) r.indication k ≠ .off) ∧
        faulted (channelAt t.gdu k) = faulted (channelAt s.gdu k)) ∧
      (r.pallet = none → HandsOn (s.drop .dwellExpiry) t []) ∧
      (∀ p, r.pallet = some p → HandsOn (s.drop .dwellExpiry) t [.shownReport p r.indication])) ∧
  (∀ (b : Nat) (s : State), s.resetLine = false → s.gdu.dwell = some b → b ≤ s.dcu.beat →
    s.gdu.buffer = none → s.gdu.fifo = [] → exec .dwellExpiry s = .next
      { s.drop .dwellExpiry with gdu := { s.gdu with dwellRunning := false, dwell := none } }) ∧
  (∀ (b : Nat) (s : State), s.resetLine = false → s.gdu.showBy = some b → b ≤ s.dcu.beat →
    s.gdu.buffer = none → s.gdu.fifo = [] → s.gdu.request ≠ none →
    ∃ t, exec .showExpiry s = .next t ∧ t.gdu.request = none ∧ t.gdu.showBy = none ∧
      t.gdu.current = indicationOf s.own (idleIndication s.dcu.bayState s.dcu.suspended) ∧
      t.gdu.dwellRunning = s.gdu.dwellRunning ∧ t.gdu.dwell = s.gdu.dwell ∧
      HandsOn (s.drop .showExpiry) t [] ∧
      ∀ k, 1 ≤ k → k ≤ 12 → (channelAt t.gdu k).pattern =
        channelPattern (redFaulted s.gdu) t.gdu.current k) ∧
  (∀ (b : Nat) (s : State), s.resetLine = false → s.gdu.showBy = some b → b ≤ s.dcu.beat →
    (s.gdu.buffer ≠ none ∨ s.gdu.fifo ≠ [] ∨ s.gdu.request = none) →
    exec .showExpiry s = .next { s.drop .showExpiry with gdu := { s.gdu with showBy := none } }) ∧
  (∀ s : State, s.resetLine = false → s.gdu.request = none →
    ∃ t, exec .bayStateChange s = .next t ∧ t.gdu.request = none ∧
      t.gdu.current = indicationOf s.own (idleIndication s.dcu.bayState s.dcu.suspended) ∧
      t.gdu.dwell = s.gdu.dwell ∧ HandsOn (s.drop .bayStateChange) t [] ∧
      ∀ k, 1 ≤ k → k ≤ 12 → (channelAt t.gdu k).pattern =
        channelPattern (redFaulted s.gdu) t.gdu.current k) ∧
  (∀ s : State, s.resetLine = false → s.gdu.request ≠ none →
    exec .bayStateChange s = .next (s.drop .bayStateChange))

/-- O60. A sensing sets a fault flag once and reports it, CLEAR LAMP clears it, and a drive rises and falls
through its ramp; the course of a ramp and the latched level are the model's: notes/assumptions/15.md. The
order of one event's hand-overs, where no rule gives it, is the model's choice: notes/assumptions/47.md
(R150, R155, R156, R157, R158, R174). -/
def Obligations.LampsAreSensedAndRamped : Prop :=
  (∀ (k : Nat) (c : Channel) (s : State), s.setChannel k c = { s with gdu := { s.gdu with
      channels := s.gdu.channels.setIfInBounds (k - 1) c } }) ∧
  (∀ (k : Nat) (f : LampFinding) (s : State), s.resetLine = false → (k = 0 ∨ 12 < k) →
      exec (.lampSensing k f) s = .next s ∧ exec (.patternHalfEnd k) s = .next s) ∧
  (rampTime 0 = 0 ∧ rampTime 1 = 100 ∧ rampTime 2 = 300 ∧ rampTime 3 = 600) ∧
  (∀ c : Channel, (faulted c = true ↔ c.openFault = true ∨ c.shortFault = true) ∧
    (sensed c = true ↔ c.on = true ∧ c.level ≠ 0 ∧ c.shortFault = false ∧ c.drive = c.level * 600) ∧
    (hasFault c .openFault = c.openFault ∧ hasFault c .shortFault = c.shortFault)) ∧
  (∀ (k g : Nat) (x : IntensityGroup) (s : State), 1 ≤ k → k ≤ 12 →
    (s.dcu.bayState = some .unconfigured → (s.channelIntensity k).level = 255 ∧
      (s.channelIntensity k).slope = 0) ∧
    (s.dcu.bayState ≠ some .unconfigured → s.scu.config.channelGroup[k - 1]? = some g →
      s.scu.config.groups[g - 1]? = some x → s.channelIntensity k = x)) ∧
  (∀ (k : Nat) (s : State), s.resetLine = false → 2 ≤ k → k ≤ 12 → sensed (channelAt s.gdu k) = true →
    (faulted (channelAt s.gdu k) = false → exec (.lampSensing k .tooLow) s =
      .next ((s.setChannel k { channelAt s.gdu k with openFault := true }).handAll
        (.noticeRaise .lampFault :: if 4 ≤ k ∧ k ≤ 7 then [.lampFaultReport (k - 3)] else []))) ∧
    (faulted (channelAt s.gdu k) = false → exec (.lampSensing k .tooHigh) s =
      .next ((s.setChannel k { channelAt s.gdu k with shortFault := true, drive := 0 }).handAll
        (.noticeRaise .lampFault :: if 4 ≤ k ∧ k ≤ 7 then [.lampFaultReport (k - 3)] else []))) ∧
    (faulted (channelAt s.gdu k) = true →
      exec (.lampSensing k .tooLow) s = .next s ∧ exec (.lampSensing k .tooHigh) s =
        .next ((s.setChannel k { channelAt s.gdu k with shortFault := true, drive := 0 }).hand
          (.noticeRaise .lampFault)))) ∧
  (∀ (k : Nat) (f : LampFinding) (s : State), s.resetLine = false →
    (f = .normal ∨ sensed (channelAt s.gdu k) = false) → exec (.lampSensing k f) s = .next s) ∧
  (∀ (f : LampFinding) (s : State), s.resetLine = false → sensed (channelAt s.gdu 1) = true →
    f ≠ .normal → faulted (channelAt s.gdu 1) = false →
    ∃ t, exec (.lampSensing 1 f) s = .next t ∧ redFaulted t.gdu = true ∧
      (channelAt t.gdu 1).openFault = decide (f = .tooLow) ∧
      (channelAt t.gdu 1).shortFault = decide (f = .tooHigh) ∧
      (f = .tooHigh → (channelAt t.gdu 1).drive = 0) ∧
      HandsOn s t [.noticeRaise .lampFault] ∧ t.gdu.current = s.gdu.current ∧
      (∀ k, 3 ≤ k → k ≤ 12 → channelAt t.gdu k = channelAt s.gdu k) ∧
      (s.gdu.current.colour ≠ some .red → channelAt t.gdu 2 = channelAt s.gdu 2) ∧
      (s.gdu.current.colour = some .red → (channelAt t.gdu 1).on = false ∧
        (channelAt t.gdu 2).pattern = .fast ∧ (channelAt t.gdu 2).on = true)) ∧
  (∀ s : State, s.resetLine = false → sensed (channelAt s.gdu 1) = true →
    faulted (channelAt s.gdu 1) = true →
    exec (.lampSensing 1 .tooLow) s = .next s ∧ exec (.lampSensing 1 .tooHigh) s =
      .next ((s.setChannel 1 { channelAt s.gdu 1 with shortFault := true, drive := 0 }).hand
        (.noticeRaise .lampFault))) ∧
  (∀ (k : Nat) (kind : FaultKind) (s : State), s.ready = true → 1 ≤ k → k ≤ 12 →
    hasFault (channelAt s.gdu k) kind = true →
    ∃ t, exec (.clearLamp k (some kind)) s = .next t ∧ hasFault (channelAt t.gdu k) kind = false ∧
      (∀ other, other ≠ kind → hasFault (channelAt t.gdu k) other = hasFault (channelAt s.gdu k) other) ∧
      t.scu.answer = some { request := .clearLamp, code := .ok, data := .nothing } ∧
      (∀ j, 3 ≤ j → j ≤ 12 → j ≠ k → channelAt t.gdu j = channelAt s.gdu j) ∧
      HandsOn s t (if faulted (channelAt t.gdu k) = false ∧ 4 ≤ k ∧ k ≤ 7 then
        [.lampClearReport (k - 3)] else []) ∧
      (k = 1 → faulted (channelAt t.gdu 1) = false → s.gdu.current.colour = some .red →
        (channelAt t.gdu 1).pattern = s.gdu.current.pattern ∧ (channelAt t.gdu 2).on = false)) ∧
  (∀ (k : Nat) (kind : Option FaultKind) (s : State), s.ready = true →
    ((k = 0 ∨ 12 < k ∨ kind = none) →
      exec (.clearLamp k kind) s = .next (s.answer .clearLamp .range .nothing)) ∧
    (∀ f, kind = some f → 1 ≤ k → k ≤ 12 → hasFault (channelAt s.gdu k) f = false →
      exec (.clearLamp k kind) s = .next (s.answer .clearLamp .state .nothing))) ∧
  (∀ (k : Nat) (s : State), s.resetLine = false → 1 ≤ k → k ≤ 12 →
    ((channelAt s.gdu k).pattern = .slow ∨ (channelAt s.gdu k).pattern = .fast) →
    ∃ c, exec (.patternHalfEnd k) s = .next (s.setChannel k c) ∧ c.on = !(channelAt s.gdu k).on ∧
      c.pattern = (channelAt s.gdu k).pattern ∧ c.openFault = (channelAt s.gdu k).openFault ∧
      c.shortFault = (channelAt s.gdu k).shortFault ∧
      ((c.on = true ∨ (s.channelIntensity k).level ≠ 0) → c.level = (s.channelIntensity k).level ∧
        c.ramp = rampTime (s.channelIntensity k).slope) ∧
      (c.on = false → (s.channelIntensity k).level = 0 → c.level = (channelAt s.gdu k).level ∧
        c.ramp = rampTime (s.channelIntensity k).slope) ∧
      (c.shortFault = true → c.drive = 0) ∧
      (c.shortFault = false → (c.ramp = 0 ∨ c.level = 0) →
        c.drive = if c.on then c.level * 600 else 0) ∧
      (c.shortFault = false → c.ramp ≠ 0 → c.level ≠ 0 → c.drive = (channelAt s.gdu k).drive)) ∧
  (∀ (k : Nat) (s : State), s.resetLine = false →
    ((channelAt s.gdu k).pattern = .steady ∨ (channelAt s.gdu k).pattern = .off) →
    exec (.patternHalfEnd k) s = .next s) ∧
  (∀ c : Channel, c.on = true → c.shortFault = false → c.drive = 0 →
    (c.ramp = 100 ∨ c.ramp = 300 ∨ c.ramp = 600) →
    (∀ n, n ≤ c.ramp → (Nat.iterate rampChannel n c).drive = n * (c.level * 600 / c.ramp)) ∧
    Nat.iterate rampChannel c.ramp c = { c with drive := c.level * 600 }) ∧
  (∀ c : Channel, c.on = false → c.shortFault = false → c.drive = c.level * 600 →
    (c.ramp = 100 ∨ c.ramp = 300 ∨ c.ramp = 600) →
    (∀ n, n ≤ c.ramp →
      (Nat.iterate rampChannel n c).drive + n * (c.level * 600 / c.ramp) = c.level * 600) ∧
    Nat.iterate rampChannel c.ramp c = { c with drive := 0 }) ∧
  (∀ c : Channel, c.level = 0 → (rampChannel c).drive = 0)
end

