-- ==== Sys2Proof/Laws/State.lean ====
section
/-! SUPPORT. What each update of the state changes and what it leaves: one lemma per field per update, each
true by `rfl`, so that no proof unfolds a record update. The readers of the state are carried over likewise. -/

namespace Sys2Proof.Machine

/-! ## `State.drop` -/

@[simp] theorem State.drop_pending (s : State) (c : Instr) : (s.drop c).pending = s.pending := rfl
@[simp] theorem State.drop_handed (s : State) (c : Instr) : (s.drop c).handed = s.handed.erase c := rfl
@[simp] theorem State.drop_serial (s : State) (c : Instr) : (s.drop c).serial = s.serial := rfl
@[simp] theorem State.drop_resetLine (s : State) (c : Instr) : (s.drop c).resetLine = s.resetLine := rfl
@[simp] theorem State.drop_dcu (s : State) (c : Instr) : (s.drop c).dcu = s.dcu := rfl
@[simp] theorem State.drop_fbi (s : State) (c : Instr) : (s.drop c).fbi = s.fbi := rfl
@[simp] theorem State.drop_pdr (s : State) (c : Instr) : (s.drop c).pdr = s.pdr := rfl
@[simp] theorem State.drop_dsu (s : State) (c : Instr) : (s.drop c).dsu = s.dsu := rfl
@[simp] theorem State.drop_lpu (s : State) (c : Instr) : (s.drop c).lpu = s.lpu := rfl
@[simp] theorem State.drop_mlu (s : State) (c : Instr) : (s.drop c).mlu = s.mlu := rfl
@[simp] theorem State.drop_gdu (s : State) (c : Instr) : (s.drop c).gdu = s.gdu := rfl
@[simp] theorem State.drop_scu (s : State) (c : Instr) : (s.drop c).scu = s.scu := rfl
@[simp] theorem State.drop_now (s : State) (c : Instr) : (s.drop c).now = s.now := rfl
@[simp] theorem State.drop_own (s : State) (c : Instr) : (s.drop c).own = s.own := rfl
@[simp] theorem State.drop_reading (s : State) (c : Instr) : (s.drop c).reading = s.reading := rfl
@[simp] theorem State.drop_inState (s : State) (c : Instr) (st : BayState) :
    (s.drop c).inState st = s.inState st := rfl
@[simp] theorem State.drop_offerResult (s : State) (c : Instr) : (s.drop c).offerResult = s.offerResult := rfl
@[simp] theorem State.drop_plan (s : State) (c : Instr) : (s.drop c).plan = s.plan := rfl
@[simp] theorem State.drop_planClass (s : State) (c : Instr) : (s.drop c).planClass = s.planClass := rfl
@[simp] theorem State.drop_laneOpt (s : State) (c : Instr) (n : Nat) : (s.drop c).lane? n = s.lane? n := rfl
@[simp] theorem State.drop_slotAt (s : State) (c : Instr) (n : Nat) : (s.drop c).slotAt n = s.slotAt n := rfl

/-! ## `State.hand` -/

@[simp] theorem State.hand_pending (s : State) (c : Instr) : (s.hand c).pending = s.pending := rfl
@[simp] theorem State.hand_handed (s : State) (c : Instr) : (s.hand c).handed = s.handed ++ [c] := rfl
@[simp] theorem State.hand_serial (s : State) (c : Instr) : (s.hand c).serial = s.serial := rfl
@[simp] theorem State.hand_resetLine (s : State) (c : Instr) : (s.hand c).resetLine = s.resetLine := rfl
@[simp] theorem State.hand_dcu (s : State) (c : Instr) : (s.hand c).dcu = s.dcu := rfl
@[simp] theorem State.hand_fbi (s : State) (c : Instr) : (s.hand c).fbi = s.fbi := rfl
@[simp] theorem State.hand_pdr (s : State) (c : Instr) : (s.hand c).pdr = s.pdr := rfl
@[simp] theorem State.hand_dsu (s : State) (c : Instr) : (s.hand c).dsu = s.dsu := rfl
@[simp] theorem State.hand_lpu (s : State) (c : Instr) : (s.hand c).lpu = s.lpu := rfl
@[simp] theorem State.hand_mlu (s : State) (c : Instr) : (s.hand c).mlu = s.mlu := rfl
@[simp] theorem State.hand_gdu (s : State) (c : Instr) : (s.hand c).gdu = s.gdu := rfl
@[simp] theorem State.hand_scu (s : State) (c : Instr) : (s.hand c).scu = s.scu := rfl
@[simp] theorem State.hand_now (s : State) (c : Instr) : (s.hand c).now = s.now := rfl
@[simp] theorem State.hand_own (s : State) (c : Instr) : (s.hand c).own = s.own := rfl
@[simp] theorem State.hand_reading (s : State) (c : Instr) : (s.hand c).reading = s.reading := rfl
@[simp] theorem State.hand_inState (s : State) (c : Instr) (st : BayState) :
    (s.hand c).inState st = s.inState st := rfl
@[simp] theorem State.hand_offerResult (s : State) (c : Instr) : (s.hand c).offerResult = s.offerResult := rfl
@[simp] theorem State.hand_plan (s : State) (c : Instr) : (s.hand c).plan = s.plan := rfl
@[simp] theorem State.hand_planClass (s : State) (c : Instr) : (s.hand c).planClass = s.planClass := rfl
@[simp] theorem State.hand_laneOpt (s : State) (c : Instr) (n : Nat) : (s.hand c).lane? n = s.lane? n := rfl
@[simp] theorem State.hand_slotAt (s : State) (c : Instr) (n : Nat) : (s.hand c).slotAt n = s.slotAt n := rfl

/-! ## `State.handAll` -/

@[simp] theorem State.handAll_pending (s : State) (l : List Instr) : (s.handAll l).pending = s.pending := rfl
@[simp] theorem State.handAll_handed (s : State) (l : List Instr) : (s.handAll l).handed = s.handed ++ l := rfl
@[simp] theorem State.handAll_serial (s : State) (l : List Instr) : (s.handAll l).serial = s.serial := rfl
@[simp] theorem State.handAll_resetLine (s : State) (l : List Instr) :
    (s.handAll l).resetLine =
      s.resetLine := rfl
@[simp] theorem State.handAll_dcu (s : State) (l : List Instr) : (s.handAll l).dcu = s.dcu := rfl
@[simp] theorem State.handAll_fbi (s : State) (l : List Instr) : (s.handAll l).fbi = s.fbi := rfl
@[simp] theorem State.handAll_pdr (s : State) (l : List Instr) : (s.handAll l).pdr = s.pdr := rfl
@[simp] theorem State.handAll_dsu (s : State) (l : List Instr) : (s.handAll l).dsu = s.dsu := rfl
@[simp] theorem State.handAll_lpu (s : State) (l : List Instr) : (s.handAll l).lpu = s.lpu := rfl
@[simp] theorem State.handAll_mlu (s : State) (l : List Instr) : (s.handAll l).mlu = s.mlu := rfl
@[simp] theorem State.handAll_gdu (s : State) (l : List Instr) : (s.handAll l).gdu = s.gdu := rfl
@[simp] theorem State.handAll_scu (s : State) (l : List Instr) : (s.handAll l).scu = s.scu := rfl
@[simp] theorem State.handAll_now (s : State) (l : List Instr) : (s.handAll l).now = s.now := rfl
@[simp] theorem State.handAll_own (s : State) (l : List Instr) : (s.handAll l).own = s.own := rfl
@[simp] theorem State.handAll_reading (s : State) (l : List Instr) : (s.handAll l).reading = s.reading := rfl
@[simp] theorem State.handAll_inState (s : State) (l : List Instr) (st : BayState) :
    (s.handAll l).inState st = s.inState st := rfl
@[simp] theorem State.handAll_offerResult (s : State) (l : List Instr) :
    (s.handAll l).offerResult = s.offerResult := rfl
@[simp] theorem State.handAll_plan (s : State) (l : List Instr) : (s.handAll l).plan = s.plan := rfl
@[simp] theorem State.handAll_planClass (s : State) (l : List Instr) :
    (s.handAll l).planClass = s.planClass := rfl
@[simp] theorem State.handAll_laneOpt (s : State) (l : List Instr) (n : Nat) :
    (s.handAll l).lane? n = s.lane? n := rfl
@[simp] theorem State.handAll_slotAt (s : State) (l : List Instr) (n : Nat) :
    (s.handAll l).slotAt n = s.slotAt n := rfl

/-! ## `State.handNext` -/

@[simp] theorem State.handNext_pending (s : State) (c : Instr) : (s.handNext c).pending = s.pending := rfl
@[simp] theorem State.handNext_handed (s : State) (c : Instr) : (s.handNext c).handed = c :: s.handed := rfl
@[simp] theorem State.handNext_serial (s : State) (c : Instr) : (s.handNext c).serial = s.serial := rfl
@[simp] theorem State.handNext_resetLine (s : State) (c : Instr) : (s.handNext c).resetLine = s.resetLine := rfl
@[simp] theorem State.handNext_dcu (s : State) (c : Instr) : (s.handNext c).dcu = s.dcu := rfl
@[simp] theorem State.handNext_fbi (s : State) (c : Instr) : (s.handNext c).fbi = s.fbi := rfl
@[simp] theorem State.handNext_pdr (s : State) (c : Instr) : (s.handNext c).pdr = s.pdr := rfl
@[simp] theorem State.handNext_dsu (s : State) (c : Instr) : (s.handNext c).dsu = s.dsu := rfl
@[simp] theorem State.handNext_lpu (s : State) (c : Instr) : (s.handNext c).lpu = s.lpu := rfl
@[simp] theorem State.handNext_mlu (s : State) (c : Instr) : (s.handNext c).mlu = s.mlu := rfl
@[simp] theorem State.handNext_gdu (s : State) (c : Instr) : (s.handNext c).gdu = s.gdu := rfl
@[simp] theorem State.handNext_scu (s : State) (c : Instr) : (s.handNext c).scu = s.scu := rfl
@[simp] theorem State.handNext_now (s : State) (c : Instr) : (s.handNext c).now = s.now := rfl
@[simp] theorem State.handNext_own (s : State) (c : Instr) : (s.handNext c).own = s.own := rfl
@[simp] theorem State.handNext_reading (s : State) (c : Instr) : (s.handNext c).reading = s.reading := rfl
@[simp] theorem State.handNext_inState (s : State) (c : Instr) (st : BayState) :
    (s.handNext c).inState st = s.inState st := rfl
@[simp] theorem State.handNext_offerResult (s : State) (c : Instr) :
    (s.handNext c).offerResult = s.offerResult := rfl
@[simp] theorem State.handNext_plan (s : State) (c : Instr) : (s.handNext c).plan = s.plan := rfl
@[simp] theorem State.handNext_planClass (s : State) (c : Instr) : (s.handNext c).planClass = s.planClass := rfl
@[simp] theorem State.handNext_laneOpt (s : State) (c : Instr) (n : Nat) :
    (s.handNext c).lane? n = s.lane? n := rfl
@[simp] theorem State.handNext_slotAt (s : State) (c : Instr) (n : Nat) :
    (s.handNext c).slotAt n = s.slotAt n := rfl

/-! ## `State.raiseNotice` -/

@[simp] theorem State.raiseNotice_pending (s : State) (k : NoticeKind) :
    (s.raiseNotice k).pending =
      s.pending := rfl
@[simp] theorem State.raiseNotice_handed (s : State) (k : NoticeKind) :
    (s.raiseNotice k).handed =
      s.handed ++ [.noticeRaise k] := rfl
@[simp] theorem State.raiseNotice_serial (s : State) (k : NoticeKind) :
    (s.raiseNotice k).serial =
      s.serial := rfl
@[simp] theorem State.raiseNotice_resetLine (s : State) (k : NoticeKind) :
    (s.raiseNotice k).resetLine =
      s.resetLine := rfl
@[simp] theorem State.raiseNotice_dcu (s : State) (k : NoticeKind) : (s.raiseNotice k).dcu = s.dcu := rfl
@[simp] theorem State.raiseNotice_fbi (s : State) (k : NoticeKind) : (s.raiseNotice k).fbi = s.fbi := rfl
@[simp] theorem State.raiseNotice_pdr (s : State) (k : NoticeKind) : (s.raiseNotice k).pdr = s.pdr := rfl
@[simp] theorem State.raiseNotice_dsu (s : State) (k : NoticeKind) : (s.raiseNotice k).dsu = s.dsu := rfl
@[simp] theorem State.raiseNotice_lpu (s : State) (k : NoticeKind) : (s.raiseNotice k).lpu = s.lpu := rfl
@[simp] theorem State.raiseNotice_mlu (s : State) (k : NoticeKind) : (s.raiseNotice k).mlu = s.mlu := rfl
@[simp] theorem State.raiseNotice_gdu (s : State) (k : NoticeKind) : (s.raiseNotice k).gdu = s.gdu := rfl
@[simp] theorem State.raiseNotice_scu (s : State) (k : NoticeKind) : (s.raiseNotice k).scu = s.scu := rfl
@[simp] theorem State.raiseNotice_now (s : State) (k : NoticeKind) : (s.raiseNotice k).now = s.now := rfl
@[simp] theorem State.raiseNotice_own (s : State) (k : NoticeKind) : (s.raiseNotice k).own = s.own := rfl
@[simp] theorem State.raiseNotice_reading (s : State) (k : NoticeKind) :
    (s.raiseNotice k).reading = s.reading := rfl
@[simp] theorem State.raiseNotice_inState (s : State) (k : NoticeKind) (st : BayState) :
    (s.raiseNotice k).inState st = s.inState st := rfl
@[simp] theorem State.raiseNotice_offerResult (s : State) (k : NoticeKind) :
    (s.raiseNotice k).offerResult = s.offerResult := rfl
@[simp] theorem State.raiseNotice_plan (s : State) (k : NoticeKind) : (s.raiseNotice k).plan = s.plan := rfl
@[simp] theorem State.raiseNotice_planClass (s : State) (k : NoticeKind) :
    (s.raiseNotice k).planClass = s.planClass := rfl
@[simp] theorem State.raiseNotice_laneOpt (s : State) (k : NoticeKind) (n : Nat) :
    (s.raiseNotice k).lane? n = s.lane? n := rfl
@[simp] theorem State.raiseNotice_slotAt (s : State) (k : NoticeKind) (n : Nat) :
    (s.raiseNotice k).slotAt n = s.slotAt n := rfl

/-! ## `State.indicate` -/

@[simp] theorem State.indicate_pending (s : State) (b : Block) (n : IndicationName) (p : Option Nat) :
    (s.indicate b n p).pending =
      s.pending := rfl
@[simp] theorem State.indicate_handed (s : State) (b : Block) (n : IndicationName) (p : Option Nat) :
    (s.indicate b n p).handed =
      s.handed ++ [.indicationRequest { source := b, indication := indicationOf s.own n, pallet := p }] := rfl
@[simp] theorem State.indicate_serial (s : State) (b : Block) (n : IndicationName) (p : Option Nat) :
    (s.indicate b n p).serial =
      s.serial := rfl
@[simp] theorem State.indicate_resetLine (s : State) (b : Block) (n : IndicationName) (p : Option Nat) :
    (s.indicate b n p).resetLine =
      s.resetLine := rfl
@[simp] theorem State.indicate_dcu (s : State) (b : Block) (n : IndicationName) (p : Option Nat) :
    (s.indicate b n p).dcu =
      s.dcu := rfl
@[simp] theorem State.indicate_fbi (s : State) (b : Block) (n : IndicationName) (p : Option Nat) :
    (s.indicate b n p).fbi =
      s.fbi := rfl
@[simp] theorem State.indicate_pdr (s : State) (b : Block) (n : IndicationName) (p : Option Nat) :
    (s.indicate b n p).pdr =
      s.pdr := rfl
@[simp] theorem State.indicate_dsu (s : State) (b : Block) (n : IndicationName) (p : Option Nat) :
    (s.indicate b n p).dsu =
      s.dsu := rfl
@[simp] theorem State.indicate_lpu (s : State) (b : Block) (n : IndicationName) (p : Option Nat) :
    (s.indicate b n p).lpu =
      s.lpu := rfl
@[simp] theorem State.indicate_mlu (s : State) (b : Block) (n : IndicationName) (p : Option Nat) :
    (s.indicate b n p).mlu =
      s.mlu := rfl
@[simp] theorem State.indicate_gdu (s : State) (b : Block) (n : IndicationName) (p : Option Nat) :
    (s.indicate b n p).gdu =
      s.gdu := rfl
@[simp] theorem State.indicate_scu (s : State) (b : Block) (n : IndicationName) (p : Option Nat) :
    (s.indicate b n p).scu =
      s.scu := rfl
@[simp] theorem State.indicate_now (s : State) (b : Block) (n : IndicationName) (p : Option Nat) :
    (s.indicate b n p).now = s.now := rfl
@[simp] theorem State.indicate_own (s : State) (b : Block) (n : IndicationName) (p : Option Nat) :
    (s.indicate b n p).own = s.own := rfl
@[simp] theorem State.indicate_reading (s : State) (b : Block) (n : IndicationName) (p : Option Nat) :
    (s.indicate b n p).reading = s.reading := rfl
@[simp] theorem State.indicate_inState (s : State) (b : Block) (n : IndicationName) (p : Option Nat) (st : BayState) :
    (s.indicate b n p).inState st = s.inState st := rfl
@[simp] theorem State.indicate_offerResult (s : State) (b : Block) (n : IndicationName) (p : Option Nat) :
    (s.indicate b n p).offerResult = s.offerResult := rfl
@[simp] theorem State.indicate_plan (s : State) (b : Block) (n : IndicationName) (p : Option Nat) :
    (s.indicate b n p).plan = s.plan := rfl
@[simp] theorem State.indicate_planClass (s : State) (b : Block) (n : IndicationName) (p : Option Nat) :
    (s.indicate b n p).planClass = s.planClass := rfl
@[simp] theorem State.indicate_laneOpt (s : State) (b : Block) (n : IndicationName) (p : Option Nat) (m : Nat) :
    (s.indicate b n p).lane? m = s.lane? m := rfl
@[simp] theorem State.indicate_slotAt (s : State) (b : Block) (n : IndicationName) (p : Option Nat) (m : Nat) :
    (s.indicate b n p).slotAt m = s.slotAt m := rfl

/-! ## `State.bump` -/

@[simp] theorem State.bump_pending (s : State) : (s.bump).pending = s.pending := rfl
@[simp] theorem State.bump_handed (s : State) : (s.bump).handed = s.handed := rfl
@[simp] theorem State.bump_serial (s : State) : (s.bump).serial = s.serial + 1 := rfl
@[simp] theorem State.bump_resetLine (s : State) : (s.bump).resetLine = s.resetLine := rfl
@[simp] theorem State.bump_dcu (s : State) : (s.bump).dcu = s.dcu := rfl
@[simp] theorem State.bump_fbi (s : State) : (s.bump).fbi = s.fbi := rfl
@[simp] theorem State.bump_pdr (s : State) : (s.bump).pdr = s.pdr := rfl
@[simp] theorem State.bump_dsu (s : State) : (s.bump).dsu = s.dsu := rfl
@[simp] theorem State.bump_lpu (s : State) : (s.bump).lpu = s.lpu := rfl
@[simp] theorem State.bump_mlu (s : State) : (s.bump).mlu = s.mlu := rfl
@[simp] theorem State.bump_gdu (s : State) : (s.bump).gdu = s.gdu := rfl
@[simp] theorem State.bump_scu (s : State) : (s.bump).scu = s.scu := rfl
@[simp] theorem State.bump_now (s : State) : (s.bump).now = s.now := rfl
@[simp] theorem State.bump_own (s : State) : (s.bump).own = s.own := rfl
@[simp] theorem State.bump_reading (s : State) : (s.bump).reading = s.reading := rfl
@[simp] theorem State.bump_inState (s : State) (st : BayState) : (s.bump).inState st = s.inState st := rfl
@[simp] theorem State.bump_offerResult (s : State) : (s.bump).offerResult = s.offerResult := rfl
@[simp] theorem State.bump_plan (s : State) : (s.bump).plan = s.plan := rfl
@[simp] theorem State.bump_planClass (s : State) : (s.bump).planClass = s.planClass := rfl
@[simp] theorem State.bump_laneOpt (s : State) (n : Nat) : (s.bump).lane? n = s.lane? n := rfl
@[simp] theorem State.bump_slotAt (s : State) (n : Nat) : (s.bump).slotAt n = s.slotAt n := rfl

/-! ## `State.setDcu` -/

@[simp] theorem State.setDcu_pending (s : State) (d : Dcu) : (s.setDcu d).pending = s.pending := rfl
@[simp] theorem State.setDcu_handed (s : State) (d : Dcu) : (s.setDcu d).handed = s.handed := rfl
@[simp] theorem State.setDcu_serial (s : State) (d : Dcu) : (s.setDcu d).serial = s.serial := rfl
@[simp] theorem State.setDcu_resetLine (s : State) (d : Dcu) : (s.setDcu d).resetLine = s.resetLine := rfl
@[simp] theorem State.setDcu_dcu (s : State) (d : Dcu) : (s.setDcu d).dcu = d := rfl
@[simp] theorem State.setDcu_fbi (s : State) (d : Dcu) : (s.setDcu d).fbi = s.fbi := rfl
@[simp] theorem State.setDcu_pdr (s : State) (d : Dcu) : (s.setDcu d).pdr = s.pdr := rfl
@[simp] theorem State.setDcu_dsu (s : State) (d : Dcu) : (s.setDcu d).dsu = s.dsu := rfl
@[simp] theorem State.setDcu_lpu (s : State) (d : Dcu) : (s.setDcu d).lpu = s.lpu := rfl
@[simp] theorem State.setDcu_mlu (s : State) (d : Dcu) : (s.setDcu d).mlu = s.mlu := rfl
@[simp] theorem State.setDcu_gdu (s : State) (d : Dcu) : (s.setDcu d).gdu = s.gdu := rfl
@[simp] theorem State.setDcu_scu (s : State) (d : Dcu) : (s.setDcu d).scu = s.scu := rfl
@[simp] theorem State.setDcu_own (s : State) (d : Dcu) : (s.setDcu d).own = s.own := rfl
@[simp] theorem State.setDcu_plan (s : State) (d : Dcu) : (s.setDcu d).plan = s.plan := rfl
@[simp] theorem State.setDcu_planClass (s : State) (d : Dcu) : (s.setDcu d).planClass = s.planClass := rfl
@[simp] theorem State.setDcu_laneOpt (s : State) (d : Dcu) (n : Nat) : (s.setDcu d).lane? n = s.lane? n := rfl
@[simp] theorem State.setDcu_slotAt (s : State) (d : Dcu) (n : Nat) : (s.setDcu d).slotAt n = s.slotAt n := rfl

/-! ## `State.setReturnDue` -/

@[simp] theorem State.setReturnDue_pending (s : State) (b : Bool) :
    (s.setReturnDue b).pending =
      s.pending := rfl
@[simp] theorem State.setReturnDue_handed (s : State) (b : Bool) : (s.setReturnDue b).handed = s.handed := rfl
@[simp] theorem State.setReturnDue_serial (s : State) (b : Bool) : (s.setReturnDue b).serial = s.serial := rfl
@[simp] theorem State.setReturnDue_resetLine (s : State) (b : Bool) :
    (s.setReturnDue b).resetLine =
      s.resetLine := rfl
@[simp] theorem State.setReturnDue_dcu (s : State) (b : Bool) :
    (s.setReturnDue b).dcu =
      { s.dcu with returnDue := b } := rfl
@[simp] theorem State.setReturnDue_fbi (s : State) (b : Bool) : (s.setReturnDue b).fbi = s.fbi := rfl
@[simp] theorem State.setReturnDue_pdr (s : State) (b : Bool) : (s.setReturnDue b).pdr = s.pdr := rfl
@[simp] theorem State.setReturnDue_dsu (s : State) (b : Bool) : (s.setReturnDue b).dsu = s.dsu := rfl
@[simp] theorem State.setReturnDue_lpu (s : State) (b : Bool) : (s.setReturnDue b).lpu = s.lpu := rfl
@[simp] theorem State.setReturnDue_mlu (s : State) (b : Bool) : (s.setReturnDue b).mlu = s.mlu := rfl
@[simp] theorem State.setReturnDue_gdu (s : State) (b : Bool) : (s.setReturnDue b).gdu = s.gdu := rfl
@[simp] theorem State.setReturnDue_scu (s : State) (b : Bool) : (s.setReturnDue b).scu = s.scu := rfl
@[simp] theorem State.setReturnDue_own (s : State) (b : Bool) : (s.setReturnDue b).own = s.own := rfl
@[simp] theorem State.setReturnDue_plan (s : State) (b : Bool) : (s.setReturnDue b).plan = s.plan := rfl
@[simp] theorem State.setReturnDue_planClass (s : State) (b : Bool) :
    (s.setReturnDue b).planClass = s.planClass := rfl
@[simp] theorem State.setReturnDue_laneOpt (s : State) (b : Bool) (n : Nat) :
    (s.setReturnDue b).lane? n = s.lane? n := rfl
@[simp] theorem State.setReturnDue_slotAt (s : State) (b : Bool) (n : Nat) :
    (s.setReturnDue b).slotAt n = s.slotAt n := rfl

/-! ## `State.setFbi` -/

@[simp] theorem State.setFbi_pending (s : State) (f : Fbi) : (s.setFbi f).pending = s.pending := rfl
@[simp] theorem State.setFbi_handed (s : State) (f : Fbi) : (s.setFbi f).handed = s.handed := rfl
@[simp] theorem State.setFbi_serial (s : State) (f : Fbi) : (s.setFbi f).serial = s.serial := rfl
@[simp] theorem State.setFbi_resetLine (s : State) (f : Fbi) : (s.setFbi f).resetLine = s.resetLine := rfl
@[simp] theorem State.setFbi_dcu (s : State) (f : Fbi) : (s.setFbi f).dcu = s.dcu := rfl
@[simp] theorem State.setFbi_fbi (s : State) (f : Fbi) : (s.setFbi f).fbi = f := rfl
@[simp] theorem State.setFbi_pdr (s : State) (f : Fbi) : (s.setFbi f).pdr = s.pdr := rfl
@[simp] theorem State.setFbi_dsu (s : State) (f : Fbi) : (s.setFbi f).dsu = s.dsu := rfl
@[simp] theorem State.setFbi_lpu (s : State) (f : Fbi) : (s.setFbi f).lpu = s.lpu := rfl
@[simp] theorem State.setFbi_mlu (s : State) (f : Fbi) : (s.setFbi f).mlu = s.mlu := rfl
@[simp] theorem State.setFbi_gdu (s : State) (f : Fbi) : (s.setFbi f).gdu = s.gdu := rfl
@[simp] theorem State.setFbi_scu (s : State) (f : Fbi) : (s.setFbi f).scu = s.scu := rfl
@[simp] theorem State.setFbi_now (s : State) (f : Fbi) : (s.setFbi f).now = s.now := rfl
@[simp] theorem State.setFbi_own (s : State) (f : Fbi) : (s.setFbi f).own = s.own := rfl
@[simp] theorem State.setFbi_reading (s : State) (f : Fbi) : (s.setFbi f).reading = s.reading := rfl
@[simp] theorem State.setFbi_inState (s : State) (f : Fbi) (st : BayState) :
    (s.setFbi f).inState st = s.inState st := rfl
@[simp] theorem State.setFbi_plan (s : State) (f : Fbi) : (s.setFbi f).plan = s.plan := rfl
@[simp] theorem State.setFbi_planClass (s : State) (f : Fbi) : (s.setFbi f).planClass = s.planClass := rfl
@[simp] theorem State.setFbi_laneOpt (s : State) (f : Fbi) (n : Nat) : (s.setFbi f).lane? n = s.lane? n := rfl
@[simp] theorem State.setFbi_slotAt (s : State) (f : Fbi) (n : Nat) : (s.setFbi f).slotAt n = s.slotAt n := rfl

/-! ## `State.setScu` -/

@[simp] theorem State.setScu_pending (s : State) (u : Scu) : (s.setScu u).pending = s.pending := rfl
@[simp] theorem State.setScu_handed (s : State) (u : Scu) : (s.setScu u).handed = s.handed := rfl
@[simp] theorem State.setScu_serial (s : State) (u : Scu) : (s.setScu u).serial = s.serial := rfl
@[simp] theorem State.setScu_resetLine (s : State) (u : Scu) : (s.setScu u).resetLine = s.resetLine := rfl
@[simp] theorem State.setScu_dcu (s : State) (u : Scu) : (s.setScu u).dcu = s.dcu := rfl
@[simp] theorem State.setScu_fbi (s : State) (u : Scu) : (s.setScu u).fbi = s.fbi := rfl
@[simp] theorem State.setScu_pdr (s : State) (u : Scu) : (s.setScu u).pdr = s.pdr := rfl
@[simp] theorem State.setScu_dsu (s : State) (u : Scu) : (s.setScu u).dsu = s.dsu := rfl
@[simp] theorem State.setScu_lpu (s : State) (u : Scu) : (s.setScu u).lpu = s.lpu := rfl
@[simp] theorem State.setScu_mlu (s : State) (u : Scu) : (s.setScu u).mlu = s.mlu := rfl
@[simp] theorem State.setScu_gdu (s : State) (u : Scu) : (s.setScu u).gdu = s.gdu := rfl
@[simp] theorem State.setScu_scu (s : State) (u : Scu) : (s.setScu u).scu = u := rfl
@[simp] theorem State.setScu_now (s : State) (u : Scu) : (s.setScu u).now = s.now := rfl
@[simp] theorem State.setScu_reading (s : State) (u : Scu) : (s.setScu u).reading = s.reading := rfl
@[simp] theorem State.setScu_inState (s : State) (u : Scu) (st : BayState) :
    (s.setScu u).inState st = s.inState st := rfl
@[simp] theorem State.setScu_offerResult (s : State) (u : Scu) : (s.setScu u).offerResult = s.offerResult := rfl
@[simp] theorem State.setScu_plan (s : State) (u : Scu) : (s.setScu u).plan = s.plan := rfl
@[simp] theorem State.setScu_laneOpt (s : State) (u : Scu) (n : Nat) : (s.setScu u).lane? n = s.lane? n := rfl
@[simp] theorem State.setScu_slotAt (s : State) (u : Scu) (n : Nat) : (s.setScu u).slotAt n = s.slotAt n := rfl

/-! ## `State.setPlan` -/

@[simp] theorem State.setPlan_pending (s : State) (p : Plan) : (s.setPlan p).pending = s.pending := rfl
@[simp] theorem State.setPlan_handed (s : State) (p : Plan) : (s.setPlan p).handed = s.handed := rfl
@[simp] theorem State.setPlan_serial (s : State) (p : Plan) : (s.setPlan p).serial = s.serial := rfl
@[simp] theorem State.setPlan_resetLine (s : State) (p : Plan) : (s.setPlan p).resetLine = s.resetLine := rfl
@[simp] theorem State.setPlan_dcu (s : State) (p : Plan) : (s.setPlan p).dcu = s.dcu := rfl
@[simp] theorem State.setPlan_fbi (s : State) (p : Plan) : (s.setPlan p).fbi = s.fbi := rfl
@[simp] theorem State.setPlan_pdr (s : State) (p : Plan) : (s.setPlan p).pdr = s.pdr := rfl
@[simp] theorem State.setPlan_dsu (s : State) (p : Plan) : (s.setPlan p).dsu = s.dsu := rfl
@[simp] theorem State.setPlan_lpu (s : State) (p : Plan) : (s.setPlan p).lpu = { s.lpu with plan := p } := rfl
@[simp] theorem State.setPlan_mlu (s : State) (p : Plan) : (s.setPlan p).mlu = s.mlu := rfl
@[simp] theorem State.setPlan_gdu (s : State) (p : Plan) : (s.setPlan p).gdu = s.gdu := rfl
@[simp] theorem State.setPlan_scu (s : State) (p : Plan) : (s.setPlan p).scu = s.scu := rfl
@[simp] theorem State.setPlan_now (s : State) (p : Plan) : (s.setPlan p).now = s.now := rfl
@[simp] theorem State.setPlan_own (s : State) (p : Plan) : (s.setPlan p).own = s.own := rfl
@[simp] theorem State.setPlan_reading (s : State) (p : Plan) : (s.setPlan p).reading = s.reading := rfl
@[simp] theorem State.setPlan_inState (s : State) (p : Plan) (st : BayState) :
    (s.setPlan p).inState st = s.inState st := rfl
@[simp] theorem State.setPlan_offerResult (s : State) (p : Plan) :
    (s.setPlan p).offerResult = s.offerResult := rfl
@[simp] theorem State.setPlan_laneOpt (s : State) (p : Plan) (n : Nat) :
    (s.setPlan p).lane? n = s.lane? n := rfl
@[simp] theorem State.setPlan_slotAt (s : State) (p : Plan) (n : Nat) :
    (s.setPlan p).slotAt n = s.slotAt n := rfl

/-! ## `State.setSlot` -/

@[simp] theorem State.setSlot_pending (s : State) (i : Nat) (v : Slot) :
    (s.setSlot i v).pending =
      s.pending := rfl
@[simp] theorem State.setSlot_handed (s : State) (i : Nat) (v : Slot) : (s.setSlot i v).handed = s.handed := rfl
@[simp] theorem State.setSlot_serial (s : State) (i : Nat) (v : Slot) : (s.setSlot i v).serial = s.serial := rfl
@[simp] theorem State.setSlot_resetLine (s : State) (i : Nat) (v : Slot) :
    (s.setSlot i v).resetLine =
      s.resetLine := rfl
@[simp] theorem State.setSlot_dcu (s : State) (i : Nat) (v : Slot) : (s.setSlot i v).dcu = s.dcu := rfl
@[simp] theorem State.setSlot_fbi (s : State) (i : Nat) (v : Slot) : (s.setSlot i v).fbi = s.fbi := rfl
@[simp] theorem State.setSlot_pdr (s : State) (i : Nat) (v : Slot) : (s.setSlot i v).pdr = s.pdr := rfl
@[simp] theorem State.setSlot_dsu (s : State) (i : Nat) (v : Slot) :
    (s.setSlot i v).dsu =
      { s.dsu with slots := s.dsu.slots.setIfInBounds i v } := rfl
@[simp] theorem State.setSlot_lpu (s : State) (i : Nat) (v : Slot) : (s.setSlot i v).lpu = s.lpu := rfl
@[simp] theorem State.setSlot_mlu (s : State) (i : Nat) (v : Slot) : (s.setSlot i v).mlu = s.mlu := rfl
@[simp] theorem State.setSlot_gdu (s : State) (i : Nat) (v : Slot) : (s.setSlot i v).gdu = s.gdu := rfl
@[simp] theorem State.setSlot_scu (s : State) (i : Nat) (v : Slot) : (s.setSlot i v).scu = s.scu := rfl
@[simp] theorem State.setSlot_now (s : State) (i : Nat) (v : Slot) : (s.setSlot i v).now = s.now := rfl
@[simp] theorem State.setSlot_own (s : State) (i : Nat) (v : Slot) : (s.setSlot i v).own = s.own := rfl
@[simp] theorem State.setSlot_reading (s : State) (i : Nat) (v : Slot) :
    (s.setSlot i v).reading = s.reading := rfl
@[simp] theorem State.setSlot_inState (s : State) (i : Nat) (v : Slot) (st : BayState) :
    (s.setSlot i v).inState st = s.inState st := rfl
@[simp] theorem State.setSlot_offerResult (s : State) (i : Nat) (v : Slot) :
    (s.setSlot i v).offerResult = s.offerResult := rfl
@[simp] theorem State.setSlot_plan (s : State) (i : Nat) (v : Slot) : (s.setSlot i v).plan = s.plan := rfl
@[simp] theorem State.setSlot_planClass (s : State) (i : Nat) (v : Slot) :
    (s.setSlot i v).planClass = s.planClass := rfl
@[simp] theorem State.setSlot_laneOpt (s : State) (i : Nat) (v : Slot) (n : Nat) :
    (s.setSlot i v).lane? n = s.lane? n := rfl

/-! ## `State.setRecord` -/

@[simp] theorem State.setRecord_pending (s : State) (i : Nat) (r : PalletRecord) :
    (s.setRecord i r).pending =
      s.pending := rfl
@[simp] theorem State.setRecord_handed (s : State) (i : Nat) (r : PalletRecord) :
    (s.setRecord i r).handed =
      s.handed := rfl
@[simp] theorem State.setRecord_serial (s : State) (i : Nat) (r : PalletRecord) :
    (s.setRecord i r).serial =
      s.serial := rfl
@[simp] theorem State.setRecord_resetLine (s : State) (i : Nat) (r : PalletRecord) :
    (s.setRecord i r).resetLine =
      s.resetLine := rfl
@[simp] theorem State.setRecord_dcu (s : State) (i : Nat) (r : PalletRecord) :
    (s.setRecord i r).dcu =
      s.dcu := rfl
@[simp] theorem State.setRecord_fbi (s : State) (i : Nat) (r : PalletRecord) :
    (s.setRecord i r).fbi =
      s.fbi := rfl
@[simp] theorem State.setRecord_pdr (s : State) (i : Nat) (r : PalletRecord) :
    (s.setRecord i r).pdr =
      s.pdr := rfl
@[simp] theorem State.setRecord_dsu (s : State) (i : Nat) (r : PalletRecord) :
    (s.setRecord i r).dsu =
      { s.dsu with slots := s.dsu.slots.setIfInBounds i (.record r) } := rfl
@[simp] theorem State.setRecord_lpu (s : State) (i : Nat) (r : PalletRecord) :
    (s.setRecord i r).lpu =
      s.lpu := rfl
@[simp] theorem State.setRecord_mlu (s : State) (i : Nat) (r : PalletRecord) :
    (s.setRecord i r).mlu =
      s.mlu := rfl
@[simp] theorem State.setRecord_gdu (s : State) (i : Nat) (r : PalletRecord) :
    (s.setRecord i r).gdu =
      s.gdu := rfl
@[simp] theorem State.setRecord_scu (s : State) (i : Nat) (r : PalletRecord) :
    (s.setRecord i r).scu =
      s.scu := rfl
@[simp] theorem State.setRecord_now (s : State) (i : Nat) (r : PalletRecord) :
    (s.setRecord i r).now = s.now := rfl
@[simp] theorem State.setRecord_own (s : State) (i : Nat) (r : PalletRecord) :
    (s.setRecord i r).own = s.own := rfl
@[simp] theorem State.setRecord_reading (s : State) (i : Nat) (r : PalletRecord) :
    (s.setRecord i r).reading = s.reading := rfl
@[simp] theorem State.setRecord_inState (s : State) (i : Nat) (r : PalletRecord) (st : BayState) :
    (s.setRecord i r).inState st = s.inState st := rfl
@[simp] theorem State.setRecord_offerResult (s : State) (i : Nat) (r : PalletRecord) :
    (s.setRecord i r).offerResult = s.offerResult := rfl
@[simp] theorem State.setRecord_plan (s : State) (i : Nat) (r : PalletRecord) :
    (s.setRecord i r).plan = s.plan := rfl
@[simp] theorem State.setRecord_planClass (s : State) (i : Nat) (r : PalletRecord) :
    (s.setRecord i r).planClass = s.planClass := rfl
@[simp] theorem State.setRecord_laneOpt (s : State) (i : Nat) (r : PalletRecord) (n : Nat) :
    (s.setRecord i r).lane? n = s.lane? n := rfl

/-! ## `State.takeSeq` -/

@[simp] theorem State.takeSeq_pending (s : State) (b : Borrower) : (s.takeSeq b).pending = s.pending := rfl
@[simp] theorem State.takeSeq_handed (s : State) (b : Borrower) : (s.takeSeq b).handed = s.handed := rfl
@[simp] theorem State.takeSeq_serial (s : State) (b : Borrower) : (s.takeSeq b).serial = s.serial := rfl
@[simp] theorem State.takeSeq_resetLine (s : State) (b : Borrower) :
    (s.takeSeq b).resetLine =
      s.resetLine := rfl
@[simp] theorem State.takeSeq_dcu (s : State) (b : Borrower) : (s.takeSeq b).dcu = s.dcu := rfl
@[simp] theorem State.takeSeq_fbi (s : State) (b : Borrower) : (s.takeSeq b).fbi = s.fbi := rfl
@[simp] theorem State.takeSeq_pdr (s : State) (b : Borrower) : (s.takeSeq b).pdr = s.pdr := rfl
@[simp] theorem State.takeSeq_lpu (s : State) (b : Borrower) : (s.takeSeq b).lpu = s.lpu := rfl
@[simp] theorem State.takeSeq_mlu (s : State) (b : Borrower) : (s.takeSeq b).mlu = s.mlu := rfl
@[simp] theorem State.takeSeq_gdu (s : State) (b : Borrower) : (s.takeSeq b).gdu = s.gdu := rfl
@[simp] theorem State.takeSeq_scu (s : State) (b : Borrower) : (s.takeSeq b).scu = s.scu := rfl
@[simp] theorem State.takeSeq_now (s : State) (b : Borrower) : (s.takeSeq b).now = s.now := rfl
@[simp] theorem State.takeSeq_own (s : State) (b : Borrower) : (s.takeSeq b).own = s.own := rfl
@[simp] theorem State.takeSeq_reading (s : State) (b : Borrower) : (s.takeSeq b).reading = s.reading := rfl
@[simp] theorem State.takeSeq_inState (s : State) (b : Borrower) (st : BayState) :
    (s.takeSeq b).inState st = s.inState st := rfl
@[simp] theorem State.takeSeq_offerResult (s : State) (b : Borrower) :
    (s.takeSeq b).offerResult = s.offerResult := rfl
@[simp] theorem State.takeSeq_plan (s : State) (b : Borrower) : (s.takeSeq b).plan = s.plan := rfl
@[simp] theorem State.takeSeq_planClass (s : State) (b : Borrower) :
    (s.takeSeq b).planClass = s.planClass := rfl
@[simp] theorem State.takeSeq_laneOpt (s : State) (b : Borrower) (n : Nat) :
    (s.takeSeq b).lane? n = s.lane? n := rfl
@[simp] theorem State.takeSeq_slotAt (s : State) (b : Borrower) (n : Nat) :
    (s.takeSeq b).slotAt n = s.slotAt n := rfl

/-! ## `State.updateLane` -/

@[simp] theorem State.updateLane_pending (s : State) (k : Nat) (f : Lane → Lane) :
    (s.updateLane k f).pending =
      s.pending := rfl
@[simp] theorem State.updateLane_handed (s : State) (k : Nat) (f : Lane → Lane) :
    (s.updateLane k f).handed =
      s.handed := rfl
@[simp] theorem State.updateLane_serial (s : State) (k : Nat) (f : Lane → Lane) :
    (s.updateLane k f).serial =
      s.serial := rfl
@[simp] theorem State.updateLane_resetLine (s : State) (k : Nat) (f : Lane → Lane) :
    (s.updateLane k f).resetLine =
      s.resetLine := rfl
@[simp] theorem State.updateLane_dcu (s : State) (k : Nat) (f : Lane → Lane) :
    (s.updateLane k f).dcu =
      s.dcu := rfl
@[simp] theorem State.updateLane_fbi (s : State) (k : Nat) (f : Lane → Lane) :
    (s.updateLane k f).fbi =
      s.fbi := rfl
@[simp] theorem State.updateLane_pdr (s : State) (k : Nat) (f : Lane → Lane) :
    (s.updateLane k f).pdr =
      s.pdr := rfl
@[simp] theorem State.updateLane_dsu (s : State) (k : Nat) (f : Lane → Lane) :
    (s.updateLane k f).dsu =
      s.dsu := rfl
@[simp] theorem State.updateLane_lpu (s : State) (k : Nat) (f : Lane → Lane) :
    (s.updateLane k f).lpu =
      s.lpu := rfl
@[simp] theorem State.updateLane_mlu (s : State) (k : Nat) (f : Lane → Lane) :
    (s.updateLane k f).mlu =
      { s.mlu with lanes := s.mlu.lanes.map fun l => if l.number = k then f l else l } := rfl
@[simp] theorem State.updateLane_gdu (s : State) (k : Nat) (f : Lane → Lane) :
    (s.updateLane k f).gdu =
      s.gdu := rfl
@[simp] theorem State.updateLane_scu (s : State) (k : Nat) (f : Lane → Lane) :
    (s.updateLane k f).scu =
      s.scu := rfl
@[simp] theorem State.updateLane_now (s : State) (k : Nat) (f : Lane → Lane) :
    (s.updateLane k f).now = s.now := rfl
@[simp] theorem State.updateLane_own (s : State) (k : Nat) (f : Lane → Lane) :
    (s.updateLane k f).own = s.own := rfl
@[simp] theorem State.updateLane_reading (s : State) (k : Nat) (f : Lane → Lane) :
    (s.updateLane k f).reading = s.reading := rfl
@[simp] theorem State.updateLane_inState (s : State) (k : Nat) (f : Lane → Lane) (st : BayState) :
    (s.updateLane k f).inState st = s.inState st := rfl
@[simp] theorem State.updateLane_offerResult (s : State) (k : Nat) (f : Lane → Lane) :
    (s.updateLane k f).offerResult = s.offerResult := rfl
@[simp] theorem State.updateLane_plan (s : State) (k : Nat) (f : Lane → Lane) :
    (s.updateLane k f).plan = s.plan := rfl
@[simp] theorem State.updateLane_planClass (s : State) (k : Nat) (f : Lane → Lane) :
    (s.updateLane k f).planClass = s.planClass := rfl
@[simp] theorem State.updateLane_slotAt (s : State) (k : Nat) (f : Lane → Lane) (n : Nat) :
    (s.updateLane k f).slotAt n = s.slotAt n := rfl

/-! ## `State.updateDrain` -/

@[simp] theorem State.updateDrain_pending (s : State) (k : Nat) (f : Drain → Drain) :
    (s.updateDrain k f).pending =
      s.pending := rfl
@[simp] theorem State.updateDrain_handed (s : State) (k : Nat) (f : Drain → Drain) :
    (s.updateDrain k f).handed =
      s.handed := rfl
@[simp] theorem State.updateDrain_serial (s : State) (k : Nat) (f : Drain → Drain) :
    (s.updateDrain k f).serial =
      s.serial := rfl
@[simp] theorem State.updateDrain_resetLine (s : State) (k : Nat) (f : Drain → Drain) :
    (s.updateDrain k f).resetLine =
      s.resetLine := rfl
@[simp] theorem State.updateDrain_dcu (s : State) (k : Nat) (f : Drain → Drain) :
    (s.updateDrain k f).dcu =
      s.dcu := rfl
@[simp] theorem State.updateDrain_fbi (s : State) (k : Nat) (f : Drain → Drain) :
    (s.updateDrain k f).fbi =
      s.fbi := rfl
@[simp] theorem State.updateDrain_pdr (s : State) (k : Nat) (f : Drain → Drain) :
    (s.updateDrain k f).pdr =
      s.pdr := rfl
@[simp] theorem State.updateDrain_dsu (s : State) (k : Nat) (f : Drain → Drain) :
    (s.updateDrain k f).dsu =
      s.dsu := rfl
@[simp] theorem State.updateDrain_lpu (s : State) (k : Nat) (f : Drain → Drain) :
    (s.updateDrain k f).lpu =
      s.lpu := rfl
@[simp] theorem State.updateDrain_gdu (s : State) (k : Nat) (f : Drain → Drain) :
    (s.updateDrain k f).gdu =
      s.gdu := rfl
@[simp] theorem State.updateDrain_scu (s : State) (k : Nat) (f : Drain → Drain) :
    (s.updateDrain k f).scu =
      s.scu := rfl
@[simp] theorem State.updateDrain_now (s : State) (k : Nat) (f : Drain → Drain) :
    (s.updateDrain k f).now = s.now := rfl
@[simp] theorem State.updateDrain_own (s : State) (k : Nat) (f : Drain → Drain) :
    (s.updateDrain k f).own = s.own := rfl
@[simp] theorem State.updateDrain_reading (s : State) (k : Nat) (f : Drain → Drain) :
    (s.updateDrain k f).reading = s.reading := rfl
@[simp] theorem State.updateDrain_inState (s : State) (k : Nat) (f : Drain → Drain) (st : BayState) :
    (s.updateDrain k f).inState st = s.inState st := rfl
@[simp] theorem State.updateDrain_offerResult (s : State) (k : Nat) (f : Drain → Drain) :
    (s.updateDrain k f).offerResult = s.offerResult := rfl
@[simp] theorem State.updateDrain_plan (s : State) (k : Nat) (f : Drain → Drain) :
    (s.updateDrain k f).plan = s.plan := rfl
@[simp] theorem State.updateDrain_planClass (s : State) (k : Nat) (f : Drain → Drain) :
    (s.updateDrain k f).planClass = s.planClass := rfl
@[simp] theorem State.updateDrain_slotAt (s : State) (k : Nat) (f : Drain → Drain) (n : Nat) :
    (s.updateDrain k f).slotAt n = s.slotAt n := rfl

/-! ## `State.setLaneCount` -/

@[simp] theorem State.setLaneCount_pending (s : State) (n : Nat) : (s.setLaneCount n).pending = s.pending := rfl
@[simp] theorem State.setLaneCount_handed (s : State) (n : Nat) : (s.setLaneCount n).handed = s.handed := rfl
@[simp] theorem State.setLaneCount_serial (s : State) (n : Nat) : (s.setLaneCount n).serial = s.serial := rfl
@[simp] theorem State.setLaneCount_resetLine (s : State) (n : Nat) :
    (s.setLaneCount n).resetLine =
      s.resetLine := rfl
@[simp] theorem State.setLaneCount_dcu (s : State) (n : Nat) : (s.setLaneCount n).dcu = s.dcu := rfl
@[simp] theorem State.setLaneCount_fbi (s : State) (n : Nat) : (s.setLaneCount n).fbi = s.fbi := rfl
@[simp] theorem State.setLaneCount_pdr (s : State) (n : Nat) : (s.setLaneCount n).pdr = s.pdr := rfl
@[simp] theorem State.setLaneCount_dsu (s : State) (n : Nat) : (s.setLaneCount n).dsu = s.dsu := rfl
@[simp] theorem State.setLaneCount_lpu (s : State) (n : Nat) : (s.setLaneCount n).lpu = s.lpu := rfl
@[simp] theorem State.setLaneCount_mlu (s : State) (n : Nat) :
    (s.setLaneCount n).mlu =
      { s.mlu with lanes := lanesFor s.mlu.lanes n } := rfl
@[simp] theorem State.setLaneCount_gdu (s : State) (n : Nat) : (s.setLaneCount n).gdu = s.gdu := rfl
@[simp] theorem State.setLaneCount_scu (s : State) (n : Nat) : (s.setLaneCount n).scu = s.scu := rfl
@[simp] theorem State.setLaneCount_now (s : State) (n : Nat) : (s.setLaneCount n).now = s.now := rfl
@[simp] theorem State.setLaneCount_own (s : State) (n : Nat) : (s.setLaneCount n).own = s.own := rfl
@[simp] theorem State.setLaneCount_reading (s : State) (n : Nat) : (s.setLaneCount n).reading = s.reading := rfl
@[simp] theorem State.setLaneCount_inState (s : State) (n : Nat) (st : BayState) :
    (s.setLaneCount n).inState st = s.inState st := rfl
@[simp] theorem State.setLaneCount_offerResult (s : State) (n : Nat) :
    (s.setLaneCount n).offerResult = s.offerResult := rfl
@[simp] theorem State.setLaneCount_plan (s : State) (n : Nat) : (s.setLaneCount n).plan = s.plan := rfl
@[simp] theorem State.setLaneCount_planClass (s : State) (n : Nat) :
    (s.setLaneCount n).planClass = s.planClass := rfl
@[simp] theorem State.setLaneCount_slotAt (s : State) (n : Nat) (m : Nat) :
    (s.setLaneCount n).slotAt m = s.slotAt m := rfl

/-! ## `State.setChannels` -/

@[simp] theorem State.setChannels_pending (s : State) (v : Vector Channel 12) :
    (s.setChannels v).pending =
      s.pending := rfl
@[simp] theorem State.setChannels_handed (s : State) (v : Vector Channel 12) :
    (s.setChannels v).handed =
      s.handed := rfl
@[simp] theorem State.setChannels_serial (s : State) (v : Vector Channel 12) :
    (s.setChannels v).serial =
      s.serial := rfl
@[simp] theorem State.setChannels_resetLine (s : State) (v : Vector Channel 12) :
    (s.setChannels v).resetLine =
      s.resetLine := rfl
@[simp] theorem State.setChannels_dcu (s : State) (v : Vector Channel 12) : (s.setChannels v).dcu = s.dcu := rfl
@[simp] theorem State.setChannels_fbi (s : State) (v : Vector Channel 12) : (s.setChannels v).fbi = s.fbi := rfl
@[simp] theorem State.setChannels_pdr (s : State) (v : Vector Channel 12) : (s.setChannels v).pdr = s.pdr := rfl
@[simp] theorem State.setChannels_dsu (s : State) (v : Vector Channel 12) : (s.setChannels v).dsu = s.dsu := rfl
@[simp] theorem State.setChannels_lpu (s : State) (v : Vector Channel 12) : (s.setChannels v).lpu = s.lpu := rfl
@[simp] theorem State.setChannels_mlu (s : State) (v : Vector Channel 12) : (s.setChannels v).mlu = s.mlu := rfl
@[simp] theorem State.setChannels_gdu (s : State) (v : Vector Channel 12) :
    (s.setChannels v).gdu =
      { s.gdu with channels := v } := rfl
@[simp] theorem State.setChannels_scu (s : State) (v : Vector Channel 12) : (s.setChannels v).scu = s.scu := rfl
@[simp] theorem State.setChannels_now (s : State) (v : Vector Channel 12) : (s.setChannels v).now = s.now := rfl
@[simp] theorem State.setChannels_own (s : State) (v : Vector Channel 12) : (s.setChannels v).own = s.own := rfl
@[simp] theorem State.setChannels_reading (s : State) (v : Vector Channel 12) :
    (s.setChannels v).reading = s.reading := rfl
@[simp] theorem State.setChannels_inState (s : State) (v : Vector Channel 12) (st : BayState) :
    (s.setChannels v).inState st = s.inState st := rfl
@[simp] theorem State.setChannels_offerResult (s : State) (v : Vector Channel 12) :
    (s.setChannels v).offerResult = s.offerResult := rfl
@[simp] theorem State.setChannels_plan (s : State) (v : Vector Channel 12) :
    (s.setChannels v).plan = s.plan := rfl
@[simp] theorem State.setChannels_planClass (s : State) (v : Vector Channel 12) :
    (s.setChannels v).planClass = s.planClass := rfl
@[simp] theorem State.setChannels_laneOpt (s : State) (v : Vector Channel 12) (n : Nat) :
    (s.setChannels v).lane? n = s.lane? n := rfl
@[simp] theorem State.setChannels_slotAt (s : State) (v : Vector Channel 12) (n : Nat) :
    (s.setChannels v).slotAt n = s.slotAt n := rfl

/-! ## `State.setChannel` -/

@[simp] theorem State.setChannel_pending (s : State) (n : Nat) (c : Channel) :
    (s.setChannel n c).pending =
      s.pending := rfl
@[simp] theorem State.setChannel_handed (s : State) (n : Nat) (c : Channel) :
    (s.setChannel n c).handed =
      s.handed := rfl
@[simp] theorem State.setChannel_serial (s : State) (n : Nat) (c : Channel) :
    (s.setChannel n c).serial =
      s.serial := rfl
@[simp] theorem State.setChannel_resetLine (s : State) (n : Nat) (c : Channel) :
    (s.setChannel n c).resetLine =
      s.resetLine := rfl
@[simp] theorem State.setChannel_dcu (s : State) (n : Nat) (c : Channel) : (s.setChannel n c).dcu = s.dcu := rfl
@[simp] theorem State.setChannel_fbi (s : State) (n : Nat) (c : Channel) : (s.setChannel n c).fbi = s.fbi := rfl
@[simp] theorem State.setChannel_pdr (s : State) (n : Nat) (c : Channel) : (s.setChannel n c).pdr = s.pdr := rfl
@[simp] theorem State.setChannel_dsu (s : State) (n : Nat) (c : Channel) : (s.setChannel n c).dsu = s.dsu := rfl
@[simp] theorem State.setChannel_lpu (s : State) (n : Nat) (c : Channel) : (s.setChannel n c).lpu = s.lpu := rfl
@[simp] theorem State.setChannel_mlu (s : State) (n : Nat) (c : Channel) : (s.setChannel n c).mlu = s.mlu := rfl
@[simp] theorem State.setChannel_scu (s : State) (n : Nat) (c : Channel) : (s.setChannel n c).scu = s.scu := rfl
@[simp] theorem State.setChannel_now (s : State) (n : Nat) (c : Channel) : (s.setChannel n c).now = s.now := rfl
@[simp] theorem State.setChannel_own (s : State) (n : Nat) (c : Channel) : (s.setChannel n c).own = s.own := rfl
@[simp] theorem State.setChannel_reading (s : State) (n : Nat) (c : Channel) :
    (s.setChannel n c).reading = s.reading := rfl
@[simp] theorem State.setChannel_inState (s : State) (n : Nat) (c : Channel) (st : BayState) :
    (s.setChannel n c).inState st = s.inState st := rfl
@[simp] theorem State.setChannel_offerResult (s : State) (n : Nat) (c : Channel) :
    (s.setChannel n c).offerResult = s.offerResult := rfl
@[simp] theorem State.setChannel_plan (s : State) (n : Nat) (c : Channel) :
    (s.setChannel n c).plan = s.plan := rfl
@[simp] theorem State.setChannel_planClass (s : State) (n : Nat) (c : Channel) :
    (s.setChannel n c).planClass = s.planClass := rfl
@[simp] theorem State.setChannel_laneOpt (s : State) (n : Nat) (c : Channel) (m : Nat) :
    (s.setChannel n c).lane? m = s.lane? m := rfl
@[simp] theorem State.setChannel_slotAt (s : State) (n : Nat) (c : Channel) (m : Nat) :
    (s.setChannel n c).slotAt m = s.slotAt m := rfl

/-! ## `State.placeFrame` -/

@[simp] theorem State.placeFrame_pending (s : State) (o : Outgoing) :
    (s.placeFrame o).pending =
      s.pending := rfl
@[simp] theorem State.placeFrame_handed (s : State) (o : Outgoing) : (s.placeFrame o).handed = s.handed := rfl
@[simp] theorem State.placeFrame_serial (s : State) (o : Outgoing) : (s.placeFrame o).serial = s.serial := rfl
@[simp] theorem State.placeFrame_resetLine (s : State) (o : Outgoing) :
    (s.placeFrame o).resetLine =
      s.resetLine := rfl
@[simp] theorem State.placeFrame_dcu (s : State) (o : Outgoing) : (s.placeFrame o).dcu = s.dcu := rfl
@[simp] theorem State.placeFrame_pdr (s : State) (o : Outgoing) : (s.placeFrame o).pdr = s.pdr := rfl
@[simp] theorem State.placeFrame_dsu (s : State) (o : Outgoing) : (s.placeFrame o).dsu = s.dsu := rfl
@[simp] theorem State.placeFrame_lpu (s : State) (o : Outgoing) : (s.placeFrame o).lpu = s.lpu := rfl
@[simp] theorem State.placeFrame_mlu (s : State) (o : Outgoing) : (s.placeFrame o).mlu = s.mlu := rfl
@[simp] theorem State.placeFrame_gdu (s : State) (o : Outgoing) : (s.placeFrame o).gdu = s.gdu := rfl
@[simp] theorem State.placeFrame_scu (s : State) (o : Outgoing) : (s.placeFrame o).scu = s.scu := rfl
@[simp] theorem State.placeFrame_now (s : State) (o : Outgoing) : (s.placeFrame o).now = s.now := rfl
@[simp] theorem State.placeFrame_own (s : State) (o : Outgoing) : (s.placeFrame o).own = s.own := rfl
@[simp] theorem State.placeFrame_reading (s : State) (o : Outgoing) :
    (s.placeFrame o).reading = s.reading := rfl
@[simp] theorem State.placeFrame_inState (s : State) (o : Outgoing) (st : BayState) :
    (s.placeFrame o).inState st = s.inState st := rfl
@[simp] theorem State.placeFrame_plan (s : State) (o : Outgoing) : (s.placeFrame o).plan = s.plan := rfl
@[simp] theorem State.placeFrame_planClass (s : State) (o : Outgoing) :
    (s.placeFrame o).planClass = s.planClass := rfl
@[simp] theorem State.placeFrame_laneOpt (s : State) (o : Outgoing) (n : Nat) :
    (s.placeFrame o).lane? n = s.lane? n := rfl
@[simp] theorem State.placeFrame_slotAt (s : State) (o : Outgoing) (n : Nat) :
    (s.placeFrame o).slotAt n = s.slotAt n := rfl

/-! ## `State.answer` -/

@[simp] theorem State.answer_pending (s : State) (r : RequestName) (code : AnswerCode) (data : AnswerData) :
    (s.answer r code data).pending =
      s.pending := rfl
@[simp] theorem State.answer_handed (s : State) (r : RequestName) (code : AnswerCode) (data : AnswerData) :
    (s.answer r code data).handed =
      s.handed := rfl
@[simp] theorem State.answer_serial (s : State) (r : RequestName) (code : AnswerCode) (data : AnswerData) :
    (s.answer r code data).serial =
      s.serial := rfl
@[simp] theorem State.answer_resetLine (s : State) (r : RequestName) (code : AnswerCode) (data : AnswerData) :
    (s.answer r code data).resetLine =
      s.resetLine := rfl
@[simp] theorem State.answer_dcu (s : State) (r : RequestName) (code : AnswerCode) (data : AnswerData) :
    (s.answer r code data).dcu =
      s.dcu := rfl
@[simp] theorem State.answer_fbi (s : State) (r : RequestName) (code : AnswerCode) (data : AnswerData) :
    (s.answer r code data).fbi =
      s.fbi := rfl
@[simp] theorem State.answer_pdr (s : State) (r : RequestName) (code : AnswerCode) (data : AnswerData) :
    (s.answer r code data).pdr =
      s.pdr := rfl
@[simp] theorem State.answer_dsu (s : State) (r : RequestName) (code : AnswerCode) (data : AnswerData) :
    (s.answer r code data).dsu =
      s.dsu := rfl
@[simp] theorem State.answer_lpu (s : State) (r : RequestName) (code : AnswerCode) (data : AnswerData) :
    (s.answer r code data).lpu =
      s.lpu := rfl
@[simp] theorem State.answer_mlu (s : State) (r : RequestName) (code : AnswerCode) (data : AnswerData) :
    (s.answer r code data).mlu =
      s.mlu := rfl
@[simp] theorem State.answer_gdu (s : State) (r : RequestName) (code : AnswerCode) (data : AnswerData) :
    (s.answer r code data).gdu =
      s.gdu := rfl
@[simp] theorem State.answer_scu (s : State) (r : RequestName) (code : AnswerCode) (data : AnswerData) :
    (s.answer r code data).scu =
      { s.scu with answer := some { request := r, code := code, data := data } } := rfl
@[simp] theorem State.answer_now (s : State) (r : RequestName) (code : AnswerCode) (data : AnswerData) :
    (s.answer r code data).now = s.now := rfl
@[simp] theorem State.answer_reading (s : State) (r : RequestName) (code : AnswerCode) (data : AnswerData) :
    (s.answer r code data).reading = s.reading := rfl
@[simp] theorem State.answer_inState (s : State) (r : RequestName) (code : AnswerCode) (data : AnswerData) (st : BayState) :
    (s.answer r code data).inState st = s.inState st := rfl
@[simp] theorem State.answer_offerResult (s : State) (r : RequestName) (code : AnswerCode) (data : AnswerData) :
    (s.answer r code data).offerResult = s.offerResult := rfl
@[simp] theorem State.answer_plan (s : State) (r : RequestName) (code : AnswerCode) (data : AnswerData) :
    (s.answer r code data).plan = s.plan := rfl
@[simp] theorem State.answer_laneOpt (s : State) (r : RequestName) (code : AnswerCode) (data : AnswerData) (n : Nat) :
    (s.answer r code data).lane? n = s.lane? n := rfl
@[simp] theorem State.answer_slotAt (s : State) (r : RequestName) (code : AnswerCode) (data : AnswerData) (n : Nat) :
    (s.answer r code data).slotAt n = s.slotAt n := rfl

end Sys2Proof.Machine
end

