-- ==== Sys2Proof/Laws/Ops.lean ====
section
/-! SUPPORT. For each operation that several commands share, what it can do and what it leaves: the cases of
taking an event or a request, of an offer to the transmit queue, of the end of an MLU event, of a change of
the plan's contents, of an action on drains and of a search; and the reading of a lane, slot, stack or channel
after it is written. -/

namespace Sys2Proof.Machine

/-! ## Taking an event or a request -/

theorem event_running {s : State} {f : State → State} (h : s.resetLine = false) : event s f = .next (f s) := by
  simp [event, h]

theorem event_held {s : State} {f : State → State} (h : s.resetLine = true) : event s f = .next s := by
  simp [event, h]

theorem taken_running {c : Instr} {s : State} {f : State → State} (h : s.resetLine = false) :
    taken c s f = .next (f (s.drop c)) := by
  simp [taken, h]

theorem taken_held {c : Instr} {s : State} {f : State → State} (h : s.resetLine = true) :
    taken c s f = .next (s.drop c) := by
  simp [taken, h]

theorem request_ready {s : State} {f : State → State} (h : s.ready = true) : request s f = .next (f s) := by
  simp only [State.ready, Bool.and_eq_true, Bool.not_eq_true', Option.isNone_iff_eq_none] at h
  simp [request, h.1.1, h.1.2, h.2]

theorem request_not_ready {s : State} {f : State → State} (h : s.ready = false) : request s f = .next s := by
  unfold request
  split
  · rfl
  · rename_i g
    simp only [Bool.or_eq_true, not_or, Bool.not_eq_true, Option.isSome_eq_false_iff] at g
    simp [State.ready, g.1.1, g.1.2, g.2] at h

/-! ## Waiting events that are dropped or raised -/

theorem State.raiseIf_cases (s : State) (b : Bool) (k : NoticeKind) :
    (b = true ∧ s.raiseIf b k = s.hand (.noticeRaise k)) ∨ (b = false ∧ s.raiseIf b k = s) := by
  cases b <;> simp [State.raiseIf, State.raiseNotice]

theorem State.expireAtOnce_cases (s : State) (deadline : Nat) (c : Instr) :
    (deadline ≤ s.now ∧ s.expireAtOnce deadline c = s.handNext c) ∨
      (s.now < deadline ∧ s.expireAtOnce deadline c = s) := by
  unfold State.expireAtOnce
  split
  · exact .inl ⟨‹_›, rfl⟩
  · exact .inr ⟨by omega, rfl⟩

/-! ## Offers (R31, R32) -/

/-- An answer is placed at the tail of the queue, or dropped. -/
theorem State.offerAnswer_cases (s : State) (owner : Owner) (target : Nat) (b : Body) :
    (s.offerResult = .placed ∧ s.offerAnswer owner target b =
        s.bump.placeFrame (.owned { owner := owner, built := s.serial, target := target, body := b })) ∨
      (s.offerResult ≠ .placed ∧ s.offerAnswer owner target b = s) := by
  unfold State.offerAnswer
  cases h : s.offerResult <;> simp [State.frameNow]

/-- A PLACED or RELEASE of the LPU is placed, owed where there is no room, or dropped. -/
theorem State.lpuOffer_cases (s : State) (target : Nat) (b : Body) :
    (s.offerResult = .placed ∧ s.lpuOffer target b =
        s.bump.placeFrame (.owned { owner := .lpu, built := s.serial, target := target, body := b })) ∨
      (s.offerResult = .noRoom ∧ s.lpuOffer target b =
        s.bump.lpuOwe { owner := .lpu, built := s.serial, target := target, body := b }) ∨
      (s.offerResult = .muted ∧ s.lpuOffer target b = s) := by
  unfold State.lpuOffer
  cases h : s.offerResult <;> simp [State.frameNow]

/-- A CLOSE is placed, takes the CLOSE place where there is no room, or is dropped. -/
theorem State.lpuOfferClose_cases (s : State) (b : CloseBody) :
    (s.offerResult = .placed ∧ s.lpuOfferClose b =
        s.bump.placeFrame (.owned { owner := .lpu, built := s.serial, target := 0, body := .close b })) ∨
      (s.offerResult = .noRoom ∧ s.lpuOfferClose b =
        s.bump.lpuOweClose { owner := .lpu, built := s.serial, target := 0, body := .close b }) ∨
      (s.offerResult = .muted ∧ s.lpuOfferClose b = s) := by
  unfold State.lpuOfferClose
  cases h : s.offerResult <;> simp [State.frameNow]

/-- A PLACED or RELEASE of the MLU is placed, owed where there is no room, or dropped. -/
theorem State.mluOffer_cases (s : State) (target : Nat) (b : Body) :
    (s.offerResult = .placed ∧ s.mluOffer target b =
        s.bump.placeFrame (.owned { owner := .mlu, built := s.serial, target := target, body := b })) ∨
      (s.offerResult = .noRoom ∧ s.mluOffer target b =
        s.bump.mluOwe { owner := .mlu, built := s.serial, target := target, body := b }) ∨
      (s.offerResult = .muted ∧ s.mluOffer target b = s) := by
  unfold State.mluOffer
  cases h : s.offerResult <;> simp [State.frameNow]

/-- A RELEASE of the DSU is placed, owed where there is no room, or dropped. -/
theorem State.dsuOffer_cases (s : State) (target : Nat) (b : ReleaseBody) :
    (s.offerResult = .placed ∧ s.dsuOffer target b = s.bump.placeFrame (.owned
        { owner := .dsu, built := s.serial, target := target, body := .release b })) ∨
      (s.offerResult = .noRoom ∧ s.dsuOffer target b =
        s.bump.dsuOwe { built := s.serial, target := target, body := b }) ∨
      (s.offerResult = .muted ∧ s.dsuOffer target b = s) := by
  unfold State.dsuOffer
  cases h : s.offerResult <;> simp [State.frameNow]

/-! ### What owing leaves -/

theorem State.lpuOwe_cases (s : State) (f : OwnedFrame) :
    (s.lpu.owed.length < 8 ∧ s.lpuOwe f = { s with lpu := { s.lpu with owed := s.lpu.owed ++ [f] } }) ∨
      (8 ≤ s.lpu.owed.length ∧ s.lpuOwe f = s) := by
  unfold State.lpuOwe owedCapacity
  split
  · exact .inl ⟨‹_›, rfl⟩
  · exact .inr ⟨by omega, rfl⟩

theorem State.mluOwe_cases (s : State) (f : OwnedFrame) :
    (s.mlu.owed.length < 8 ∧ s.mluOwe f = { s with mlu := { s.mlu with owed := s.mlu.owed ++ [f] } }) ∨
      (8 ≤ s.mlu.owed.length ∧ s.mluOwe f = s) := by
  unfold State.mluOwe owedCapacity
  split
  · exact .inl ⟨‹_›, rfl⟩
  · exact .inr ⟨by omega, rfl⟩

/-- A CLOSE that is owed takes the CLOSE place, but never from a later one. -/
theorem State.lpuOweClose_cases (s : State) (f : OwnedFrame) :
    s.lpuOweClose f = { s with lpu := { s.lpu with owedClose := some f } } ∨
      (∃ g, s.lpu.owedClose = some g ∧ f.built < g.built ∧ s.lpuOweClose f = s) := by
  unfold State.lpuOweClose
  cases h : s.lpu.owedClose with
  | none => exact .inl rfl
  | some g =>
    by_cases hg : g.built ≤ f.built
    · exact .inl (by simp [hg])
    · exact .inr ⟨g, rfl, by omega, by simp [hg]⟩

/-- A RELEASE that the DSU owes goes to its pallet's record, to a free slot, or nowhere. -/
theorem State.dsuOwe_cases (s : State) (o : OwedRelease) :
    (∃ i r, s.slotAt i = .record r ∧ r.owedRelease = none ∧
        s.dsuOwe o = s.setSlot i (.record { r with owedRelease := some o })) ∨
      (∃ i, s.slotAt i = .free ∧ s.dsuOwe o = s.setSlot i (.lone o)) ∨ s.dsuOwe o = s := by
  unfold State.dsuOwe
  cases h : s.findRecord o.body.pallet with
  | some i =>
    cases h2 : s.slotAt i with
    | record r =>
      cases h3 : r.owedRelease with
      | none => exact .inl ⟨i, r, h2, h3, by simp [State.recordAt, h2, h3, State.setRecord]⟩
      | some x => exact .inr (.inr (by simp [State.recordAt, h2, h3]))
    | free => exact .inr (.inr (by simp [State.recordAt, h2]))
    | lone x => exact .inr (.inr (by simp [State.recordAt, h2]))
  | none =>
    cases h2 : s.freeSlot with
    | none => exact .inr (.inr rfl)
    | some i =>
      have := List.find?_some h2
      exact .inr (.inl ⟨i, by simpa using this, rfl⟩)

/-! ## Slots, lanes, positions and channels read after they are written -/

theorem State.slotAt_setSlot (s : State) (i j : Nat) (v : Slot) :
    (s.setSlot i v).slotAt j = if i = j ∧ j < 8 then v else s.slotAt j := by
  unfold State.slotAt State.setSlot
  by_cases h : i = j
  · subst h
    by_cases h8 : i < 8 <;> simp [h8]
  · simp [h]

/-- What stands in a slot of the table, by its number. -/
theorem State.slotAt_record (s : State) (i : Nat) (q : PalletRecord) :
    s.slotAt i = .record q ↔ s.dsu.slots[i]? = some (.record q) := by
  unfold State.slotAt
  cases h : s.dsu.slots[i]? <;> simp

/-- The slot found for a pallet holds a record of that pallet (R58). -/
theorem State.findRecord_some (s : State) (p i : Nat) (h : s.findRecord p = some i) :
    i < 8 ∧ ∃ q, s.slotAt i = .record q ∧ q.pallet = p := by
  have hm := List.mem_of_find?_eq_some h
  have hp := List.find?_some h
  refine ⟨by simp [slotIndices] at hm; omega, ?_⟩
  cases hq : s.slotAt i with
  | free => simp [hq, holdsPallet] at hp
  | lone o => simp [hq, holdsPallet] at hp
  | record q => exact ⟨q, rfl, by simpa [hq, holdsPallet] using hp⟩

/-- Where no slot is found for a pallet, no record has it (R58). -/
theorem State.findRecord_none (s : State) (p i : Nat) (q : PalletRecord) (h : s.findRecord p = none)
    (hq : s.slotAt i = .record q) : q.pallet ≠ p := by
  have hi : i < 8 := by
    by_contra hn
    rw [State.slotAt_record, Vector.getElem?_eq_none (by omega)] at hq
    cases hq
  have hm : i ∈ slotIndices := by simp [slotIndices]; omega
  have := List.find?_eq_none.mp h i hm
  simpa [hq, holdsPallet] using this

/-- A slot written keeps the ask table in form, if what it holds now is no record, or a record within its bounds whose
pallet no other slot has (R58). -/
theorem AskTableFits.setSlot (s : State) (i : Nat) (v : Slot) (h : AskTableFits s.dsu)
    (hv : ∀ q, v = .record q → RecordFits q ∧ ∀ j r, j ≠ i → s.slotAt j = .record r → r.pallet ≠ q.pallet) :
    AskTableFits (s.setSlot i v).dsu := by
  have key : ∀ (j : Nat) (r : PalletRecord), (s.setSlot i v).dsu.slots[j]? = some (.record r) →
      j = i ∧ v = .record r ∨ j ≠ i ∧ s.slotAt j = .record r := by
    intro j r hj
    rw [← State.slotAt_record, State.slotAt_setSlot] at hj
    by_cases e : i = j
    · subst e
      split at hj
      · exact .inl ⟨rfl, hj⟩
      · rename_i hn
        have hi : ¬ i < 8 := fun hlt => hn ⟨rfl, hlt⟩
        rw [State.slotAt_record, Vector.getElem?_eq_none (by omega)] at hj
        cases hj
    · rw [if_neg fun c => e c.1] at hj
      exact .inr ⟨fun c => e c.symm, hj⟩
  refine ⟨?_, ?_, h.sequence⟩
  · intro a b r q ha hb hp
    obtain ⟨rfl, ea⟩ | ⟨na, ea⟩ := key a r ha <;> obtain ⟨eb', eb⟩ | ⟨nb, eb⟩ := key b q hb
    · exact eb'.symm
    · exact absurd hp.symm ((hv r ea).2 b q nb eb)
    · subst eb'
      exact absurd hp ((hv q eb).2 a r na ea)
    · exact h.once a b r q ((s.slotAt_record a r).mp ea) ((s.slotAt_record b q).mp eb) hp
  · intro r hr
    obtain ⟨j, hj⟩ := List.mem_iff_getElem?.mp hr
    rw [Vector.getElem?_toList] at hj
    obtain ⟨-, e⟩ | ⟨-, e⟩ := key j r hj
    · exact (hv r e).1
    · have := (s.slotAt_record j r).mp e
      exact h.records r (List.mem_iff_getElem?.mpr ⟨j, by rw [Vector.getElem?_toList]; exact this⟩)

/-- The stranded moment goes by the positions alone, not by the sums (R87). -/
@[simp] theorem strandedMoment_addWeight (c d : TrailerClass) (p : Plan) (row : Nat) (w : Int) :
    strandedMoment c (addWeight d p row w) = strandedMoment c p := rfl

theorem State.lane?_updateLane (s : State) (k j : Nat) (f : Lane → Lane)
    (hf : ∀ l, (f l).number = l.number) :
    (s.updateLane k f).lane? j = if j = k then (s.lane? k).map f else s.lane? j := by
  have key : ∀ l : Lane, ((if l.number = k then f l else l).number = j) = (l.number = j) := by
    intro l
    split <;> simp [hf]
  simp only [State.updateLane, State.lane?, List.find?_map, Function.comp_def, key]
  split
  · rename_i h
    subst h
    cases hl : s.mlu.lanes.find? (fun l => decide (l.number = j)) with
    | none => rfl
    | some l => simp [show l.number = j by simpa using List.find?_some hl]
  · rename_i h
    cases hl : s.mlu.lanes.find? (fun l => decide (l.number = j)) with
    | none => rfl
    | some l => simp [show l.number = j by simpa using List.find?_some hl, h]

/-- A stack read where it was set, and elsewhere. -/
theorem stackAt_setStack (p : Plan) (row row' : Nat) (sd sd' : Side) (st : List Tier) (h : 1 ≤ row)
    (h' : row ≤ 13) (hr : 1 ≤ row') :
    stackAt (setStack p row sd st) row' sd' = if row = row' ∧ sd = sd' then st else stackAt p row' sd' := by
  unfold stackAt setStack stackIndex
  by_cases e : row = row'
  · subst e
    have h0 : 2 * (row - 1) < 26 := by omega
    have h1 : 2 * (row - 1) + 1 < 26 := by omega
    cases sd <;> cases sd' <;> simp [sideIndex, h0, h1]
  · have : 2 * (row - 1) + sideIndex sd ≠ 2 * (row' - 1) + sideIndex sd' := by
      cases sd <;> cases sd' <;> simp [sideIndex] <;> omega
    simp [e, this]

theorem channelAt_setChannel (s : State) (j k : Nat) (c : Channel) (hj : 1 ≤ j) (hj' : j ≤ 12)
    (hk : 1 ≤ k) :
    channelAt (s.setChannel j c).gdu k = if j = k then c else channelAt s.gdu k := by
  unfold channelAt State.setChannel State.setChannels
  by_cases e : j = k
  · subst e
    simp [show j - 1 < 12 by omega]
  · simp [e, show j - 1 ≠ k - 1 by omega]

/-! ## Lanes: the judgement of a lane and the end of an MLU event (R133, R139) -/

/-- From one state to the next only lanes, hand-overs and the serial number may differ. -/
structure OnlyLanes (s t : State) : Prop where
  pending : t.pending = s.pending
  resetLine : t.resetLine = s.resetLine
  dcu : t.dcu = s.dcu
  fbi : t.fbi = s.fbi
  pdr : t.pdr = s.pdr
  dsu : t.dsu = s.dsu
  lpu : t.lpu = s.lpu
  owed : t.mlu.owed = s.mlu.owed
  gdu : t.gdu = s.gdu
  scu : t.scu = s.scu
  handed : ∃ l, t.handed = s.handed ++ l

theorem OnlyLanes.refl (s : State) : OnlyLanes s s := by constructor <;> first | rfl | exact ⟨[], by simp⟩

theorem OnlyLanes.trans {s t u : State} (h : OnlyLanes s t) (g : OnlyLanes t u) : OnlyLanes s u := by
  obtain ⟨a, ha⟩ := h.handed
  obtain ⟨b, hb⟩ := g.handed
  constructor
  case handed => exact ⟨a ++ b, by rw [hb, ha, List.append_assoc]⟩
  all_goals first
    | exact g.pending.trans h.pending
    | exact g.resetLine.trans h.resetLine
    | exact g.dcu.trans h.dcu
    | exact g.fbi.trans h.fbi
    | exact g.pdr.trans h.pdr
    | exact g.dsu.trans h.dsu
    | exact g.lpu.trans h.lpu
    | exact g.owed.trans h.owed
    | exact g.gdu.trans h.gdu
    | exact g.scu.trans h.scu

theorem State.updateLane_only (s : State) (k : Nat) (f : Lane → Lane) : OnlyLanes s (s.updateLane k f) := by
  constructor <;> first | rfl | exact ⟨[], by simp⟩

theorem State.hand_only (s : State) (c : Instr) : OnlyLanes s (s.hand c) := by
  constructor <;> first | rfl | exact ⟨[c], rfl⟩

theorem State.bump_only (s : State) : OnlyLanes s s.bump := by
  constructor <;> first | rfl | exact ⟨[], by simp⟩

theorem State.raiseIf_only (s : State) (b : Bool) (k : NoticeKind) : OnlyLanes s (s.raiseIf b k) := by
  rcases s.raiseIf_cases b k with ⟨-, h⟩ | ⟨-, h⟩ <;> rw [h]
  · exact s.hand_only _
  · exact .refl s

theorem State.judgeLane_only (s : State) (k : Nat) : OnlyLanes s (s.judgeLane k) := by
  unfold State.judgeLane
  split
  · exact .refl s
  · exact (s.updateLane_only _ _).trans (State.raiseIf_only _ _ _)

theorem State.beginDrainSearch_only (s : State) (k : Nat) : OnlyLanes s (s.beginDrainSearch k) := by
  unfold State.beginDrainSearch
  split
  · exact .refl s
  · exact ((s.bump_only.trans (State.updateLane_only _ _ _)).trans (State.hand_only _ _)).trans
      (State.hand_only _ _)

theorem State.judgeDrain_only (s : State) (k : Nat) : OnlyLanes s (s.judgeDrain k) := by
  unfold State.judgeDrain
  split
  · exact .refl s
  · split
    · split
      · exact s.updateLane_only _ _
      · exact (s.updateLane_only _ _).trans (State.beginDrainSearch_only _ _)
    · exact .refl s

theorem foldl_only (l : List Nat) (f : State → Nat → State) (h : ∀ s k, OnlyLanes s (f s k)) (s : State) :
    OnlyLanes s (l.foldl f s) := by
  induction l generalizing s with
  | nil => exact .refl s
  | cons k l ih => exact (h s k).trans (ih _)

/-- The end of an MLU event changes lanes, hands requests on and takes serial numbers, and nothing else. -/
theorem State.mluEnd_only (s : State) : OnlyLanes s s.mluEnd :=
  foldl_only _ _ (fun s k => s.judgeDrain_only k) s

/-- A search begun changes a lane's drain alone. -/
theorem State.beginDrainSearch_kept (s : State) (k : Nat) : LanesKept s (s.beginDrainSearch k) := by
  intro j
  unfold State.beginDrainSearch
  split
  · rfl
  · rename_i l hl
    have h := s.lane?_updateLane k j
      (fun l => { l with drain := l.drain.map fun d =>
        { d with search := some { token := s.serial, found := none, own := none } } }) (fun _ => rfl)
    show (State.lane? (s.updateLane k _) j).map laneCore = _
    rw [h]
    split
    · subst_vars
      rw [hl]
      rfl
    · rfl

/-- The judgement of a lane for a drain changes its drain and its blocked mark alone. -/
theorem State.judgeDrain_kept (s : State) (k : Nat) : LanesKept s (s.judgeDrain k) := by
  intro j
  unfold State.judgeDrain
  split
  · rfl
  · rename_i l hl
    split
    · split
      · rw [s.lane?_updateLane k j (fun l => { l with blocked := true }) (fun _ => rfl)]
        split
        · subst_vars
          rw [hl]
          rfl
        · rfl
      · rename_i head _ _ _ _ _
        rw [State.beginDrainSearch_kept _ k j,
          s.lane?_updateLane k j (fun l => { l with drain := some (newDrain head.pallet) }) (fun _ => rfl)]
        split
        · subst_vars
          rw [hl]
          rfl
        · rfl
    · rfl

/-- The end of an MLU event leaves every lane as it was, save for its drain and its blocked mark. -/
theorem State.mluEnd_kept (s : State) : LanesKept s s.mluEnd := by
  suffices ∀ (l : List Nat) (s : State), LanesKept s (l.foldl (fun s k => s.judgeDrain k) s) from this _ s
  intro l
  induction l with
  | nil => intro s j; rfl
  | cons k l ih => intro s j; exact (ih _ j).trans (s.judgeDrain_kept k j)

/-- The judgement of a lane is R133's, from the lane as it stands. -/
theorem State.judgeLane_judged (s : State) (k : Nat) (l : Lane) (h : s.lane? k = some l) :
    ∃ m, (s.judgeLane k).lane? k = some m ∧ LaneJudged s (s.judgeLane k) l m := by
  have hh : highAfter s.scu.config l = judgedHigh s.scu.config l := by
    unfold highAfter judgedHigh
    cases l.high
    · simp
    · by_cases g : laneFill l ≤ lowMarkInUse s.scu.config
      · simp [g, Nat.not_lt.mpr g]
      · simp [g, Nat.lt_of_not_le g]
  have hj : s.judgeLane k =
      (s.updateLane k fun l => freedIfEmpty { l with high := highAfter s.scu.config l }).raiseIf
        (highAfter s.scu.config l && !l.high) .laneHigh := by
    simp [State.judgeLane, h]
  refine ⟨freedIfEmpty { l with high := judgedHigh s.scu.config l }, ?_, ?_, ?_, ?_⟩
  · rw [hj, ← hh]
    have := s.lane?_updateLane k k (fun l => freedIfEmpty { l with high := highAfter s.scu.config l })
      (fun l => by unfold freedIfEmpty; split <;> rfl)
    rw [if_pos rfl, h] at this
    unfold State.raiseIf
    split <;> exact this
  · intro h0 h1
    rw [hj, hh]
    simp [State.raiseIf, judgedHigh, h0, h1, State.raiseNotice, State.hand]
  · rintro ⟨h1, h2, h3, h4⟩
    simp [freedIfEmpty, h1, h2, h3, h4]
  · intro hn
    show laneCore (freedIfEmpty _) = _
    unfold freedIfEmpty
    exact congrArg laneCore (if_neg hn)

/-- A search begun for a lane touches no other lane. -/
theorem State.beginDrainSearch_other (s : State) (k j : Nat) (h : j ≠ k) :
    (s.beginDrainSearch k).lane? j = s.lane? j := by
  unfold State.beginDrainSearch
  split
  · rfl
  · exact (s.lane?_updateLane k j
      (fun l => { l with drain := l.drain.map fun d =>
        { d with search := some { token := s.serial, found := none, own := none } } })
      (fun _ => rfl)).trans (if_neg h)

/-- The judgement of a lane for a drain touches no other lane. -/
theorem State.judgeDrain_other (s : State) (k j : Nat) (h : j ≠ k) :
    (s.judgeDrain k).lane? j = s.lane? j := by
  unfold State.judgeDrain
  split
  · rfl
  · split
    · rename_i head _ _ _ _
      split
      · exact (s.lane?_updateLane k j (fun l => { l with blocked := true }) (fun _ => rfl)).trans (if_neg h)
      · exact (State.beginDrainSearch_other _ k j h).trans ((s.lane?_updateLane k j
          (fun l => { l with drain := some (newDrain head.pallet) }) (fun _ => rfl)).trans (if_neg h))
    · rfl

/-- The end of an MLU event does nothing to a lane that is not ASSIGNED. -/
theorem State.mluEnd_unassigned (s : State) (k : Nat) (m : Lane) (h : s.lane? k = some m)
    (ha : m.assignment ≠ .assigned) : s.mluEnd.lane? k = some m := by
  suffices ∀ (l : List Nat) (s : State), s.lane? k = some m →
      (l.foldl (fun s k => s.judgeDrain k) s).lane? k = some m from this _ s h
  intro l
  induction l with
  | nil => exact fun _ hs => hs
  | cons j l ih =>
    intro s hs
    refine ih _ ?_
    by_cases e : j = k
    · subst e
      cases hm : m.assignment <;> simp_all [State.judgeDrain]
    · exact (s.judgeDrain_other j k (Ne.symm e)).trans hs

/-- The judgement of R133 stands over the end of the MLU event. -/
theorem State.judgeLane_mluEnd (s : State) (k : Nat) (l : Lane) (h : s.lane? k = some l) :
    ∃ m, (s.judgeLane k).mluEnd.lane? k = some m ∧ LaneJudged s (s.judgeLane k).mluEnd l m := by
  obtain ⟨m, hm, hj⟩ := s.judgeLane_judged k l h
  obtain ⟨x, hx⟩ := (s.judgeLane k).mluEnd_only.handed
  have hk := (s.judgeLane k).mluEnd_kept k
  rw [hm] at hk
  obtain ⟨n, hn, hc⟩ : ∃ n, (s.judgeLane k).mluEnd.lane? k = some n ∧ laneCore n = laneCore m := by
    cases hq : (s.judgeLane k).mluEnd.lane? k with
    | none => simp [hq] at hk
    | some n => exact ⟨n, rfl, by simpa [hq] using hk⟩
  refine ⟨n, hn, ⟨fun a b => ?_, fun a => ?_, fun a => hc.trans (hj.kept a)⟩⟩
  · rw [hx]
    exact List.mem_append_left _ (hj.raised a b)
  · have hm' := hj.freed a
    have := (s.judgeLane k).mluEnd_unassigned k m hm (by rw [hm']; simp)
    rw [hn] at this
    exact (Option.some.inj this).trans hm'

/-! ## An action on the drains of a pallet (R143, R144) -/

/-- What holds before an action on drains, and is kept by it at each drain that meets the test, holds after. -/
theorem State.eachDrain_induct {P : State → Prop} (p : Drain → Bool) (f : State → Nat → Drain → State)
    (h : ∀ u k d, P u → u.drainAt k = some d → p d = true → P (f u k d)) (s : State) (h0 : P s) :
    P (s.eachDrain p f) := by
  suffices ∀ (l : List Nat) (s : State), P s → P (l.foldl (fun s k =>
      match s.drainAt k with
      | some d => if p d then f s k d else s
      | none => s) s) from this _ s h0
  intro l
  induction l with
  | nil => exact fun _ hs => hs
  | cons k l ih =>
    intro s hs
    refine ih _ ?_
    dsimp only
    split
    · rename_i d hd
      split
      · exact h s k d hs hd ‹_›
      · exact hs
    · exact hs

/-- Where no lane's drain meets the test nothing is done. -/
theorem State.eachDrain_none (p : Drain → Bool) (f : State → Nat → Drain → State) (s : State)
    (h : ∀ k d, s.drainAt k = some d → p d = false) : s.eachDrain p f = s :=
  State.eachDrain_induct (P := fun u => u = s) p f
    (fun u k d hu hd hp => by subst hu; simp [h k d hd] at hp) s rfl

/-! ## The leveller lowered (R10, R16) -/

theorem State.levellerLowered_cases (s : State) :
    (s.dcu.suspended = true ∧ s.levellerLowered = s.resume) ∨
    (s.dcu.suspended = false ∧ s.dcu.returnDue = true ∧ s.levellerLowered = s.setReturnDue false) ∨
    (s.dcu.suspended = false ∧ s.dcu.returnDue = false ∧ s.levellerLowered = s.dockIfBoth) := by
  unfold State.levellerLowered
  cases h : s.dcu.suspended <;> cases h' : s.dcu.returnDue <;> simp

/-! ## The choice of a candidate (R65, R140) -/

/-- The candidate chosen is one of the list, and there is one unless the list is empty. -/
theorem firstBest_mem {α : Type} (before : α → α → Bool) (l : List α) (a : α)
    (h : firstBest before l = some a) : a ∈ l := by
  induction l generalizing a with
  | nil => simp [firstBest] at h
  | cons b l ih =>
    unfold firstBest at h
    split at h
    · simp_all
    · split at h
      · simp_all
      · simp_all

theorem firstBest_none {α : Type} (before : α → α → Bool) (l : List α) :
    firstBest before l = none ↔ l = [] := by
  cases l with
  | nil => simp [firstBest]
  | cons b l =>
    unfold firstBest
    split
    · simp
    · split <;> simp

/-! ## A pallet's search (R64) -/

/-- A search begun is an exception, or one request under a new token. -/
theorem State.beginSearch_cases (s : State) (i : Nat) (r : PalletRecord) :
    (8 ≤ r.totalAsks ∧ s.beginSearch i r = s.toException i r) ∨
      ∃ st, s.beginSearch i r =
        (s.bump.setSlot i (.record { r with search := some { step := st, token := s.serial } })).hand
          (searchRequest r s.serial st) := by
  unfold State.beginSearch
  split
  · exact .inl ⟨‹_›, rfl⟩
  · by_cases h : mayAskTrailer s r = true
    · exact .inr ⟨.trailerStage, by simp [stepFrom, h, State.searchAt, State.setRecord]⟩
    · exact .inr ⟨.ownAssigned, by simp [stepFrom, h, State.searchAt, State.setRecord]⟩

end Sys2Proof.Machine
end

