-- ==== Sys2Proof/Tests/Slice0.lean ====
section
/-! SUPPORT. Tests of the model: ill-formed commands refused, the spec's worked examples one step at a time,
and a witness for each statement of the certificates that has hypotheses: states and operands that meet them,
clause by clause. Expected values are the spec's (the rule is named at each test). -/

namespace Sys2Proof.Tests

open Sys2Proof.Machine

/-! ## Ill-formed commands -/

def noLanes : Openings := { full := 0, half := 0, quarter := 0, mini := 0 }

def sampleAdvert : AdvertBody :=
  { state := .outbound, phase := some .near, accepting := 412, cutOff := 83, margin := 9000
    openings := { full := 2, half := 1, quarter := 0, mini := 4 }
    lanes := [{ number := 1, assignment := .assigned, high := false, dest := 412, fill := 3 }] }

def sampleAsk : AskBody :=
  { seq := 7, target := 9, kind := .trailer, pallet := 70, dest := 412, weight := 700, height := .half
    stackable := true }

def sampleGrant : GrantBody :=
  { asker := 5, seq := 7, pallet := 70, place := .trailer 13 .left 3, hold := 240, margin := 12 }

def sampleClose : CloseBody :=
  { trailerId := Vector.replicate 8 65#8, cls := 3, near := 412, far := 0, landedNear := 4, landedFar := 0
    payload := 6200, gross := 13200, kingpin := 8134, bogie := -1, aborted := false, overLimit := false
    lightNose := false }

theorem test_wellformed_bounds :
    (Instr.exitEvent 4).wf = true ∧ (Instr.lampSensing 12 .tooLow).wf = true ∧
    (Instr.doubtSender 63).wf = true ∧ (Instr.removeRecord 0).wf = true ∧
    wfFrame { sender := 9, seq := 255, restart := true, body := .advert sampleAdvert } = true ∧
    wfFrame { sender := 9, seq := 1, restart := false, body := .grant sampleGrant } = true ∧
    wfFrame { sender := 63, seq := 0, restart := false, body := .close sampleClose } = true := by decide

theorem test_illformed_numbers :
    wfPallet 0 = false ∧ wfPallet 1000000000000 = false ∧ wfReadPallet 1000000000000 = false ∧
    wfBay 0 = false ∧ wfBay 64 = false ∧ wfBayField 64 = false ∧ wfLane 0 = false ∧ wfLane 5 = false ∧
    wfChannel 0 = false ∧ wfChannel 13 = false ∧ wfSeq 256 = false ∧ wfByte 256 = false ∧
    wfWord 65536 = false ∧ wfSigned 2147483648 = false ∧
    wfTrailerId (Vector.replicate 8 0x80#8) = false := by decide

theorem test_illformed_places :
    wfPlace (.trailer 0 .left 1) = false ∧ wfPlace (.trailer 14 .left 1) = false ∧
    wfPlace (.trailer 1 .left 4) = false ∧ wfPlace (.lane 5) = false := by decide

theorem test_illformed_bodies :
    wfAdvertState .listen = false ∧ wfAdvertState .unconfigured = false ∧
    wfLaneAdvert { number := 1, assignment := .free, high := false, dest := 65536, fill := 0 } = false ∧
    wfOpenings { noLanes with mini := 256 } = false ∧
    wfAdvert { sampleAdvert with lanes := List.flatten (List.replicate 5 sampleAdvert.lanes) } = false ∧
    wfAsk { sampleAsk with weight := 65536 } = false ∧ wfGrant { sampleGrant with asker := 64 } = false ∧
    wfRefuse { asker := 5, seq := 256, pallet := 70, reason := .full } = false ∧
    wfPlaced { pallet := 0, asker := 5, place := .lane 1, margin := 0 } = false ∧
    wfRelease { pallet := 70, asker := 64, seq := 0, reason := .late } = false ∧
    wfClose { sampleClose with payload := -1 } = false ∧
    wfFrame { sender := 9, seq := 1, restart := true, body := .ask sampleAsk } = false := by decide

theorem test_illformed_requests :
    wfRequester (.drain 5 0) = false ∧ wfOwnAnswer (.granted 14 .left 1 0) = false ∧
    wfIndicationName (.goDoor 64) = false ∧
    wfIndicationRequest { source := .mlu, indication := indicationOf 5 .wait, pallet := some 70 } = false ∧
    (Instr.laneRead { lane := 1, pallet := 1000000000000, dest := 412, classCode := 0
                      stackable := true }).wf = false ∧
    (Instr.mluExitEvent 0).wf = false := by decide

/-! ## The frame check and the codes (sections 2.4 and 2.4.1) -/

/-- The published check value of this generator and initial value over the digits 1 to 9. -/
theorem test_frame_check :
    crc16 [0x31#8, 0x32#8, 0x33#8, 0x34#8, 0x35#8, 0x36#8, 0x37#8, 0x38#8, 0x39#8] = 0x29B1#16 := by
  decide +kernel

/-! ## Worked cases of chapter 6 -/

def landedOf (pallet kg : Nat) (h : HeightClass) : Tier :=
  .landed { pallet := pallet, grant := kg, measured := kg, height := h, stackable := true, drop := .near
            asker := 0 }

/-- The plan of section 6.7: eight landed pallets, single drop. -/
def workedPlan : Plan :=
  { absentPlan with
    state := .opened, near := 412, phase := some .near, face := 4, payload := 6200, moment := 286200
    floorStacks := #v[[landedOf 11 1000 .full], [landedOf 12 1000 .full], [landedOf 13 900 .full],
      [landedOf 14 900 .full], [landedOf 15 800 .half, landedOf 16 400 .half], [landedOf 17 800 .full],
      [landedOf 18 400 .half], [], [], [], [], [], [], [], [], [], [], [], [], [], [], [], [], [], [], []] }

theorem test_worked_loads :
    loadsOf defaultClass 6200 286200 = { gross := 13200, kingpin := 8134, bogie := 5067 } ∧
    loadsOf defaultClass 6900 452100 = { gross := 13900, kingpin := 8621, bogie := 5280 } ∧
    loadsOf defaultClass 6960 466320 = { gross := 13960, kingpin := 8663, bogie := 5298 } ∧
    loadsOf defaultClass 2000 (-138000) = { gross := 9000, kingpin := 4477, bogie := 4524 } := by decide

/-- Section 6.7: the grant at row 4 RIGHT, the limit case at row 5 LEFT, and AXLE. -/
theorem test_worked_search :
    searchSpot defaultClass workedPlan 700 .half true = .spot 4 .right 1 ∧
    searchSpot { defaultClass with kmax := 8621 } workedPlan 700 .half true = .spot 4 .right 1 ∧
    searchSpot { defaultClass with kmax := 8620 } workedPlan 700 .half true = .spot 5 .left 1 ∧
    searchSpot { defaultClass with kmax := 8528 } workedPlan 700 .half true = .nowhere .axle := by decide

theorem test_worked_margin :
    grossMargin defaultClass 6200 = 20800 ∧ grossMargin defaultClass 6900 = 20100 ∧
    grossMargin defaultClass 27001 = 0 := by decide

/-- R113. -/
theorem test_minutes :
    minutesUntil 100 100 = 0 ∧ minutesUntil 101 100 = 1 ∧ minutesUntil 160 100 = 1 ∧
    minutesUntil 161 100 = 2 ∧ minutesUntil 36100 100 = 600 := by decide

/-- R21: the waits of the first and of the fifteenth collision of bay 5. -/
theorem test_backoff : backoffSlots 5 1 = 5 ∧ backoffSlots 5 15 = 901 := by decide

/-! ## States the witnesses stand in -/

/-- The state a command leaves. -/
def after (o : Host.Outcome State Fault Refusal) : State :=
  match o with
  | .next t => t
  | _ => State.reset

def setLine : DoorLine := { current := true, lastTaken := true, changed := true }

def tester : ConfigRecord := { defaultConfig with bay := 5, laneCount := 2 }

def freeLane (k : Nat) : Lane := { suspectLane k with assignment := .free }

/-- Bay 5 in a bay state at beat 100: the door open, two FREE lanes, the transmit queue empty. -/
def bay (st : BayState) : State :=
  { State.reset with
    dcu := { resetDcu with bayState := some st, beat := 100, doorOpen := setLine }
    fbi := { resetFbi with restartMark := false }
    mlu := { resetMlu with lanes := [freeLane 1, freeLane 2] }
    scu := { resetScu with config := tester } }

def bayWithDcu (st : BayState) (f : Dcu → Dcu) : State := { bay st with dcu := f (bay st).dcu }

def bayWithFbi (st : BayState) (f : Fbi → Fbi) : State := { bay st with fbi := f (bay st).fbi }

def inReset (s : State) : State := { s with resetLine := true }

def answering (s : State) (r : RequestName) : State := s.answer r .ok .nothing

def unconfiguredBay : State :=
  { bay .unconfigured with scu := resetScu, mlu := resetMlu }

def trunk : Binding :=
  { trailerId := Vector.replicate 8 65#8, cls := 0, arrivesLoaded := true, near := 412, far := none
    readBeat := 40, cutOff := 700, farCut := none }

/-- An OUTBOUND bay with a plan of trunk 412. -/
def outboundBay (p : Plan) : State :=
  { bay .outbound with
    dcu := { resetDcu with bayState := some .outbound, beat := 100, doorOpen := setLine
                           trailerPresent := setLine, levellerDown := setLine, phase := some .near
                           binding := some trunk, cutOff := some 700 }
    lpu := { resetLpu with plan := p, binding := some trunk } }

/-! ## Checkers for the invariants that speak of all places -/

def planCheck (p : Plan) : Bool :=
  (p.floorStacks.toList.all fun st => decide (st.length ≤ 3) && st.dropLast.all fun t => !isReserved t) &&
    decide (p.payload = contentsWeight p) && decide (p.face = faceOf p) &&
    (rowNumbers.all fun row => [Side.left, Side.right].all fun sd =>
      (stackAt p row sd).all fun t => !isReserved t || (openBand p.face).contains row)

theorem planFits_of_check (p : Plan) (h : planCheck p = true) : PlanFits p := by
  simp only [planCheck, Bool.and_eq_true, List.all_eq_true, decide_eq_true_eq] at h
  obtain ⟨⟨⟨h1, h2⟩, h3⟩, h4⟩ := h
  refine ⟨fun st hst => ⟨(h1 st hst).1, fun t ht => by simpa using (h1 st hst).2 t ht⟩, h2, h3, ?_⟩
  intro row sd r hr hr' hm
  have hrow : row ∈ rowNumbers := by simp [rowNumbers]; omega
  simpa [isReserved] using h4 row hrow sd (by cases sd <;> simp) _ hm

def pdrCheck (p : Pdr) : Bool :=
  (List.range 128).all fun i => match entryAt p i with
    | none => true
    | some e => decide (i / 4 = setOf e.dest) && (List.range 128).all fun j => match entryAt p j with
      | none => true
      | some f => !decide (entryKey e = entryKey f) || decide (i = j)

theorem entryAt_bound (p : Pdr) (i : Nat) (e : Entry) (h : entryAt p i = some e) : i < 128 := by
  by_contra hn
  simp [entryAt, Vector.getElem?_eq_none (show 128 ≤ i by omega)] at h

theorem pdrFits_of_check (p : Pdr) (h : pdrCheck p = true) : PdrFits p := by
  simp only [pdrCheck, List.all_eq_true, List.mem_range] at h
  refine ⟨fun i e hi => ?_, fun i j e f hi hj hk => ?_⟩
  · have := h i (entryAt_bound p i e hi)
    simp only [hi, Bool.and_eq_true, decide_eq_true_eq] at this
    exact this.1
  · have := h i (entryAt_bound p i e hi)
    simp only [hi, Bool.and_eq_true, List.all_eq_true, List.mem_range] at this
    have := this.2 j (entryAt_bound p j f hj)
    simpa [hj, hk] using this

/-! ## Witnesses: the queue, the frames of the blocks, the invariants -/

theorem test_witness_StepWithEmptyQueue :
    (let s := { State.reset with handed := [.advertTick] }
     s.pending = [] ∧ s.handed = [.advertTick]) ∧
    State.reset.pending = [] ∧ State.reset.handed = [] := by decide

theorem test_witness_CommandsLeaveQueue :
    exec .beat (bay .empty) = .next (after (exec .beat (bay .empty))) := rfl

theorem test_witness_OuterBlockFrames :
    writesDcu .agingEvent = false ∧ writesFbi .agingEvent = false ∧ writesGdu .agingEvent = false ∧
    writesScu .agingEvent = false ∧
    exec .agingEvent (bay .empty) = .next (after (exec .agingEvent (bay .empty))) :=
  ⟨by decide, by decide, by decide, by decide, rfl⟩

theorem test_witness_InnerBlockFrames :
    writesPdr .beat = false ∧ writesDsu .beat = false ∧ writesLpu .beat = false ∧ writesMlu .beat = false ∧
    exec .beat (bay .empty) = .next (after (exec .beat (bay .empty))) :=
  ⟨by decide, by decide, by decide, by decide, rfl⟩

/-- A full transmit queue, the ADVERT apart and owed. -/
def fullQueue : State :=
  bayWithFbi .outbound fun f => { f with
    tx := List.replicate 12 (.owned { owner := .lpu, built := 0, target := 9, body := .grant sampleGrant })
    owedAdvert := true, debt := 4, seq := 255, transmitter := .sending, inHand := true, collisions := 15
    rx := List.replicate 16 { sender := 9, seq := 3, restart := false, body := .ask sampleAsk } }

theorem test_witness_FbiBoundsKept :
    FbiBounds fullQueue.fbi ∧
    step { fullQueue with pending := [.collision] } =
      .next (after (step { fullQueue with pending := [.collision] })) :=
  ⟨⟨by decide, by decide, by decide, by decide, by decide, by decide, by decide⟩, rfl⟩

theorem test_witness_MutedBayStaysQuiet :
    (let s := bayWithFbi .outbound fun f => { f with mute := true }
     s.fbi.mute = true ∧ s.fbi.transmitter = .idle ∧ s.fbi.tx = [] ∧ s.fbi.debt = 0 ∧
       s.fbi.owedAdvert = false) := by decide

theorem test_witness_NoticeLineKept :
    NoticeLineFits (bay .empty) ∧
    NoticeLineFits { bay .empty with scu := withPending resetScu .loss true } ∧
    NoticeLineFits (inReset { bay .empty with scu := { withPending resetScu .loss true with
      noticeLine := false } }) ∧
    step { bay .empty with pending := [.noticeRaise .loss] } =
      .next (after (step { bay .empty with pending := [.noticeRaise .loss] })) :=
  ⟨rfl, rfl, rfl, rfl⟩

def itemOf (pallet : Nat) : Item :=
  { pallet := pallet, weight := 300, estimated := false, height := .quarter, stackable := true
    foreign := false }

def putOf (pallet : Nat) : Put :=
  { pallet := pallet, asker := 9, seq := some 7, weight := 300, estimated := false, height := .quarter
    stackable := true, expiry := 340 }

/-- A lane of destination 412 with items of the pallets given. -/
def laneOfItems (pallets : List Nat) : Lane :=
  { freeLane 1 with assignment := .assigned, dest := some 412, items := pallets.map itemOf }

def bayWithLane (st : BayState) (l : Lane) : State :=
  { bay st with mlu := { resetMlu with lanes := [l, freeLane 2] } }

theorem test_witness_LanesKeepCapacity :
    (let s := bayWithLane .empty { laneOfItems [31, 32, 33] with puts := [34, 35, 36, 37, 38].map putOf }
     (s.mlu.lanes.map Lane.number).Nodup ∧ ∀ l ∈ s.mlu.lanes, l.items.length + l.puts.length ≤ 8 ∧
       (l.assignment ≠ .assigned → l.items = [] ∧ l.puts = [])) := by decide

theorem test_witness_LanesKeepCapacity_order :
    LanesInOrder (bay .empty).mlu.lanes ∧ LanesInOrder State.reset.mlu.lanes ∧
    step { bay .empty with pending := [.clearLane 1] } =
      .next (after (step { bay .empty with pending := [.clearLane 1] })) := by
  simp only [LanesInOrder]
  exact ⟨by decide, by decide, rfl⟩

/-- A bay before its power-on read has ended, one UNCONFIGURED, and one with lanes. -/
theorem test_witness_LanesKeepCapacity_await :
    (State.reset.reading = true ∧ State.reset.mlu.lanes = []) ∧
    (unconfiguredBay.inState .unconfigured = true ∧ unconfiguredBay.mlu.lanes = []) ∧
    (bay .empty).reading = false ∧ (bay .empty).inState .unconfigured = false ∧ (bay .empty).mlu.lanes ≠ [] ∧
    LanesAwait unconfiguredBay ∧
    step { unconfiguredBay with pending := [.beat] } =
      .next (after (step { unconfiguredBay with pending := [.beat] })) := by
  simp only [LanesAwait]
  exact ⟨by decide, by decide, by decide, by decide, by decide, by decide, rfl⟩

theorem test_witness_PlanKeepsItsForm :
    PlanFits (outboundBay workedPlan).plan ∧
    step { outboundBay workedPlan with pending := [.lpuDoorReadOut
        { pallet := 18, dest := 412, height := .half, stackable := true, scale := .zero }] } =
      .next (after (step { outboundBay workedPlan with pending := [.lpuDoorReadOut
        { pallet := 18, dest := 412, height := .half, stackable := true, scale := .zero }] })) :=
  ⟨planFits_of_check _ (by decide), rfl⟩

def trailerEntry (dest bay age : Nat) : Entry :=
  { doubtful := false, dest := dest, bay := bay, age := age
    kind := .trailer 83 9000 { noLanes with half := 1 } }

def laneEntryOf (dest bay lane : Nat) : Entry :=
  { doubtful := false, dest := dest, bay := bay, age := 1, kind := .lane lane 3 false }

/-- Two TRAILER entries and a LANE entry, in sets 28, 29 and 28: 412 = 12 * 32 + 28. -/
def heardDirectory : Pdr :=
  putEntry (putEntry (putEntry resetPdr 112 (trailerEntry 412 9 2)) 116 (trailerEntry 413 10 0)) 113
    (laneEntryOf 412 9 1)

def bayHearing (st : BayState) : State := { bay st with pdr := heardDirectory }

theorem test_witness_DirectoryKeepsItsForm : PdrFits (bayHearing .empty).pdr :=
  pdrFits_of_check _ (by decide +kernel)

/-! ## Witnesses: configuration, resets, the service line -/

def sealedBay (st : BayState) : State := { bay st with scu := { (bay st).scu with sealed := true } }

theorem test_witness_SealClosesConfiguration :
    ((sealedBay .empty).ready = true ∧ (sealedBay .empty).scu.sealed = true) ∧
    (unconfiguredBay.ready = true ∧ unconfiguredBay.scu.sealed = false ∧ unconfiguredBay.scu.config.bay = 0) ∧
    ((bay .unconfigured).ready = true ∧ (bay .unconfigured).scu.sealed = false ∧
      1 ≤ (bay .unconfigured).scu.config.bay) ∧
    ((bay .docked).resetLine = false ∧ (bay .docked).reading = false) ∧
    ((State.reset.reading = true → State.reset.scu.sealed = false) ∧
      exec .beat State.reset = .next (after (exec .beat State.reset))) ∧
    (inReset (bay .docked)).resetLine = true ∧
    (let s := { bay .docked with handed := [.sealRequest] }
     takesFloorReset .floorResetTaken s = true ∧ .sealRequest ∈ s.handed ∧
       exec .floorResetTaken s = .next (after (exec .floorResetTaken s))) ∧
    ((sealedBay .empty).reading = true → (sealedBay .empty).scu.sealed = false) ∧
    Instr.beat ≠ .powerOnReset ∧
    exec .beat (sealedBay .empty) = .next (after (exec .beat (sealedBay .empty))) :=
  ⟨by decide, by decide, by decide, by decide, ⟨by decide, rfl⟩, rfl, ⟨by decide, by decide, rfl⟩, by decide,
    by decide, rfl⟩

theorem test_witness_ResetLineHoldsBay :
    ((inReset (bay .empty)).resetLine = true ∧ Instr.doorLineChange .doorOpen false ≠ .powerOnReset ∧
      Instr.doorLineChange .doorOpen false ≠ .resetLineAsserted ∧
      Instr.doorLineChange .doorOpen false ≠ .resetLineReleased ∧
      (∀ image, Instr.doorLineChange .doorOpen false ≠ .configurationReadEnd image) ∧
      exec (.doorLineChange .doorOpen false) (inReset (bay .empty)) =
        .next (after (exec (.doorLineChange .doorOpen false) (inReset (bay .empty))))) ∧
    isRequest (.readState) = true :=
  ⟨⟨by decide, by decide, by decide, by decide, (fun _ h => nomatch h), rfl⟩, by decide⟩

theorem test_witness_FramesReadBack :
    wfFrame { sender := 9, seq := 255, restart := true, body := .advert sampleAdvert } = true ∧
    wfFrame { sender := 63, seq := 0, restart := false, body := .close sampleClose } = true := by decide

theorem test_witness_ServiceLineTakesOneRequest :
    (isRequest .floorReset = true ∧ (inReset (bay .empty)).ready = false ∧ State.reset.ready = false ∧
      (answering (bay .empty) .readState).ready = false) ∧
    (isRequest .unknown = true ∧ (bay .empty).ready = true) ∧
    (answering (bay .empty) .readState).resetLine = false ∧
    (answering (bay .empty) .readState).scu.answer.isSome = true ∧
    answersFloorReset (answering (bay .empty) .readState) = false := by decide

/-- The four commands at which a reset is taken: for FbiAfterReset, LpuAfterReset and BlocksAfterReset. -/
theorem test_witness_AfterReset :
    takesAnyReset .powerOnReset (bay .outbound) = true ∧
    takesAnyReset .resetLineReleased (inReset (bay .outbound)) = true ∧
    takesAnyReset .floorResetTaken (bay .outbound) = true ∧
    takesAnyReset .serviceAnswerSent (answering (bay .outbound) .floorReset) = true ∧
    (bay .outbound).reading = false ∧ (bay .outbound).inState .unconfigured = false ∧
    takesAnyReset .floorResetTaken unconfiguredBay = true ∧ unconfiguredBay.reading = false ∧
    unconfiguredBay.inState .unconfigured = true ∧ State.reset.reading = true := by decide

/-- An image of the plug with every field at its default but for the bay number. -/
def imageWords (bay : Int) : List Int :=
  bay :: imageFields.map fun f => (getField defaultConfig f.1 f.2).getD 0

def imageOf (bay : Int) : List Byte :=
  let l := (imageWords bay).flatMap signedBytes4
  l ++ crcBytes l

theorem imageGood_of_check (l : List Byte) (h : l.length = imageLength) :
    imageGood (l ++ crcBytes l) = true := by
  simp [imageGood, ← h, crcBytes, bytes2]

theorem test_image_good : imageGood (imageOf 23) = true ∧ imageGood (imageOf 0) = true :=
  ⟨imageGood_of_check _ (by decide +kernel), imageGood_of_check _ (by decide +kernel)⟩

theorem test_image_words :
    signedWords ((imageOf 23).take imageLength) = imageWords 23 ∧
    signedWords ((imageOf 0).take imageLength) = imageWords 0 := by decide +kernel

theorem test_image_fields :
    imageFields[0]? = some (.advertPeriod, 0) ∧ imageFields[95]? = some (.slopeClass, 4) ∧
    (imageWords 23).tail[95]? = some 0 ∧ fieldInRange .advertPeriod 61 = false := by decide

/-- For PlugImageTaken: the two images above (bays 23 and 0), and no image or a short one. -/
theorem test_witness_PlugImageTaken :
    State.reset.reading = true ∧ imageGood [] = false ∧ (bay .empty).reading = false ∧
    (1 ≤ (23 : Int) ∧ (23 : Int) ≤ 63) ∧ ¬ (1 ≤ (0 : Int) ∧ (0 : Int) ≤ 63) := by decide

theorem test_witness_WriteFieldReadsBack :
    ((bay .empty).ready = true ∧ fieldNamed .classP (some 3) = true ∧ (bay .empty).scu.sealed = false ∧
      fieldInRange .classP 110 = true ∧ fieldNamed .groupLevel (some 1) = true) ∧
    (fieldNamed .laneCount none = true ∧ fieldInRange .laneCount 4 = true ∧ fieldInRange .laneCount 0 = true) ∧
    (fieldNamed .classP none = false ∧ fieldNamed .classP (some 4) = false ∧
      fieldNamed .mapFirst (some 0) = false ∧ fieldNamed .bayNumber (some 0) = false) ∧
    ((sealedBay .empty).ready = true ∧ (sealedBay .empty).scu.sealed = true) ∧
    fieldInRange .classD (-201) = false ∧ fieldInRange .bayNumber 64 = false := by decide

theorem test_witness_ReadsChangeNothing :
    (bay .empty).ready = true ∧ ((31 : Nat) ≤ 31 ∧ 1 ≤ (4 : Nat) ∧ (4 : Nat) ≤ 4) ∧ (31 : Nat) < 32 ∧
    (outboundBay workedPlan).ready = true ∧ (outboundBay workedPlan).plan.state ≠ .absent ∧
    (let s := { bay .inbound with lpu := { resetLpu with binding := some trunk } }
     s.ready = true ∧ s.plan.state = .absent ∧ s.lpu.binding = some trunk) := by decide

theorem test_witness_NoticesFollowTheirFlags :
    ((bay .empty).resetLine = false ∧ (bay .empty).reading = false ∧ (bay .empty).ready = true) ∧
    NoticeKind.loss ≠ .strayRead ∧ pendingFlag (bay .empty).scu .loss = false ∧
    (let s := { bay .empty with scu := withPending (bay .empty).scu .strayRead true }
     s.ready = true ∧ pendingFlag s.scu .strayRead = true) := by decide

/-! ## Witnesses: the door and cycle unit -/

theorem test_witness_BeatAdvancesTheCounter :
    ((bay .empty).resetLine = false ∧ (bay .empty).dcu.beat < 4294967295) ∧
    (4294967295 ≤ (bayWithDcu .empty fun d => { d with beat := 4294967295 }).dcu.beat) ∧
    ((bay .empty).resetLine = false ∧ (bay .empty).reading = false) := by decide

theorem test_witness_LineChangesAreTaken :
    takesLine (bay .empty) .doorOpen false = true ∧ takesLine (bay .empty) .closePush true = true ∧
    Line.closePush ≠ .doorOpen ∧ (bay .empty).ready = true := by decide

/-- A door line not asserted since it was last taken. -/
def clearLine : DoorLine := quietLine

theorem test_witness_BayStatesFollowTheLines :
    -- docking, from either line
    (let s := bayWithDcu .empty fun d => { d with levellerDown := setLine }
     takesLine s .trailerPresent true = true ∧ s.dcu.bayState = some .empty ∧ s.dcu.suspended = false ∧
       s.dcu.levellerDown.lastTaken = true) ∧
    (let s := bayWithDcu .empty fun d => { d with trailerPresent := setLine }
     takesLine s .levellerDown true = true ∧ s.dcu.trailerPresent.lastTaken = true ∧
       s.dcu.returnDue = false) ∧
    -- the leveller's return after a grace-expiry undock, and a leveller that leaves in CLOSED
    (let s := bayWithDcu .empty fun d => { d with trailerPresent := setLine, returnDue := true }
     takesLine s .levellerDown true = true ∧ s.dcu.bayState = some .empty ∧ s.dcu.suspended = false ∧
       s.dcu.returnDue = true) ∧
    (let s := bayWithDcu .closed fun d => { d with levellerDown := setLine }
     takesLine s .levellerDown false = true ∧ s.dcu.bayState = some .closed) ∧
    -- leaving DOCKED and BLOCKED
    (let s := bayWithDcu .docked fun d => { d with trailerPresent := setLine, levellerDown := setLine }
     takesLine s .trailerPresent false = true ∧ takesLine s .levellerDown false = true ∧
       s.dcu.bayState = some .docked) ∧
    (let s := bayWithDcu .blocked fun d => { d with trailerPresent := setLine }
     takesLine s .trailerPresent false = true ∧ s.dcu.bayState = some .blocked) ∧
    -- suspension, its end, and undocking
    (takesLine (outboundBay workedPlan) .levellerDown false = true ∧
      (outboundBay workedPlan).dcu.trailerPresent.lastTaken = true ∧
      takesLine (outboundBay workedPlan) .trailerPresent false = true) ∧
    (let s := bayWithDcu .inbound fun d => { d with suspended := true, leveller := some 130 }
     takesLine s .levellerDown true = true ∧ s.dcu.suspended = true) ∧
    (let s := bayWithDcu .closed fun d => { d with trailerPresent := setLine, binding := some trunk }
     takesLine s .trailerPresent false = true ∧ s.dcu.bayState = some .closed) ∧
    -- CLOSE PUSH in INBOUND before and at the cut-off, in OUTBOUND and in CLOSING
    (let s := bayWithDcu .inbound fun d => { d with binding := some trunk, beat := 699 }
     takesLine s .closePush true = true ∧ s.dcu.binding = some trunk ∧ s.dcu.beat < trunk.cutOff) ∧
    (let s := bayWithDcu .inbound fun d => { d with binding := some trunk, beat := 700 }
     takesLine s .closePush true = true ∧ trunk.cutOff ≤ s.dcu.beat) ∧
    takesLine (bay .outbound) .closePush true = true ∧ takesLine (bay .closing) .closePush true = true ∧
    takesLine (bay .listen) .trailerPresent true = true ∧ (bay .listen).dcu.suspended = false := by decide

def doorReadOf (pallet : Nat) (d : Direction) : DoorRead :=
  { pallet := pallet, dest := 412, classCode := 1, stackable := true, scale := .ok 700, direction := d }

theorem test_witness_ReadsAreRouted :
    ((bay .inbound).resetLine = false ∧ (bay .inbound).reading = false ∧
      (doorReadOf 0 .outOfTrailer).pallet = 0) ∧
    ((bay .empty).dcu.bayState ≠ some .inbound ∧ (bay .empty).dcu.bayState ≠ some .outbound ∧
      (bay .empty).dcu.bayState ≠ some .closing) ∧
    (1 ≤ (doorReadOf 1 .outOfTrailer).pallet ∧ (bay .inbound).dcu.doorOpen.lastTaken = true ∧
      (bay .inbound).dcu.suspended = false ∧ (bay .inbound).dcu.bayState = some .inbound ∧
      (doorReadOf 1 .outOfTrailer).direction = .outOfTrailer ∧
      (doorReadOf 1 .intoTrailer).direction = .intoTrailer) ∧
    ((bay .closing).dcu.doorOpen.lastTaken = true ∧ (bay .closing).dcu.bayState = some .closing) ∧
    ((3 : Nat) < 4 ∧ (1500 : Nat) < 1501 ∧ (1 : Nat) ≤ 1500) ∧
    ((bay .empty).laneCount = 2 ∧ (bay .empty).laneCount < 3 ∧ (2 : Nat) ≤ (bay .empty).laneCount) ∧
    (let s := bayWithDcu .empty fun d => withBeam d 4 { current := true, lastTaken := true }
     s.resetLine = false ∧ s.reading = false ∧ (s.dcu.beams[4 - 1]?.map Beam.lastTaken) = some true) := by
  decide

/-- During the power-on read, and each height class code at its bounds. -/
theorem test_witness_ReadsAreRouted_reading :
    (State.reset.resetLine = false ∧ State.reset.reading = true ∧
      State.reset.dcu.beams[1 - 1]? = some { current := false, lastTaken := false } ∧
      (bay .inbound).reading = false) ∧
    ([0, 1, 2, 3, 4].map fun n => (normalLaneRead
      { lane := 1, pallet := 70, dest := 412, classCode := n, stackable := true }).height) =
      [.full, .half, .quarter, .mini, .full] := by decide

def cardOf (near : Nat) (far farCut : Option Nat) : CardRead :=
  { trailerId := Vector.replicate 8 65#8, cls := 3, arrivesLoaded := false, near := near, far := far
    farCut := farCut, cutOff := 9 }

theorem test_witness_CardsAreJudged :
    ((bay .empty).resetLine = false ∧ (bay .empty).reading = false ∧
      (bay .empty).dcu.bayState ≠ some .docked) ∧
    ((bay .docked).dcu.bayState = some .docked ∧ (3 : Nat) < 4 ∧ (cardOf 0 none none).near = 0 ∧
      999 < (cardOf 1000 none none).near ∧
      (cardOf 412 (some 412) (some 0)).far = some (cardOf 412 (some 412) (some 0)).near ∧
      (cardOf 412 (some 388) none).farCut = none) ∧
    ((cardOf 412 (some 388) (some 700)).cls ≤ 3 ∧ 1 ≤ (cardOf 412 (some 388) (some 700)).near ∧
      (cardOf 412 (some 388) (some 700)).near ≤ 999 ∧
      ∀ f ∈ (cardOf 412 (some 388) (some 700)).far, f ≠ 0 →
        f ≤ 999 ∧ f ≠ 412 ∧ (cardOf 412 (some 388) (some 700)).farCut ≠ none) ∧
    (cardOf 412 none none).arrivesLoaded = false ∧
    { cardOf 412 none none with arrivesLoaded := true }.arrivesLoaded = true := by decide

theorem test_witness_BayDeadlinesAct :
    (let s := bayWithDcu .listen fun d => { d with join := some 100 }
     s.resetLine = false ∧ s.dcu.bayState = some .listen ∧ s.dcu.join = some 100 ∧ 100 ≤ s.dcu.beat ∧
       s.fbi.tx = [] ∧ s.fbi.mute = false) ∧
    (let s := bayWithDcu .outbound fun d => { d with cutOff := some 100 }
     s.resetLine = false ∧ s.dcu.cutOff = some 100 ∧ 100 ≤ s.dcu.beat ∧ s.dcu.bayState = some .outbound) ∧
    (let s := bayWithDcu .inbound fun d => { d with cutOff := some 100 }
     s.dcu.cutOff = some 100 ∧ s.dcu.bayState ≠ some .outbound) ∧
    (let s := { outboundBay { workedPlan with phase := some .far, far := some 388 } with
      dcu := { (bay .outbound).dcu with phase := some .far, farCut := some 100 } }
     s.dcu.farCut = some 100 ∧ 100 ≤ s.dcu.beat ∧ s.dcu.bayState = some .outbound ∧
       s.dcu.phase = some .far ∧ s.plan.state = .opened) ∧
    (let s := bayWithDcu .closing fun d => { d with farCut := some 100 }
     s.dcu.farCut = some 100 ∧ s.dcu.bayState ≠ some .outbound) ∧
    (let s := bayWithDcu .inbound fun d => { d with suspended := true, leveller := some 100 }
     s.dcu.suspended = true ∧ s.dcu.leveller = some 100 ∧ 100 ≤ s.dcu.beat) ∧
    (let s := bayWithDcu .closing fun d => { d with suspended := true, leveller := some 100 }
     s.dcu.suspended = true ∧ s.dcu.leveller = some 100 ∧ s.dcu.bayState = some .closing) ∧
    (let s := bayWithDcu .closing fun d => { d with closingGrace := some 100 }
     s.dcu.bayState = some .closing ∧ s.dcu.closingGrace = some 100 ∧ 100 ≤ s.dcu.beat) ∧
    ((bay .outbound).dcu.bayState ≠ some .closing ∧ (bay .blocked).ready = true ∧
      (bay .blocked).dcu.bayState = some .blocked ∧ (bay .docked).ready = true ∧
      (bay .docked).dcu.bayState ≠ some .blocked) := by decide

/-! ## Witnesses: the floor bus interface -/

def ownedAsk : Outgoing := .owned { owner := .dsu, built := 3, target := 9, body := .ask sampleAsk }

def busBay (tr : Transmitter) (tx : List Outgoing) (n : Nat) : State :=
  bayWithFbi .outbound fun f => { f with transmitter := tr, tx := tx, collisions := n
                                         inHand := decide (tr = .sending) }

theorem test_witness_AttemptsAndCollisions :
    (let s := busBay .deferring [.advert, ownedAsk] 0
     s.resetLine = false ∧ s.fbi.transmitter = .deferring ∧ s.fbi.tx = [.advert, ownedAsk]) ∧
    (let s := busBay .deferring [ownedAsk] 0
     s.fbi.transmitter = .deferring ∧ s.fbi.tx = [ownedAsk]) ∧
    (let s := busBay .sending [ownedAsk] 14
     s.fbi.transmitter = .sending ∧ s.fbi.tx = [ownedAsk] ∧ s.fbi.collisions < 15) ∧
    (busBay (.backoff 901) [ownedAsk] 15).fbi.transmitter = .backoff 901 ∧
    -- the figures of an ADVERT: a plan OPEN in OUTBOUND and in CLOSING, and one FINAL in CLOSED
    ((outboundBay workedPlan).plan.state = .opened ∧ (outboundBay workedPlan).lpu.binding = some trunk) ∧
    (let s := { bay .closing with lpu := { resetLpu with plan := workedPlan, binding := some trunk } }
     s.dcu.bayState = some .closing ∧ s.plan.state = .opened ∧ s.lpu.binding = some trunk) ∧
    (let s := { bay .closed with lpu := { resetLpu with
      plan := { workedPlan with state := .final }, binding := some trunk } }
     s.dcu.bayState = some .closed ∧ s.plan.state = .final) := by decide

/-- The figures of an ADVERT: the drop of each phase, the margin at its bounds, and a lane of each kind. -/
theorem test_witness_AttemptsAndCollisions_figures :
    (let p := { workedPlan with far := some 388 }
     acceptingDest p = 412 ∧ acceptingDest { p with phase := some .far } = 388 ∧
       acceptingDest { p with phase := none } = 0) ∧
    grossMargin defaultClass 27000 = 0 ∧ grossMargin defaultClass 26999 = 1 ∧
    grossMargin defaultClass 28000 = 0 ∧ grossMargin { defaultClass with gmax := 80000 } 0 = 65535 ∧
    laneEntry (suspectLane 2) =
      { number := 2, assignment := .suspect, high := false, dest := 0, fill := 0 } ∧
    laneEntry { laneOfItems [31] with puts := [putOf 70] } =
      { number := 1, assignment := .assigned, high := false, dest := 412, fill := 2 } ∧
    (outboundBay workedPlan).scu.config.classes[workedPlan.cls]? = some defaultClass := by decide

/-- R176, R21: a collision of an attempt begun as bay 5 waits as bay 5 after the number is written to 6. -/
theorem test_collision_after_write :
    (let s := after (exec .attemptStart { busBay .deferring [ownedAsk] 0 with
        scu := { resetScu with config := tester } })
     let t := after (exec (.writeField .bayNumber none 6) s)
     (t.own, (after (exec .collision t)).fbi.transmitter) = (6, .backoff 5)) := by decide +kernel

theorem test_witness_FramesLeaveTheQueue :
    (let s := busBay .sending [.advert] 0
     s.resetLine = false ∧ s.fbi.transmitter = .sending ∧ s.fbi.tx = [.advert] ∧
       s.fbi.owedAdvert = false) ∧
    (let s := busBay .sending [ownedAsk, .advert] 15
     s.resetLine = false ∧ s.fbi.transmitter = .sending ∧ s.fbi.tx = [ownedAsk, .advert] ∧
       15 ≤ s.fbi.collisions ∧ s.fbi.owedAdvert = false) := by decide

def askFrame : Frame := { sender := 9, seq := 7, restart := false, body := .ask sampleAsk }

/-- The bytes of the sample ASK with a kind none of the seven, and the check made good again. -/
def oddBytes : List Byte :=
  let l := (0x58#8 :: 9#8 :: (frameBytes askFrame).drop 2).take 19
  l ++ crcBytes l

theorem test_witness_ArrivalsAreJudged :
    (bay .empty).resetLine = false ∧ (bay .empty).reading = false ∧ checkFits [] = false ∧
    checkFits (frameBytes askFrame) = true ∧ frameOf (frameBytes askFrame) = some askFrame ∧
    checkFits oddBytes = true ∧ frameOf oddBytes = none ∧ (bay .empty).fbi.rx.length < 16 ∧
    16 ≤ fullQueue.fbi.rx.length ∧ State.reset.reading = true ∧ State.reset.resetLine = false ∧
    wfFrame askFrame = true ∧
    (frameBytes askFrame).dropLast.length < 7 + part (frameBytes askFrame).dropLast 4 1 ∧
    7 + part (frameBytes askFrame ++ [0]) 4 1 < (frameBytes askFrame ++ [0]).length := by
  decide +kernel

/-- R27, R24: the check stands where the body length puts it, so a byte more leaves it good and fails check 3. -/
theorem test_long_frame : checkFits (frameBytes askFrame ++ [0]) = true ∧
    frameOf (frameBytes askFrame ++ [0]) = none := by decide +kernel

def takingBay (f : Frame) (heard : Option Nat) (mute : Bool) : State :=
  bayWithFbi .outbound fun u => { u with
    rx := [f], lastHeard := u.lastHeard.setIfInBounds 8 heard, mute := mute }

theorem test_witness_FramesAreTaken :
    (let s := takingBay askFrame (some 6) false
     s.resetLine = false ∧ s.fbi.rx = [askFrame] ∧ askFrame.sender ≠ s.own ∧ 1 ≤ askFrame.sender ∧
       askFrame.sender ≤ 63 ∧ s.fbi.lastHeard[askFrame.sender - 1]? = some (some 6) ∧
       askFrame.seq = (6 + 1) % 256) ∧
    (let s := takingBay askFrame (some 7) false
     askFrame.restart = false ∧ s.fbi.lastHeard[askFrame.sender - 1]? = some (some 7) ∧
       askFrame.seq ≠ (7 + 1) % 256) ∧
    (takingBay askFrame none false).fbi.lastHeard[askFrame.sender - 1]? = some none ∧
    (∀ m : Bool, let s := takingBay { askFrame with sender := 5 } none m
      s.resetLine = false ∧ s.fbi.rx = [{ askFrame with sender := 5 }] ∧ (5 : Nat) = s.own ∧
        s.fbi.mute = m) := by decide

def frameFrom9 (restart : Bool) (b : Body) : Frame := { sender := 9, seq := 7, restart := restart, body := b }

def refuseOf (reason : RefuseReason) : RefuseBody := { asker := 5, seq := 7, pallet := 70, reason := reason }

def releaseOf (reason : ReleaseReason) : ReleaseBody := { pallet := 70, asker := 5, seq := 7, reason := reason }

def placedOf (place : Place) : PlacedBody := { pallet := 70, asker := 5, place := place, margin := 0 }

/-- A frame of each kind, to this bay and past it. -/
theorem test_witness_FramesAreTaken_kinds :
    (∀ f ∈ [frameFrom9 false (.advert sampleAdvert), frameFrom9 true (.advert sampleAdvert),
        frameFrom9 false (.ask { sampleAsk with target := 5 }), frameFrom9 false (.ask sampleAsk),
        frameFrom9 false (.grant sampleGrant), frameFrom9 false (.grant { sampleGrant with asker := 6 }),
        frameFrom9 false (.refuse (refuseOf .full)), frameFrom9 false (.placed (placedOf (.lane 1))),
        frameFrom9 false (.release (releaseOf .expired)), frameFrom9 false (.release (releaseOf .cancel)),
        frameFrom9 false (.close sampleClose)],
      (takingBay f none false).fbi.rx = [f] ∧ f.sender ≠ (takingBay f none false).own) ∧
    (bay .outbound).own = 5 ∧ (takingBay askFrame none true).fbi.mute = true := by decide +kernel

/-- A bay clash while an attempt is under way and frames wait. -/
theorem test_witness_FramesAreTaken_clash :
    (let s := bayWithFbi .outbound fun u => { u with
       rx := [{ askFrame with sender := 5 }], tx := [ownedAsk, .advert], transmitter := .sending, inHand := true }
     s.resetLine = false ∧ s.fbi.rx = [{ askFrame with sender := 5 }] ∧ (5 : Nat) = s.own ∧
       s.fbi.mute = false ∧ s.fbi.tx = [ownedAsk, .advert] ∧ s.fbi.transmitter = .sending) := by decide

theorem test_witness_AdvertDebtRises :
    ((bay .outbound).resetLine = false ∧ (bay .outbound).working = true ∧
      (bay .outbound).fbi.mute = false ∧ (bay .outbound).fbi.restartMark = false) ∧
    FbiBounds fullQueue.fbi ∧ fullQueue.working = true ∧ 12 ≤ fullQueue.fbi.tx.length ∧
    (let s := bayWithFbi .outbound fun f => { f with tx := [ownedAsk, .advert], debt := 3, inHand := true }
     FbiBounds s.fbi ∧ s.fbi.restartMark = false ∧ .advert ∈ s.fbi.tx) ∧
    (let s := bayWithFbi .outbound fun f => { f with restartMark := true }
     s.working = true ∧ s.fbi.mute = false ∧ s.fbi.restartMark = true ∧ s.fbi.tx = []) ∧
    (bay .listen).working = false ∧ (bay .unconfigured).working = false :=
  ⟨by decide, ⟨by decide, by decide, by decide, by decide, by decide, by decide, by decide⟩, by decide,
    by decide, ⟨⟨by decide, by decide, by decide, by decide, by decide, by decide, by decide⟩, by decide,
    by decide⟩, by decide, by decide, by decide⟩

/-! ## Witnesses: the peer directory -/

theorem test_witness_DoubtAgeAndCloseEntries :
    (bayHearing .empty).resetLine = false ∧
    (entryAt (bayHearing .empty).pdr 112).isSome = true ∧
    entryAt (after (exec .agingEvent (bayHearing .empty))).pdr 112 = some (trailerEntry 412 9 3) ∧
    entryAt (after (exec (.pdrClose 9) (bayHearing .empty))).pdr 112 = none := by decide +kernel

theorem test_witness_AdvertsAreEntered :
    (bayHearing .empty).resetLine = false ∧ PdrFits (bayHearing .empty).pdr ∧
    sampleAdvert.state = .outbound ∧ 1 ≤ sampleAdvert.accepting ∧ sampleAdvert.accepting ≤ 999 ∧
    { sampleAdvert with accepting := 999 }.accepting = 999 ∧
    (∃ l, sampleAdvert.lanes = [] ++ l :: [] ∧ advertLaneDest l = some 412) ∧
    { sampleAdvert with lanes := [] }.lanes = [] :=
  ⟨rfl, pdrFits_of_check _ (by decide +kernel), by decide, by decide, by decide, rfl, ⟨_, rfl, by decide⟩, rfl⟩

/-- R44 and R45 at the bounds: the lane numbers and destinations entered, and each clamp. -/
theorem test_witness_AdvertsAreEntered_bounds :
    (let l : LaneAdvert := { number := 4, assignment := .assigned, high := true, dest := 999, fill := 9 }
     advertLaneDest l = some 999 ∧ advertLaneDest { l with dest := 1000 } = none ∧
       advertLaneDest { l with dest := 0 } = none ∧ advertLaneDest { l with number := 5 } = none ∧
       advertLaneDest { l with number := 0 } = none ∧ advertLaneDest { l with assignment := .free } = some 0 ∧
       advertLaneDest { l with assignment := .suspect } = none ∧
       (advertLane 9 999 l).kind = .lane 4 8 true) ∧
    (let a := { sampleAdvert with cutOff := 601, openings := { full := 5, half := 4, quarter := 3, mini := 9 } }
     (advertTrailer 9 a).kind = .trailer 600 a.margin { full := 4, half := 4, quarter := 3, mini := 4 }) := by
  decide

theorem test_witness_OverheardFramesAreSnooped :
    (bayHearing .empty).resetLine = false ∧ (1 : Nat) ≤ 63 ∧ 1 ≤ (bayHearing .empty).own ∧
    (bayHearing .empty).own ≤ 63 := by decide

/-- R51: a GROSS refusal of an overheard 700 kg ask lowers the margin to 699, a CLOSED one removes the entry. -/
theorem test_snooped_refusal :
    (let s := after (exec (.pdrAsk 10 sampleAsk) (bayHearing .empty))
     ((entryAt (after (exec (.pdrRefuse 9 { asker := 10, seq := 7, pallet := 70, reason := .gross }) s)).pdr
        112).map Entry.kind) = some (.trailer 83 699 { noLanes with half := 1 }) ∧
     entryAt (after (exec (.pdrRefuse 9 { asker := 10, seq := 7, pallet := 70, reason := .closed }) s)).pdr
        112 = none) := by decide +kernel

def drainOf (pallet : Nat) (st : DrainState) (target seq : Option Nat) : Drain :=
  { newDrain pallet with state := st, target := target, seq := seq }

def bayDraining (d : Drain) : State :=
  bayWithLane .inbound { laneOfItems [31, 32] with drain := some d }

def searching (n : Nat) : Drain := { newDrain 31 with search := some (freshSearch n) }

theorem test_witness_CandidatesAreAnswered :
    (bayHearing .empty).resetLine = false ∧
    (bayDraining (searching 4)).resetLine = false ∧
    (bayDraining (searching 4)).drainSearch? 1 4 = some (freshSearch 4) ∧
    (bayDraining (searching 4)).drainSearch? 1 3 = none ∧
    trailerCandidates heardDirectory 412 =
      [{ bay := 9, cutOff := 83, margin := 9000, openings := { noLanes with half := 1 } }] := by
  decide +kernel

/-! ## Witnesses: the discharge unit -/

def readOf (pallet dest : Nat) (sc : Scale) : PalletRead :=
  { pallet := pallet, dest := dest, height := .half, stackable := true, scale := sc }

/-- A record of pallet 70 for 412 in a state, with its target and sequence. -/
def recordOf (st : RecordState) (target seq : Option Nat) : PalletRecord :=
  { newRecord tester (readOf 70 412 (.ok 700)) with
    state := st, target := target, seq := seq, handling := .direct
    indication := some (indicationOf 5 .wait) }

/-- An INBOUND bay with one slot of the ask table taken. -/
def bayWithSlot (v : Slot) : State :=
  { bay .inbound with dsu := { resetDsu with slots := resetDsu.slots.setIfInBounds 0 v } }

def bayWithRecord (q : PalletRecord) : State := bayWithSlot (.record q)

def fullTable : State :=
  { bay .inbound with dsu := { resetDsu with slots := Vector.replicate 8 (.record (recordOf .seeking none none)) } }

theorem test_witness_PalletsAreRecorded :
    (fullTable.resetLine = false ∧ fullTable.findRecord 71 = none ∧ fullTable.freeSlot = none) ∧
    ((bay .inbound).findRecord 70 = none ∧ (bay .inbound).freeSlot = some 0 ∧
      (readOf 70 0 (.ok 700)).dest = 0 ∧ 999 < (readOf 70 1000 (.ok 700)).dest ∧
      (readOf 70 412 .overload).scale = .overload) ∧
    (let s := bay .inbound
     let c := { s.scu.config with map := Vector.replicate 8 { first := 400, last := 412, handling := .hold } }
     let t := { s with scu := { s.scu with config := c } }
     t.findRecord 70 = none ∧ t.freeSlot = some 0 ∧ 1 ≤ (readOf 70 412 .zero).dest ∧
       (readOf 70 412 .zero).dest ≤ 999 ∧ (readOf 70 412 .zero).scale ≠ .overload ∧
       handlingOf t.scu.config 412 ≠ .except) ∧
    (let q := recordOf .guided (some 9) (some 7)
     (bayWithRecord q).findRecord 70 = some 0 ∧ (bayWithRecord q).slotAt 0 = .record q ∧
       q.state ≠ .orphan ∧ q.indication = some (indicationOf 5 .wait)) ∧
    (let q := recordOf .orphan (some 9) (some 7)
     (bayWithRecord q).findRecord 70 = some 0 ∧ (bayWithRecord q).slotAt 0 = .record q ∧
       q.state = .orphan) := by decide

/-- The transmit queue full, and muted: what an offer of a state's frames then meets. -/
def noRoom (s : State) : State := { s with fbi := { fullQueue.fbi with rx := [] } }

def muted (s : State) : State := { s with fbi := { s.fbi with mute := true } }

def owedCancel : OwedRelease := { built := 3, target := 9, body := releaseOf .cancel }

/-- R31: at a bay clash the record of a waiting ASK is told, and goes back to its search. -/
theorem test_clash_tells_the_asker :
    (let s := bayWithRecord (recordOf .asked (some 9) (some 7))
     let t := after (exec .frameTaking { s with fbi := { s.fbi with
       rx := [{ askFrame with sender := 5 }], tx := [ownedAsk], transmitter := .deferring } })
     (t.fbi.mute, (t.recordAt 0).map PalletRecord.state, (t.recordAt 0).map PalletRecord.seq) =
       (true, some .seeking, some none)) := by decide +kernel

theorem test_witness_PalletsAreTakenBack :
    ((bay .inbound).resetLine = false ∧ (bay .inbound).findRecord 70 = none) ∧
    (let q := recordOf .seeking none none
     (bayWithRecord q).ready = true ∧ (bayWithRecord q).findRecord 70 = some 0 ∧
       (bayWithRecord q).slotAt 0 = .record q ∧ q.state = .seeking) ∧
    ((1 : Nat) ≤ 999999999999 ∧ (999999999999 : Nat) < 1000000000000) ∧
    (let q := { recordOf .asked (some 9) (some 7) with owedAsk := some { built := 1, item := sampleAsk } }
     q.state = .asked ∧ q.owedAsk ≠ none) ∧
    ((recordOf .guided (some 5) none).state = .guided ∧ (recordOf .guided (some 5) none).seq = none) ∧
    (let q := recordOf .asked (some 9) (some 7)
     q.state = .asked ∧ q.owedAsk = none ∧ q.target = some 9 ∧ q.seq = some 7 ∧
       (bayWithRecord q).offerResult = .placed) := by decide

/-- A CANCEL refused: of a record, freed, with a free slot and without; muted. A slot freed keeps its own RELEASE. -/
theorem test_witness_PalletsAreTakenBack_refused :
    (let q := recordOf .asked (some 9) (some 7)
     q.state = .asked ∧ q.owedAsk = none ∧ q.target = some 9 ∧ q.seq = some 7 ∧
       (noRoom (bayWithRecord q)).offerResult = .noRoom ∧ (muted (bayWithRecord q)).offerResult = .muted ∧
       ((noRoom (bayWithRecord q)).setSlot 0 (slotFreed q)).findRecord 70 = none ∧
       ((noRoom (bayWithRecord q)).setSlot 0 (slotFreed q)).freeSlot = some 0) ∧
    (let q := { recordOf .guided (some 9) (some 7) with owedRelease := some owedCancel }
     let s := { bay .inbound with dsu := { resetDsu with
       slots := (Vector.replicate 8 (.lone owedCancel)).setIfInBounds 0 (.record q) } }
     q.state = .guided ∧ slotFreed q = .lone owedCancel ∧ (s.setSlot 0 (slotFreed q)).freeSlot = none ∧
       (noRoom s).offerResult = .noRoom) := by decide +kernel

def candidate (bay cutOff margin : Nat) : TrailerCandidate :=
  { bay := bay, cutOff := cutOff, margin := margin, openings := { noLanes with half := 1 } }

def seekingAt (st : SearchStep) : PalletRecord :=
  { recordOf .seeking none none with search := some { step := st, token := 4 } }

theorem test_witness_SearchesGoStepByStep :
    ({ recordOf .seeking none none with totalAsks := 8 }.totalAsks = 8 ∧
      { recordOf .seeking none none with totalAsks := 7 }.totalAsks < 8) ∧
    (∀ st ∈ [SearchStep.trailerStage, .ownAssigned, .peerAssigned, .ownFree, .peerFree],
      (bayWithRecord (seekingAt st)).resetLine = false ∧ (bayWithRecord (seekingAt st)).findRecord 70 = some 0 ∧
      (bayWithRecord (seekingAt st)).slotAt 0 = .record (seekingAt st) ∧ (seekingAt st).state = .seeking ∧
      (seekingAt st).search = some { step := st, token := 4 }) ∧
    trailerFits [] 700 .half (candidate 9 83 700) = true ∧
    trailerFits [] 700 .half (candidate 9 83 699) = false ∧ trailerFits [9] 700 .half (candidate 9 83 700) = false ∧
    (bay .inbound).findRecord 70 = none ∧ (bay .inbound).offerResult = .placed ∧
    fullQueue.offerResult = .noRoom ∧
    (bayWithFbi .inbound fun f => { f with mute := true }).offerResult = .muted ∧
    ((recordOf .asked (some 9) (some 7)).state ≠ .seeking ∧
      (seekingAt .ownFree).search = some { step := .ownFree, token := 4 } ∧ (4 : Nat) ≠ 5) := by decide

/-- The tests of a candidate at their bounds. -/
theorem test_witness_SearchesGoStepByStep_tests :
    (let q := recordOf .seeking none none
     laneFits q .peerAssigned { bay := 9, lane := 1, fill := 7, high := false } = true ∧
       laneFits q .peerAssigned { bay := 9, lane := 1, fill := 8, high := false } = false ∧
       laneFits q .peerAssigned { bay := 9, lane := 1, fill := 7, high := true } = false ∧
       laneFits q .peerFree { bay := 9, lane := 1, fill := 8, high := true } = true ∧
       laneFits { q with excluded := [9] } .peerFree { bay := 9, lane := 1, fill := 0, high := false } = false) ∧
    trailerFits [] 700 .full (candidate 9 83 700) = false := by decide

theorem test_witness_RecordDeadlinesAct :
    (let q := { recordOf .asked (some 9) (some 7) with answerBy := some 100 }
     (bayWithRecord q).resetLine = false ∧ (bayWithRecord q).findRecord 70 = some 0 ∧
       (bayWithRecord q).slotAt 0 = .record q ∧ q.state = .asked ∧ q.answerBy = some 100 ∧
       100 ≤ (bayWithRecord q).dcu.beat) ∧
    (let q := { recordOf .guided (some 9) (some 7) with guardBy := some 100 }
     (bayWithRecord q).slotAt 0 = .record q ∧ q.state = .guided ∧ q.guardBy = some 100) ∧
    (let q := { recordOf .seeking none none with retryAt := some 100 }
     (bayWithRecord q).slotAt 0 = .record q ∧ q.state = .seeking ∧ q.retryAt = some 100) ∧
    (let q := { recordOf .exception none none with indication := some (indicationOf 5 .except) }
     (bayWithRecord q).findRecord 70 = some 0 ∧ (bayWithRecord q).slotAt 0 = .record q ∧
       q.indication = some (indicationOf 5 .except) ∧ q.indication ≠ some (indicationOf 5 .wait)) := by decide

/-- Frames of the DSU that leave unsent: its ASK and its RELEASE, with and without their record. -/
theorem test_witness_RecordDeadlinesAct_told :
    (let q := recordOf .asked (some 9) (some 7)
     (bayWithRecord q).findRecord sampleAsk.pallet = some 0 ∧ (bayWithRecord q).slotAt 0 = .record q ∧
       q.state = .asked ∧ q.target = some sampleAsk.target ∧ q.seq = some sampleAsk.seq ∧
       q.target ≠ some { sampleAsk with target := 23 }.target ∧
       { sampleAsk with seq := 8 }.pallet = 70 ∧ q.seq ≠ some { sampleAsk with seq := 8 }.seq) ∧
    (let x := releaseOf .cancel
     let q := recordOf .seeking none none
     let o : OwedRelease := { built := 3, target := 9, body := x }
     (bayWithRecord q).findRecord x.pallet = some 0 ∧ q.owedRelease = none ∧
       { q with owedRelease := some o }.owedRelease ≠ none ∧ (bay .inbound).findRecord x.pallet = none ∧
       (bay .inbound).freeSlot = some 0 ∧
       (let s := { bay .inbound with dsu := { resetDsu with slots := Vector.replicate 8 (.lone o) } }
        s.findRecord x.pallet = none ∧ s.freeSlot = none)) := by decide

/-- R72: an old ASK for the pallet under the same sequence but to another bay, sent in vain, leaves the live ask. -/
theorem test_old_ask_unsent :
    (let s := bayWithRecord (recordOf .asked (some 9) (some 7))
     let f := fun b => ({ owner := .dsu, built := 3, target := b
                          body := .ask { sampleAsk with target := b } } : OwnedFrame)
     s.toldFailed (f 23) = s ∧
       (match (s.toldFailed (f 9)).slotAt 0 with
        | .record q => (q.state, q.target, q.seq)
        | _ => (.asked, some 0, none)) = (.seeking, none, none)) := by decide +kernel

def grantTo (pallet seq : Nat) (place : Place) : GrantBody :=
  { asker := 5, seq := seq, pallet := pallet, place := place, hold := 240, margin := 12 }

theorem test_witness_AnswersEndAsks :
    (let q := { recordOf .asked (some 9) (some 7) with askKind := some .trailer }
     let g := grantTo 70 7 (.trailer 4 .right 1)
     (bayWithRecord q).resetLine = false ∧ (bayWithRecord q).findRecord g.pallet = some 0 ∧
       (bayWithRecord q).slotAt 0 = .record q ∧ q.state = .asked ∧ q.target = some 9 ∧
       q.seq = some g.seq ∧ q.askKind = some (placeKind g.place)) ∧
    ((bay .inbound).findRecord 70 = none ∧ borrowerOf (bay .inbound) 7 ≠ some .mlu ∧
      (bay .inbound).offerResult = .placed ∧
      borrowerOf { bay .inbound with dsu := { resetDsu with
        borrowers := resetDsu.borrowers.setIfInBounds 7 (some .mlu) } } 7 = some .mlu) ∧
    (let q := { recordOf .guided (some 9) (some 7) with place := some (.trailer 4 .right 1) }
     (bayWithRecord q).slotAt 0 = .record q ∧ q.state = .guided ∧ q.target = some 9 ∧
       q.place.map placeKind = some (placeKind (Place.trailer 5 .left 1))) ∧
    (let q := recordOf .asked (some 9) (some 7)
     (bayWithRecord q).findRecord 70 = some 0 ∧ (bayWithRecord q).slotAt 0 = .record q ∧
       q.state = .asked ∧ q.target = some 9 ∧ q.seq = some 7 ∧ q.excluded.length < 4 ∧ 9 ∉ q.excluded) ∧
    (let q := { recordOf .asked (some 9) (some 7) with excluded := [1, 2, 3, 4] }
     q.state = .asked ∧ 4 ≤ q.excluded.length ∧ RefuseReason.full ≠ .busy ∧ RefuseReason.full ≠ .held) ∧
    (let q := recordOf .guided (some 9) (some 7)
     (bayWithRecord q).slotAt 0 = .record q ∧ q.target = some 9 ∧ q.seq = some 7 ∧
       ReleaseReason.expired ≠ .late ∧ ReleaseReason.expired ≠ .cancel) ∧
    ((recordOf .orphan (some 9) (some 7)).state ≠ .guided ∧
      (recordOf .orphan (some 9) (some 7)).state ≠ .asked) ∧
    -- a GRANT to a record it does not end: another sequence, another kind of place, another state
    (let q := { recordOf .asked (some 9) (some 7) with askKind := some .trailer }
     (bayWithRecord q).findRecord (grantTo 70 8 (.trailer 4 .right 1)).pallet = some 0 ∧
       q.seq ≠ some (grantTo 70 8 (.trailer 4 .right 1)).seq ∧
       q.askKind ≠ some (placeKind (grantTo 70 7 (.lane 1)).place) ∧ q.state ≠ .guided ∧
       borrowerOf (bayWithRecord q) 7 ≠ some .mlu ∧ (bayWithRecord q).offerResult = .placed) := by
  decide +kernel

/-- Answers that match no record, and a LATE that is refused, with its record there and without. -/
theorem test_witness_AnswersEndAsks_unmatched :
    ((bay .inbound).findRecord (refuseOf .full).pallet = none ∧
      (bay .inbound).findRecord (releaseOf .expired).pallet = none) ∧
    (let q := recordOf .guided (some 9) (some 7)
     (bayWithRecord q).findRecord 70 = some 0 ∧ q.state ≠ .asked ∧ q.target ≠ some 10 ∧
       q.seq ≠ some { releaseOf .expired with seq := 8 }.seq) ∧
    (let q := recordOf .asked (some 9) (some 7)
     q.state = .asked ∧ q.seq ≠ some { refuseOf .full with seq := 8 }.seq ∧ q.target ≠ some 10) ∧
    (∀ s ∈ [bay .inbound, bayWithRecord (recordOf .seeking none none),
        bayWithRecord { recordOf .seeking none none with owedRelease := some owedCancel }],
      s.resetLine = false ∧ borrowerOf s 7 ≠ some .mlu ∧ (noRoom s).offerResult = .noRoom ∧
        (muted s).offerResult = .muted) := by decide +kernel

/-- R79: a LATE refused for want of room is owed on the pallet's record, or in the lowest free slot. -/
theorem test_late_is_owed :
    (let g := grantTo 70 7 (.trailer 4 .right 1)
     let s := after (exec (.dsuGrant 9 g) (noRoom (bayWithRecord (recordOf .seeking none none))))
     let t := after (exec (.dsuGrant 9 g) (noRoom (bay .inbound)))
     ((s.recordAt 0).bind PalletRecord.owedRelease, t.slotAt 0) =
       (some { built := 0, target := 9, body := releaseOf .late },
        .lone { built := 0, target := 9, body := releaseOf .late })) := by decide +kernel

theorem test_witness_PlacingsFreeRecords :
    (let q := recordOf .seeking none none
     (bayWithRecord q).resetLine = false ∧ (bayWithRecord q).findRecord 70 = some 0 ∧
       (bayWithRecord q).slotAt 0 = .record q ∧ q.state ≠ .guided) ∧
    (let q := { recordOf .guided (some 5) none with place := some (.lane 1) }
     (bayWithRecord q).slotAt 0 = .record q ∧ q.state = .guided ∧ q.target = some (bayWithRecord q).own ∧
       q.place.map placeKind = some (placeKind (.lane 2)) ∧ q.target ≠ some 9 ∧ q.seq = none) ∧
    (let q := { recordOf .guided (some 9) (some 7) with place := some (.lane 1) }
     (bayWithRecord q).slotAt 0 = .record q ∧ q.state = .guided ∧ q.target = some 9 ∧ q.seq = some 7 ∧
       q.place.map placeKind ≠ some (placeKind (.trailer 1 .left 1)) ∧
       q.target ≠ some (bayWithRecord q).own ∧ (bayWithRecord q).offerResult = .placed) ∧
    -- a walk-in at the other kind of place in this bay
    (let q := { recordOf .guided (some 5) none with place := some (.lane 1) }
     q.state = .guided ∧ q.seq = none ∧
       q.place.map placeKind ≠ some (placeKind (.trailer 1 .left 1))) ∧
    { sampleClose with aborted := true }.aborted = true ∧ sampleClose.aborted = false := by decide

/-- A placing elsewhere whose CANCEL is refused. -/
theorem test_witness_PlacingsFreeRecords_refused :
    (let q := { recordOf .guided (some 9) (some 7) with place := some (.lane 1) }
     let s := bayWithRecord q
     s.findRecord 70 = some 0 ∧ s.slotAt 0 = .record q ∧ q.target ≠ some 10 ∧ q.target ≠ some s.own ∧
       (noRoom s).offerResult = .noRoom ∧ (noRoom s).offerResult ≠ .placed ∧
       (muted s).offerResult = .muted) := by decide +kernel

/-! ## Witnesses: the load plan unit -/

def reserved (asker : Nat) (seq : Option Nat) (expiry : Nat) : Reservation :=
  { pallet := 70, asker := asker, seq := seq, grant := 700, height := .half, stackable := true
    drop := .near, expiry := expiry }

/-- The plan of section 6.7 after its grant at row 4 RIGHT, to an asker. -/
def grantedPlan (r : Reservation) : Plan :=
  { setStack workedPlan 4 .right [.reserved r] with payload := 6900, moment := 452100 }

theorem test_witness_LoadsAreRoundedUp :
    0 < defaultClass.l ∧ (defaultClass.l ∣ (-138000 + 138000)) ∧ ¬ defaultClass.l ∣ (-138000) ∧
    (outboundBay workedPlan).ready = true ∧ (outboundBay workedPlan).plan.state ≠ .absent := by decide

theorem test_witness_PlaceAsksAreJudged :
    ((bay .closing).dcu.bayState ≠ some .outbound ∧ (outboundBay absentPlan).plan.state ≠ .opened) ∧
    (let s := outboundBay { workedPlan with phase := some .far, far := some 388 }
     s.dcu.bayState = some .outbound ∧ s.plan.state = .opened ∧ s.plan.phase = some .far ∧
       (412 : Nat) = s.plan.near ∧ s.plan.far ≠ none ∧ s.plan.far ≠ some 412 ∧
       (413 : Nat) ≠ s.plan.near ∧ s.plan.far ≠ some 413) ∧
    (let s := outboundBay { workedPlan with far := some 388 }
     s.plan.phase = some .near ∧ s.plan.far = some 388 ∧ (388 : Nat) ≠ s.plan.near) ∧
    (let s := outboundBay (grantedPlan (reserved 9 (some 6) 340))
     s.dcu.bayState = some .outbound ∧ s.plan.state = .opened ∧ s.plan.phase = some .near ∧
       (412 : Nat) = s.plan.near ∧
       findInPlan s.plan 70 =
         some { row := 4, side := .right, beneath := 0, tier := .reserved (reserved 9 (some 6) 340) } ∧
       (reserved 9 (some 6) 340).asker = 9) ∧
    (let s := outboundBay workedPlan
     findInPlan s.plan 11 = some { row := 1, side := .left, beneath := 0, tier := landedOf 11 1000 .full } ∧
       findInPlan s.plan 70 = none ∧ s.dcu.suspended = false ∧ s.plan.overLimit = false ∧
       s.plan.mismatch = false ∧ (1500 : Nat) < 1501 ∧
       searchSpot s.planClass s.plan 700 .half true = .spot 4 .right 1 ∧
       searchSpot s.planClass s.plan 1500 .full true = .spot 4 .right 1 ∧
       searchSpot { s.planClass with gmax := 13899 } s.plan 700 .half true = .nowhere .gross) ∧
    (outboundBay { workedPlan with mismatch := true }).plan.mismatch = true := by decide

/-- Each of the four reasons a search may give. -/
theorem test_witness_SpotsAreTheFirstThatFit :
    searchSpot defaultClass workedPlan 700 .half true = .spot 4 .right 1 ∧
    (let p := setStack (setStack (setStack (setStack workedPlan 4 .left [landedOf 18 400 .full]) 4 .right
        [landedOf 21 400 .full]) 5 .left [.reserved (reserved 9 (some 6) 340)]) 5 .right
        [landedOf 22 400 .full]
     searchSpot defaultClass p 700 .full true = .nowhere .busy ∧
     searchSpot defaultClass (setStack p 5 .left [landedOf 23 400 .full]) 700 .full true =
       .nowhere .full) ∧
    searchSpot { defaultClass with gmax := 13899 } workedPlan 700 .half true = .nowhere .gross ∧
    searchSpot { defaultClass with kmax := 8528 } workedPlan 700 .half true = .nowhere .axle := by decide

/-- R88 and R90 at the bounds of each test: grant weight and interior height just met, the third tier, a reservation
on top and one taken away. -/
theorem test_witness_SpotsAreTheFirstThatFit_tests :
    (let st := [landedOf 18 700 .half]
     isCandidate defaultClass .half true (some 700) st = true ∧
       isCandidate defaultClass .half true (some 701) st = false ∧
       isCandidate defaultClass .half true none st = true ∧
       isCandidate defaultClass .half false (some 700) st = false ∧
       isCandidate { defaultClass with h := 2200 } .half true (some 700) st = true ∧
       isCandidate { defaultClass with h := 2199 } .half true (some 700) st = false) ∧
    (let st := [landedOf 18 700 .mini, landedOf 19 700 .mini]
     isCandidate defaultClass .mini true (some 700) st = true ∧
       isCandidate defaultClass .mini true (some 700) (st ++ [landedOf 20 700 .mini]) = false) ∧
    (let st := [landedOf 18 900 .mini, .reserved (reserved 9 (some 6) 340)]
     isCandidate defaultClass .mini true (some 700) st = false ∧
       reservationBlocked defaultClass .mini true 700 st = true ∧
       reservationBlocked defaultClass .mini true 901 st = false ∧
       reservationBlocked defaultClass .mini true 700 st.dropLast = false) ∧
    defaultClass.p % 2 = 0 ∧ rowDistance defaultClass 1 = -69 ∧ rowDistance defaultClass 13 = 1155 ∧
    openBand 1 = [1, 2] ∧ openBand 12 = [12, 13] ∧ faceOf workedPlan ≠ 0 := by decide

def ownAskOf (pallet : Nat) : OwnAsk :=
  { pallet := pallet, dest := 412, weight := 700, height := .half, stackable := true }

theorem test_witness_GrantsReserveAPlace :
    (let s := outboundBay workedPlan
     s.resetLine = false ∧ PlanFits s.plan ∧ s.offerResult = .placed ∧
       judgeAsk s (placeAskOf 9 sampleAsk) = .grant 4 .right 1 .near ∧
       judgeAsk s (placeAskOf 9 { sampleAsk with dest := 413 }) = .refuse .wrongDest ∧
       judgeAsk s (placeAskOfOwn (ownAskOf 70)) = .grant 4 .right 1 .near ∧
       judgeAsk s (placeAskOfOwn (ownAskOf 11)) = .refuse .duplicate) ∧
    (let s := outboundBay (grantedPlan (reserved 9 (some 6) 340))
     s.resetLine = false ∧ s.offerResult = .placed ∧
       judgeAsk s (placeAskOf 9 sampleAsk) = .regrant 4 .right 1 (reserved 9 (some 6) 340)) ∧
    judgeAsk (outboundBay (grantedPlan (reserved 0 none 340))) (placeAskOfOwn (ownAskOf 70)) =
      .regrant 4 .right 1 (reserved 0 none 340) ∧
    (let s := { outboundBay workedPlan with fbi := { (bay .outbound).fbi with mute := true } }
     s.offerResult ≠ .placed ∧ judgeAsk s (placeAskOf 9 sampleAsk) = .grant 4 .right 1 .near) :=
  ⟨⟨rfl, planFits_of_check _ (by decide), by decide, by decide, by decide, by decide, by decide⟩, by decide,
    by decide, by decide⟩

/-- The margin of the worked grant (section 6.7), as the GRANT carries it. -/
theorem test_worked_grant_margin :
    ((after (exec (.lpuAsk 9 sampleAsk) (outboundBay workedPlan))).fbi.tx.map fun o => match o with
      | .owned { body := .grant g, .. } => some (g.place, g.margin)
      | _ => none) = [some (.trailer 4 .right 1, 20100)] := by decide

theorem test_witness_ReservationsEnd :
    (let s := outboundBay (grantedPlan (reserved 9 (some 6) 100))
     s.resetLine = false ∧ PlanFits s.plan ∧ s.plan.state = .opened ∧
       s.findReservation 70 = some (4, .right, reserved 9 (some 6) 100) ∧ 100 ≤ s.dcu.beat ∧
       (reserved 9 (some 6) 100).asker ≠ 0 ∧ s.offerResult = .placed) ∧
    (let s := outboundBay (grantedPlan (reserved 0 none 101))
     PlanFits s.plan ∧ s.findReservation 70 = some (4, .right, reserved 0 none 101) ∧
       s.dcu.beat < (reserved 0 none 101).expiry ∧ (reserved 0 none 101).asker = 0) ∧
    (let s := { outboundBay (grantedPlan (reserved 9 (some 6) 100)) with fbi := fullQueue.fbi }
     s.offerResult = .noRoom ∧ s.lpu.owed.length < 8) ∧
    (outboundBay workedPlan).findReservation 70 = none ∧
    -- a GRANT of the LPU that leaves unsent: of this ask, and of an earlier one
    ({ sampleGrant with asker := 9, seq := 6 }.pallet = 70 ∧ (reserved 9 (some 6) 100).asker = 9 ∧
      (reserved 9 (some 6) 100).seq = some 6 ∧ (reserved 9 (some 6) 100).seq ≠ some 5) :=
  ⟨⟨rfl, planFits_of_check _ (by decide), by decide, by decide, by decide, by decide, by decide⟩,
    ⟨planFits_of_check _ (by decide), by decide, by decide, by decide⟩, by decide, by decide, by decide⟩

theorem test_witness_ReadsIntoTheTrailerLand :
    (let s := outboundBay (grantedPlan (reserved 9 (some 6) 340))
     s.resetLine = false ∧
       findInPlan s.plan 70 =
         some { row := 4, side := .right, beneath := 0, tier := .reserved (reserved 9 (some 6) 340) } ∧
       s.offerResult = .placed ∧ (restow s.planClass s.plan).stranded = []) ∧
    (let s := outboundBay workedPlan
     findInPlan s.plan 11 = some { row := 1, side := .left, beneath := 0, tier := landedOf 11 1000 .full } ∧
       findInPlan s.plan 70 = none ∧ s.dcu.bayState ≠ some .closing ∧ s.plan.state = .opened ∧
       judgeDest s.plan 412 = .accepted .near ∧ s.plan.overLimit = false ∧ s.plan.mismatch = false ∧
       (readOf 70 412 (.ok 700)).scale = .ok 700 ∧
       searchSpot s.planClass s.plan 700 .half true = .spot 4 .right 1 ∧
       (readOf 70 412 .zero).scale = .zero ∧ classMaxWeight .half = 600 ∧
       searchSpot s.planClass s.plan 600 .half true = .spot 4 .right 1) ∧
    (readOf 70 412 .overload).scale = .overload ∧
    (bay .closing).dcu.bayState = some .closing := by decide

/-- Section 6.7, a heavy landing: 760 kg on a grant of 700 under a Kmax of 8,621 sets OVER. -/
theorem test_worked_landing :
    (let p := grantedPlan (reserved 9 (some 6) 340)
     let c := { tester with classes := Vector.replicate 4 { defaultClass with kmax := 8621 } }
     let s := { outboundBay p with scu := { (bay .outbound).scu with config := c } }
     let t := after (exec (.lpuDoorReadInto (readOf 70 412 (.ok 760))) s)
     t.plan.payload = 6960 ∧ t.plan.moment = 466320 ∧ t.plan.overLimit = true ∧ t.planMargin = 20040 ∧
       .noticeRaise .overLimit ∈ t.handed) := by decide +kernel

theorem test_witness_ReadsOutOfTheTrailerRemove :
    (let s := outboundBay workedPlan
     s.resetLine = false ∧ s.plan.state = .opened ∧
       findInPlan s.plan 18 = some { row := 4, side := .left, beneath := 0, tier := landedOf 18 400 .half } ∧
       4 ∈ openBand s.plan.face ∧ 0 + 1 = (stackAt s.plan 4 .left).length ∧
       findInPlan s.plan 11 = some { row := 1, side := .left, beneath := 0, tier := landedOf 11 1000 .full } ∧
       1 ∉ openBand s.plan.face ∧ findInPlan s.plan 70 = none ∧ s.plan.mismatch = false ∧ s.ready = true) ∧
    (let s := outboundBay (setStack workedPlan 4 .left
        [landedOf 18 400 .half, .reserved { reserved 9 (some 6) 340 with grant := 400 }])
     findInPlan s.plan 18 = some { row := 4, side := .left, beneath := 0, tier := landedOf 18 400 .half } ∧
       0 + 2 = (stackAt s.plan 4 .left).length ∧
       topReservation (stackAt s.plan 4 .left) = some { reserved 9 (some 6) 340 with grant := 400 } ∧
       s.offerResult = .placed) ∧
    (let s := outboundBay { workedPlan with mismatch := true }
     s.ready = true ∧ s.plan.state = .opened ∧ s.plan.mismatch = true) := by decide

theorem test_witness_PlansBeginAndEnd :
    (let s := outboundBay workedPlan
     s.resetLine = false ∧ s.plan.state = .opened ∧ PlanFits s.plan ∧ allReservations s.plan = [] ∧
       s.offerResult = .placed ∧ s.lpu.binding = some trunk) ∧
    (let s := outboundBay (grantedPlan (reserved 9 (some 6) 340))
     s.plan.state = .opened ∧ PlanFits s.plan ∧ allReservations s.plan ≠ []) ∧
    (bay .empty).plan.state ≠ .opened ∧ (bay .empty).resetLine = false :=
  ⟨⟨rfl, by decide, planFits_of_check _ (by decide), by decide, by decide, by decide⟩,
    ⟨by decide, planFits_of_check _ (by decide), by decide⟩, by decide, rfl⟩

/-- Section 10.5: the figures of the closing record, from its payload and moment. -/
theorem test_worked_close :
    loadsOf defaultClass 6610 464970 = { gross := 13610, kingpin := 8314, bogie := 5297 } ∧
    lightNose defaultClass (loadsOf defaultClass 6610 464970) = false ∧
    lightNose defaultClass (loadsOf defaultClass 0 0) = true := by decide

/-! ## Witnesses: the marshalling lane unit -/

def laneAskOf (dest : Nat) : AskBody := { sampleAsk with target := 5, kind := .lane, dest := dest }

def selfPutOf70 : SelfPut :=
  { pallet := 70, dest := 412, weight := 700, estimated := false, height := .half, stackable := true }

def selfPut70 : Put := { putOf 70 with asker := 5, seq := none, expiry := 100 }

theorem test_witness_LaneAsksAndPutsAreKept :
    ((∀ l ∈ { bay .inbound with mlu := { resetMlu with lanes := [suspectLane 1] } }.mlu.lanes,
        l.assignment = .suspect) ∧ (laneAskOf 0).dest = 0 ∧ 999 < (laneAskOf 1000).dest) ∧
    (let s := bay .inbound
     s.resetLine = false ∧ (∃ l ∈ s.mlu.lanes, l.assignment ≠ .suspect) ∧ 1 ≤ (laneAskOf 412).dest ∧
       (laneAskOf 412).dest ≤ 999 ∧ 1 ≤ (laneAskOf 412).weight ∧ (laneAskOf 412).weight ≤ 1500 ∧
       judgeLaneAsk s 9 (laneAskOf 0) = .refuse .noLane ∧ judgeLaneAsk s 9 (laneAskOf 412) = .grant 1 ∧
       s.lane? 1 = some (freeLane 1) ∧ s.offerResult = .placed ∧ fullQueue.offerResult ≠ .placed ∧
       (s.mlu.lanes.map Lane.number).Nodup ∧ s.inLanes 70 = false ∧ s.firstLane freeForPut = some 1 ∧
       s.firstLane (takesPut 412) = none ∧
       s.findPut (fun z => decide (z.pallet = 70) && decide (z.asker = s.own)) = none) ∧
    (let s := bayWithLane .inbound { laneOfItems [31] with puts := [putOf 70] }
     judgeLaneAsk s 9 (laneAskOf 412) = .regrant 1 (putOf 70) ∧ s.inLanes 70 = true ∧
       s.findPut (fun z => decide (z.pallet = 70) && decide (z.asker = 9)) = some (1, putOf 70)) ∧
    (let s := bayWithLane .inbound { laneOfItems [31] with puts := [selfPut70] }
     s.findPut (fun z => decide (z.pallet = 70) && decide (z.asker = s.own)) = some (1, selfPut70) ∧
       s.findPut (fun z => decide (z.pallet = 70) && decide (z.expiry ≤ s.dcu.beat)) = some (1, selfPut70) ∧
       selfPut70.seq = none) ∧
    (let y := { putOf 70 with expiry := 100 }
     let s := bayWithLane .inbound { laneOfItems [31] with puts := [y] }
     s.findPut (fun z => decide (z.pallet = 70) && decide (z.expiry ≤ s.dcu.beat)) = some (1, y) ∧
       y.seq = some 7) := by decide

theorem test_witness_lanesFit :
    LanesFit (bay .inbound).mlu.lanes ∧
    LanesFit (bayWithLane .inbound { laneOfItems [31] with puts := [putOf 70] }).mlu.lanes ∧
    LanesFit (bayWithLane .inbound { laneOfItems [31, 32, 33, 34, 35, 36, 37] with
      puts := [putOf 38] }).mlu.lanes ∧
    LanesFit (bayDraining (newDrain 31)).mlu.lanes := by
  simp only [LanesFit, LaneFits]
  decide

def lanePutOf (lane pallet dest : Nat) : LanePut :=
  { lane := lane, pallet := pallet, dest := dest, height := .half, stackable := true }

/-- A lane with its 8 places taken, one of them by a put. -/
def fullLane : Lane := { laneOfItems [31, 32, 33, 34, 35, 36, 37] with puts := [putOf 38] }

theorem test_witness_LaneReadsAndExitsMoveItems :
    ((bay .inbound).lane? 3 = none ∧
      (∀ l ∈ (bayWithLane .inbound (suspectLane 1)).lane? 1, l.assignment = .suspect) ∧
      (∃ m ∈ (bayWithLane .inbound (laneOfItems [31])).mlu.lanes, ∃ i ∈ m.items, i.pallet = 31)) ∧
    (let l := { laneOfItems [31] with puts := [putOf 70] }
     let s := bayWithLane .inbound l
     s.resetLine = false ∧ s.lane? 1 = some l ∧ l.assignment ≠ .suspect ∧ l.items.length < 8 ∧
       (∀ m ∈ s.mlu.lanes, ∀ i ∈ m.items, i.pallet ≠ 70) ∧
       s.findPut (fun z => decide (z.pallet = 70)) = some (1, putOf 70) ∧
       -- the same pallet read at the other lane, which is FREE
       s.lane? 2 = some (freeLane 2) ∧ (freeLane 2).assignment ≠ .suspect ∧
       (freeLane 2).items.length < 8 ∧ (1 : Nat) ≠ 2) ∧
    -- a put at lane 2 read at a full lane 1, whose own put is stranded: of a peer, and of this bay
    (∀ x ∈ [putOf 38, { selfPut70 with pallet := 38 }],
      let l := { fullLane with puts := [x] }
      let o := { laneOfItems [] with number := 2, puts := [putOf 70] }
      let s := { bay .inbound with mlu := { resetMlu with lanes := [l, o] } }
      s.lane? 1 = some l ∧ s.lane? 2 = some o ∧ l.items.length < 8 ∧ strandedPut l = some x ∧
        s.findPut (fun z => decide (z.pallet = 70)) = some (2, putOf 70) ∧
        (strandFrames s.serial l).length = if x.seq = none then 0 else 1) ∧
    (let s := bayWithLane .inbound fullLane
     s.lane? 1 = some fullLane ∧ fullLane.items.length < 8 ∧ laneFill fullLane = 8 ∧
       (∀ m ∈ s.mlu.lanes, ∀ i ∈ m.items, i.pallet ≠ 70) ∧
       s.findPut (fun z => decide (z.pallet = 70)) = none) ∧
    (∀ l ∈ (bay .inbound).lane? 1, l.items = []) ∧
    (let l := { laneOfItems [31] with drain := some (drainOf 31 .granted (some 9) (some 7)) }
     (bayWithLane .inbound l).lane? 1 = some l ∧ l.items = [itemOf 31]) ∧
    ((bayWithLane .inbound (laneOfItems [31])).lane? 1 = some (laneOfItems [31]) ∧
      (laneOfItems [31]).puts = [] ∧ (laneOfItems [31]).drain = none ∧
      (laneOfItems [31]).assignment = .assigned) ∧
    ((bay .inbound).ready = true ∧ (bay .inbound).lane? 1 = some (freeLane 1) ∧
      (freeLane 1).assignment ≠ .suspect ∧
      (bayWithLane .inbound (suspectLane 1)).lane? 1 = some (suspectLane 1)) := by decide

theorem test_witness_DrainsSearchForTrailers :
    ((bayDraining (newDrain 31)).resetLine = false ∧
      (∀ l ∈ (bayDraining (newDrain 31)).mlu.lanes, 1 ≤ l.number ∧ l.number ≤ 4)) ∧
    (let d := searching 4
     let s := bayDraining d
     s.resetLine = false ∧ s.drainSearch? 1 4 = some (freshSearch 4) ∧ s.drainSearch? 1 5 = none ∧
       s.lane? 1 = some { laneOfItems [31, 32] with drain := some d } ∧
       (laneOfItems [31, 32]).items = [itemOf 31, itemOf 32] ∧ d.state = .seeking ∧
       (freshSearch 4).found = none ∧
       trailerFits d.excluded 300 .quarter { candidate 9 83 300 with
         openings := { noLanes with quarter := 1 } } = true) ∧
    (let d := drainOf 31 .asked (some 9) none
     let s := bayDraining d
     s.lane? 1 = some { laneOfItems [31, 32] with drain := some d } ∧ d.state = .asked ∧ d.pallet = 31 ∧
       d.target = some 9 ∧ d.seq = none ∧ s.offerResult = .placed ∧
       { s with fbi := fullQueue.fbi }.offerResult = .noRoom ∧
       s.drainAt 1 = some d ∧ d.target ≠ some 10 ∧ s.drainAt 2 = none ∧
       (bayDraining { d with seq := some 60 }).drainAt 1 = some { d with seq := some 60 }) ∧
    (let d := { newDrain 31 with retryAt := some 100 }
     let s := bayDraining d
     d.state = .seeking ∧ d.retryAt = some 100 ∧ 100 ≤ s.dcu.beat) ∧
    (let q := { freshSearch 4 with found := some [candidate 9 83 300] }
     (bayDraining { newDrain 31 with search := some q }).drainSearch? 1 4 = some q) ∧
    ((bay .inbound).dcu.bayState ≠ some .outbound ∧
      (outboundBay workedPlan).dcu.bayState = some .outbound ∧
      (outboundBay workedPlan).plan.state = .opened ∧
      (outboundBay workedPlan).lpu.binding = some trunk) ∧
    ((100 : Nat) < 101 ∧ (101 : Nat) ≤ 100 + 36000 ∧ (100 : Nat) + 36000 < 36101) := by decide

/-- Log 46: of two values that return to one drain, the ASK is built with the first. -/
theorem test_second_value_is_not_used :
    (let first := after (exec (.askSequenceReturn 1 31 9 60) (bayDraining (drainOf 31 .asked (some 9) none)))
     let second := after (exec (.askSequenceReturn 1 31 9 61) first)
     (first.fbi.tx.length, (first.drainAt 1).map Drain.seq) = (1, some (some 60)) ∧
       (second.fbi.tx.length, (second.drainAt 1).map Drain.seq) = (1, some (some 60))) := by decide +kernel

/-- A put's expiry refused, with room on the owed list and without, and a drain's ASK, its LATE and its CANCEL. -/
theorem test_witness_LaneAsksAndPutsAreKept_refused :
    (let y := { putOf 70 with expiry := 100 }
     let s := bayWithLane .inbound { laneOfItems [31] with puts := [y] }
     s.findPut (fun z => decide (z.pallet = 70) && decide (z.expiry ≤ s.dcu.beat)) = some (1, y) ∧
       y.seq = some 7 ∧ (noRoom s).offerResult = .noRoom ∧ (noRoom s).mlu.owed.length < 8 ∧
       (muted s).offerResult = .muted ∧
       s.findPut (fun z => decide (z.pallet = 71) && decide (z.asker = 9)) = none ∧
       s.findPut (fun z => decide (z.pallet = 71) && decide (z.expiry ≤ s.dcu.beat)) = none) ∧
    (releaseOf .late).reason = .late ∧ (releaseOf .cancel).reason = .cancel := by decide +kernel

/-- R134, R135: the lowest-numbered of two lanes that may take a put, and the bounds of each test. -/
theorem test_witness_LaneAsksAndPutsAreKept_lanes :
    LanesInOrder (bay .inbound).mlu.lanes ∧
    (let l := laneOfItems [31, 32, 33, 34, 35, 36, 37]
     takesPut 412 l = true ∧ takesPut 413 l = false ∧ takesPut 412 { l with puts := [putOf 38] } = false ∧
       takesPut 412 { l with high := true } = false ∧ takesPut 412 { l with noPut := true } = false ∧
       takesPut 412 (freeLane 1) = false ∧ freeForPut (freeLane 1) = true ∧ freeForPut l = false ∧
       freeForPut { freeLane 1 with noPut := true } = false) ∧
    (bay .inbound).firstLane freeForPut = some 1 := by
  simp only [LanesInOrder]
  decide

/-- R133: a put taken out at a fill of 6 leaves high as it was, at a fill of 5 (the low mark) clears it, and the last
of an empty lane makes it FREE; an exit and the clearing of a drain are judged alike. -/
theorem test_judged_at_the_low_mark :
    (let give := fun (l : Lane) (p : Nat) =>
      (after (exec (.mluRelease 9 { releaseOf .cancel with pallet := p, asker := 9 }) (bayWithLane .inbound l))).lane? 1
     let l := { laneOfItems [31, 32, 33, 34, 35] with puts := [putOf 70, putOf 71], high := true }
     (give l 70).map Lane.high = some true ∧
       (give { l with puts := [putOf 70] } 70).map Lane.high = some false ∧
       give { laneOfItems [] with puts := [putOf 70], blocked := true } 70 = some (freeLane 1)) ∧
    (((after (exec (.mluExitEvent 1) (bayWithLane .inbound
      { laneOfItems [31, 32, 33, 34, 35, 36] with high := true }))).lane? 1).map Lane.high) = some false ∧
    (after (exec (.drainGuardDeadlineExpiry 1) (bayWithLane .inbound { laneOfItems [] with
      drain := some { drainOf 31 .inTransit (some 9) (some 7) with deadline := some 100 } }))).lane? 1 =
        some (freeLane 1) := by decide +kernel

/-- The three ways a judgement can go: emptied, between the marks, and raised by an amended mark. -/
theorem test_witness_LaneJudged :
    LaneEmptied (laneOfItems []) ∧ ¬ LaneEmptied (freeLane 1) ∧ ¬ LaneEmptied (laneOfItems [31]) ∧
    (let l := laneOfItems [31, 32, 33, 34, 35, 36]
     judgedHigh defaultConfig { l with high := true } = true ∧ judgedHigh defaultConfig l = false ∧
       judgedHigh defaultConfig { l with items := l.items.take 5, high := true } = false ∧
       l.high = false ∧ { defaultConfig with highMark := 6 }.highMark ≤ laneFill l ∧
       judgedHigh { defaultConfig with highMark := 6 } l = true) ∧
    defaultConfig.lowMark < defaultConfig.highMark ∧
    { defaultConfig with highMark := 5 }.highMark ≤ { defaultConfig with highMark := 5 }.lowMark := by
  simp only [LaneEmptied]
  decide

theorem test_witness_DrainsSearchForTrailers_muted :
    (let d := drainOf 31 .asked (some 9) none
     let s := muted (bayDraining d)
     s.resetLine = false ∧ s.lane? 1 = some { laneOfItems [31, 32] with drain := some d } ∧
       d.state = .asked ∧ d.seq = none ∧ s.offerResult = .muted) ∧
    (let s := outboundBay workedPlan
     let t := { s with lpu := { s.lpu with binding := none } }
     t.dcu.bayState = some .outbound ∧ t.plan.state = .opened ∧ t.lpu.binding = none) := by decide +kernel

/-- A GRANT of the MLU that leaves unsent: of this ask, and of an earlier one. -/
theorem test_witness_LaneAsksAndPutsAreKept_told :
    (let s := bayWithLane .inbound { laneOfItems [31] with puts := [putOf 70] }
     s.findPut (fun z => decide (z.pallet = 70) && decide (z.asker = 9) && decide (z.seq = some 7)) =
         some (1, putOf 70) ∧
       s.findPut (fun z => decide (z.pallet = 70) && decide (z.asker = 9) && decide (z.seq = some 6)) = none) := by
  decide

def owedLpu : OwnedFrame :=
  { owner := .lpu, built := 3, target := 9, body := .release
      { pallet := 70, asker := 9, seq := 6, reason := .expired } }

/-- A bay that sends the first of twelve frames, with a turn, and owes what is given. -/
def owingBay (turn : Owner) (lpu : List OwnedFrame) (lane : Lane) : State :=
  let s := bayWithLane .outbound lane
  { s with
    fbi := { s.fbi with transmitter := .sending, inHand := true, tx := List.replicate 12 ownedAsk, turn := turn }
    lpu := { s.lpu with owed := lpu } }

/-- A space event with an owed ADVERT, and with frames owed: the owner whose turn it is, the oldest of two, and
an owner behind one that owes nothing. -/
theorem test_witness_FramesLeaveTheQueue_space :
    (let s := bayWithFbi .outbound fun f => { f with transmitter := .sending, tx := [ownedAsk], inHand := true,
                                                     owedAdvert := true, debt := 4 }
     s.working = true ∧ s.fbi.mute = false ∧ s.fbi.restartMark = false ∧ s.fbi.tx = [ownedAsk] ∧
       s.fbi.owedAdvert = true ∧ s.fbi.debt = 4 ∧ ownedAsk ≠ .advert) ∧
    (let g := { owedLpu with built := 4 }
     let s := owingBay .lpu [g, owedLpu] (freeLane 1)
     s.resetLine = false ∧ s.working = true ∧ s.fbi.mute = false ∧ s.fbi.restartMark = false ∧
       s.fbi.transmitter = .sending ∧ s.fbi.tx = ownedAsk :: List.replicate 11 ownedAsk ∧
       s.fbi.owedAdvert = false ∧ owedFrames s .lpu = [g, owedLpu] ∧ [g, owedLpu].Nodup ∧
       (∀ x ∈ [g, owedLpu], x ≠ owedLpu → owedLpu.built < x.built) ∧
       (turnOrder s.fbi.turn).takeWhile (fun w => decide (w ≠ .lpu)) = []) ∧
    (let d := { drainOf 31 .asked (some 9) (some 7) with
       owedAsk := some { built := 3, item := { sampleAsk with pallet := 31 } } }
     let s := owingBay .lpu [] { laneOfItems [31] with drain := some d }
     owedFrames s .mlu = [{ owner := .mlu, built := 3, target := 9, body := .ask { sampleAsk with pallet := 31 } }] ∧
       (∀ w ∈ (turnOrder s.fbi.turn).takeWhile (fun w => decide (w ≠ .mlu)), owedFrames s w = [])) ∧
    -- what a block owes when it is told: room for one more, and none
    (let s := owingBay .lpu (List.replicate 8 owedLpu) (freeLane 1)
     8 ≤ s.lpu.owed.length ∧ s.mlu.owed.length < 8 ∧ s.lpu.owedClose = none) ∧
    owedLpu.owner = .lpu ∧ { owedLpu with owner := .mlu }.owner = .mlu := by decide +kernel

/-- Records, a reservation, a put and drains with a deadline at the next beat. -/
theorem test_witness_BeatAdvancesTheCounter_deadlines :
    (∀ q ∈ [{ recordOf .asked (some 9) (some 7) with answerBy := some 101 },
        { recordOf .guided (some 9) (some 7) with guardBy := some 101 },
        { recordOf .seeking none none with retryAt := some 101 }],
      (bayWithRecord q).slotAt 0 = .record q ∧ (bayWithRecord q).dcu.beat + 1 = 101) ∧
    (let r := reserved 9 (some 6) 101
     let s := outboundBay (grantedPlan r)
     .reserved r ∈ stackAt s.plan 4 .right ∧ r.expiry = s.dcu.beat + 1) ∧
    (let l := { laneOfItems [31] with puts := [{ putOf 70 with expiry := 101 }] }
     l ∈ (bayWithLane .inbound l).mlu.lanes ∧ l.puts.map Put.expiry = [101]) ∧
    (∀ d ∈ [{ newDrain 31 with retryAt := some 101 },
        { drainOf 31 .asked (some 9) (some 7) with deadline := some 101 },
        { drainOf 31 .granted (some 9) (some 7) with deadline := some 101 },
        { drainOf 31 .inTransit (some 9) (some 7) with deadline := some 101 }],
      { laneOfItems [31, 32] with drain := some d } ∈ (bayDraining d).mlu.lanes) := by decide +kernel

theorem onlyAsked_of_check (s : State) (l : Lane) (p : Nat)
    (h : ∀ x ∈ s.mlu.lanes, ∀ e ∈ x.drain, e.pallet = p → e.state = .asked → x = l) : OnlyAsked s l p := h

theorem noOtherDrain_of_check (s : State) (k p : Nat)
    (h : ∀ x ∈ s.mlu.lanes, x.number ≠ k → ∀ e ∈ x.drain, e.pallet ≠ p) : NoOtherDrain s k p := by
  intro j o e hj ho he
  have hn : o.number = j := by simpa using List.find?_some ho
  exact h o (List.mem_of_find?_eq_some ho) (by omega) e he

/-- A lane of the pallets 31 and 32 whose head drains, and the bay that has it. -/
def drainLane (d : Drain) : Lane := { laneOfItems [31, 32] with drain := some d }

theorem test_witness_DrainsEnd :
    (let d := drainOf 31 .asked (some 9) (some 7)
     let s := bayDraining d
     let g := grantTo 31 7 (.trailer 4 .right 1)
     s.resetLine = false ∧ s.lane? 1 = some (drainLane d) ∧ (drainLane d).drain = some d ∧
       d.pallet = g.pallet ∧ d.state = .asked ∧ d.target = some 9 ∧ d.seq = some g.seq ∧
       g.asker = s.own ∧ placeKind g.place = .trailer ∧ d.excluded.length < 4 ∧ 9 ∉ d.excluded ∧
       s.offerResult = .placed ∧ s.fbi.tx.length + 4 ≤ 12) ∧
    OnlyAsked (bayDraining (drainOf 31 .asked (some 9) (some 7)))
      (drainLane (drainOf 31 .asked (some 9) (some 7))) 31 ∧
    OnlyAsked (bayDraining (drainOf 31 .asked (some 5) none)) (drainLane (drainOf 31 .asked (some 5) none)) 31 ∧
    NoOtherDrain (bayDraining (drainOf 31 .asked (some 9) (some 7))) 1 31 ∧
    (bayDraining (drainOf 31 .asked (some 5) none)).own = 5 ∧
    -- no drain awaits the answer
    (let s := { bayDraining (newDrain 31) with dsu := { resetDsu with
        borrowers := resetDsu.borrowers.setIfInBounds 7 (some .mlu) } }
     (∀ x ∈ s.mlu.lanes, ∀ e ∈ x.drain, e.pallet = 31 → e.target = some 9 →
        e.state ≠ .asked ∧ e.state ≠ .granted) ∧
       s.dsu.borrowers[7]?.getD none = some .mlu ∧ s.dsu.borrowers[8]?.getD none ≠ some .mlu ∧
       s.offerResult = .placed) ∧
    -- a drain that was granted before
    (let d := drainOf 31 .granted (some 9) (some 7)
     let s := bayDraining d
     drainLane d ∈ s.mlu.lanes ∧ (drainLane d).drain = some d ∧ d.target = some 9 ∧ d.state = .granted ∧
       ∀ y ∈ s.mlu.lanes, ∀ e ∈ y.drain, e.pallet = 31 → e.state ≠ .asked) ∧
    (let d := { drainOf 31 .asked (some 9) (some 7) with excluded := [1, 2, 3, 4], deadline := some 100 }
     4 ≤ d.excluded.length ∧ d.deadline = some 100 ∧ 100 ≤ (bayDraining d).dcu.beat) ∧
    (let d := { drainOf 31 .inTransit (some 9) (some 7) with deadline := some 100 }
     (bayDraining d).lane? 1 = some (drainLane d) ∧ d.state = .inTransit ∧ d.deadline = some 100 ∧
       d.target = some 9 ∧ d.target ≠ some 10 ∧ d.seq = some 7 ∧ (9 : Nat) ≠ (bayDraining d).own) ∧
    ReleaseReason.undock ≠ .late ∧ ReleaseReason.undock ≠ .cancel :=
  ⟨by decide +kernel, onlyAsked_of_check _ _ _ (by decide), onlyAsked_of_check _ _ _ (by decide),
    noOtherDrain_of_check _ _ _ (by decide), by decide, by decide +kernel, by decide, by decide, by decide,
    by decide, by decide⟩

/-- A LATE and a CANCEL of the MLU refused for want of room, and muted. -/
theorem test_witness_DrainsEnd_refused :
    (let d := drainOf 31 .inTransit (some 9) (some 7)
     let s := bayDraining d
     (noRoom s).lane? 1 = some (drainLane d) ∧ (noRoom s).offerResult = .noRoom ∧
       (muted s).offerResult = .muted ∧ (9 : Nat) ≠ (noRoom s).own ∧ d.target ≠ some 10) ∧
    NoOtherDrain (noRoom (bayDraining (drainOf 31 .inTransit (some 9) (some 7)))) 1 31 :=
  ⟨by decide +kernel, noOtherDrain_of_check _ _ _ (by decide +kernel)⟩

/-- R144: a PLACED ends the record of every lane that has one for its pallet. -/
theorem test_placed_ends_both :
    (let l := { laneOfItems [32] with drain := some (drainOf 31 .inTransit (some 9) (some 7)) }
     let m := { laneOfItems [31] with number := 2, drain := some (drainOf 31 .asked (some 9) (some 8)) }
     let s := { bay .inbound with mlu := { resetMlu with lanes := [l, m] } }
     let t := after (exec (.mluPlaced 9 { placedOf (.trailer 4 .right 1) with pallet := 31 }) s)
     (t.lane? 1).map (fun x => x.drain.map Drain.pallet) = some (some 32) ∧
       (t.lane? 2).map Lane.items = some []) := by decide +kernel

/-! ## Witnesses: the guidance unit -/

def requestOf (pallet : Option Nat) (n : IndicationName) : IndicationRequest :=
  { source := .dsu, indication := indicationOf 5 n, pallet := pallet }

def bayShowing (f : Gdu → Gdu) : State := { bay .inbound with gdu := f resetGdu }

theorem test_witness_IndicationsTakeTheirTurn :
    ((bay .inbound).resetLine = false ∧ (bay .inbound).gdu.dwellRunning = false ∧
      (bay .inbound).gdu.buffer = none) ∧
    (let s := bayShowing fun g => { g with dwellRunning := true, dwell := some 100 }
     s.gdu.dwellRunning = true ∧ s.gdu.fifo.length < 4 ∧ s.gdu.dwell = some 100 ∧ 100 ≤ s.dcu.beat ∧
       s.gdu.buffer = none ∧ s.gdu.fifo = []) ∧
    (let r := requestOf (some 70) .wait
     let s := bayShowing fun g => { g with dwellRunning := true, fifo := [r, r, r, r], dwell := some 100
                                           showBy := some 100, request := some r }
     s.gdu.fifo = r :: [r, r, r] ∧ 4 ≤ s.gdu.fifo.length ∧ s.gdu.fifo.head? = some r ∧
       s.gdu.buffer = none ∧ r.pallet = some 70 ∧ s.gdu.showBy = some 100 ∧ s.gdu.fifo ≠ [] ∧
       s.gdu.request ≠ none) ∧
    (let r := requestOf none .fullTable
     let s := bayShowing fun g => { g with buffer := some r, dwell := some 100 }
     s.gdu.buffer = some r ∧ s.gdu.dwell = some 100 ∧ r.pallet = none) ∧
    (let s := bayShowing fun g => { g with request := some (requestOf none .wait), showBy := some 100 }
     s.gdu.showBy = some 100 ∧ 100 ≤ s.dcu.beat ∧ s.gdu.buffer = none ∧ s.gdu.fifo = [] ∧
       s.gdu.request ≠ none) ∧
    (bay .inbound).gdu.request = none := by decide

/-- Each side of the conditions on a channel's pattern, and the two of the dwell in force. -/
theorem test_witness_IndicationsTakeTheirTurn_tables :
    (indicationOf 5 .closed).colour = some .red ∧ (indicationOf 5 .wait).colour ≠ some .red ∧
    channelPattern true (indicationOf 5 .wait) 2 = .steady ∧
    channelPattern false (indicationOf 5 .closed) 1 = .steady ∧
    channelPattern true (indicationOf 5 .closed) 2 = .fast ∧
    channelPattern false (indicationOf 5 (.drain 4 9)) 7 = .slow ∧
    channelPattern false (indicationOf 5 (.loadAt 4 .right 3)) 12 = .steady ∧
    unconfiguredBay.dcu.bayState = some .unconfigured ∧ (bay .inbound).dcu.bayState ≠ some .unconfigured ∧
    unconfiguredBay.showTime = 15 := by decide

def bayWithChannel (k : Nat) (c : Channel) : State :=
  { bay .inbound with gdu := { resetGdu with channels := resetGdu.channels.setIfInBounds (k - 1) c } }

def lit : Channel :=
  { resetChannel with pattern := .steady, on := true, drive := 255 * 600, level := 255 }

theorem test_witness_LampsAreSensedAndRamped :
    ((bayWithChannel 4 lit).resetLine = false ∧ sensed (channelAt (bayWithChannel 4 lit).gdu 4) = true ∧
      faulted (channelAt (bayWithChannel 4 lit).gdu 4) = false) ∧
    (sensed (channelAt (bayWithChannel 12 { lit with openFault := true }).gdu 12) = true ∧
      faulted (channelAt (bayWithChannel 12 { lit with openFault := true }).gdu 12) = true) ∧
    sensed (channelAt (bay .inbound).gdu 4) = false ∧
    (sensed (channelAt (bayWithChannel 1 lit).gdu 1) = true ∧ LampFinding.tooLow ≠ .normal ∧
      faulted (channelAt (bayWithChannel 1 lit).gdu 1) = false ∧
      (bayWithChannel 1 lit).gdu.current.colour ≠ some .red) ∧
    (let s := { bayWithChannel 1 lit with
        gdu := { (bayWithChannel 1 lit).gdu with current := indicationOf 5 .except } }
     s.gdu.current.colour = some .red ∧ sensed (channelAt s.gdu 1) = true) ∧
    (let s := bayWithChannel 4 { lit with shortFault := true }
     s.ready = true ∧ hasFault (channelAt s.gdu 4) .shortFault = true ∧
       hasFault (channelAt s.gdu 4) .openFault = false) ∧
    ((channelAt (bayWithChannel 5 { lit with pattern := .slow }).gdu 5).pattern = .slow ∧
      (channelAt (bayWithChannel 5 lit).gdu 5).pattern = .steady ∧
      (channelAt (bay .inbound).gdu 5).pattern = .off) ∧
    (let c := { lit with drive := 0, ramp := 600 }
     c.on = true ∧ c.shortFault = false ∧ c.drive = 0 ∧ c.ramp = 600) ∧
    (let c := { lit with on := false, ramp := 100 }
     c.on = false ∧ c.shortFault = false ∧ c.drive = c.level * 600 ∧ c.ramp = 100) ∧
    { lit with level := 0 }.level = 0 ∧
    (sensed (channelAt (bayWithChannel 1 { lit with openFault := true }).gdu 1) = true ∧
      faulted (channelAt (bayWithChannel 1 { lit with openFault := true }).gdu 1) = true) ∧
    -- a half that ends in a group whose level is 0
    (let s := { bayWithChannel 5 { lit with pattern := .slow } with scu := { resetScu with config := { tester with
        groups := Vector.replicate 4 { level := 0, slope := 3 } } } }
     (s.channelIntensity 5).level = 0 ∧ (channelAt s.gdu 5).on = true) := by decide

/-- R155: half of a ramp of 100 ms to level 200 is level 100. -/
theorem test_ramp_half :
    (Nat.iterate rampChannel 50 { lit with drive := 0, level := 200, ramp := 100 }).drive = 100 * 600 := by
  decide +kernel

/-- R155: a level amended to 0 while a lamp of slope class 3 is lit still lets it fall. -/
theorem test_fall_to_level_zero :
    (let s := { bayWithChannel 5 { lit with pattern := .slow, ramp := 600 } with
        scu := { resetScu with config := { tester with groups := Vector.replicate 4 { level := 0, slope := 3 } } } }
     (rampChannel (channelAt (after (exec (.patternHalfEnd 5) s)).gdu 5)).drive) < 255 * 600 := by
  decide +kernel

/-- R155: a group amended from slope class 3 to level 0 and slope class 0 lets its lamp fall at once. -/
theorem test_fall_by_the_new_slope :
    (let s := { bayWithChannel 5 { lit with pattern := .slow, ramp := 600 } with
        scu := { resetScu with config := { tester with groups := Vector.replicate 4 { level := 0, slope := 0 } } } }
     (channelAt (after (exec (.patternHalfEnd 5) s)).gdu 5).drive) = 0 := by decide +kernel

/-- R160, R155: in UNCONFIGURED every channel reads as in group 1 at level 255 and slope class 0. -/
theorem test_unconfigured_groups :
    (gduReport { unconfiguredBay with scu := { resetScu with config := { tester with
        channelGroup := Vector.replicate 12 3 } } }).channelGroup = Vector.replicate 12 1 := by decide

/-- R16: the leveller's return after a grace-expiry undock is taken in EMPTY without effect. -/
theorem test_return_after_grace :
    (let s := bayWithDcu .inbound fun d => { d with trailerPresent := setLine, suspended := true
                                                    leveller := some 100 }
     let t := after (exec .levellerGraceExpiry s)
     let u := after (exec (.doorLineChange .levellerDown true) t)
     (t.dcu.bayState, u.dcu.bayState) = (some .empty, some .empty) ∧ u.handed = t.handed) := by decide

/-- R177: a bay that has docked comes back from a floor reset with its seal set. -/
theorem test_seal_over_floor_reset :
    (let t := after (exec .floorResetTaken { bay .docked with handed := [.sealRequest] })
     (after (exec .sealRequest t)).scu.sealed) = true := by decide

/-- No word spells a command: no row of the table gives bits. -/
theorem test_no_word_decodes : decodeTableWord 32 0 = none ∧
    (bay .empty).withFetchWord 32 0 = bay .empty := ⟨rfl, rfl⟩

/-- R174, R146: SEAL leaves UNCONFIGURED with the two lanes of the record present, SUSPECT; with no lane count, none. -/
theorem test_seal_makes_lanes_present :
    (let s := { unconfiguredBay with scu := { resetScu with config := { tester with laneCount := 2 } } }
     s.ready = true ∧ s.inState .unconfigured = true ∧ s.mlu.lanes = [] ∧
       (after (exec .sealConfig s)).mlu.lanes = [suspectLane 1, suspectLane 2]) ∧
    (let s := { unconfiguredBay with scu := { resetScu with config := { tester with laneCount := 0 } } }
     (after (exec .sealConfig s)).mlu.lanes = []) := by decide

/-- R59: the counter goes from 255 to 0. -/
theorem test_sequence_wraps :
    (let s := { bay .inbound with dsu := { resetDsu with seq := 255 } }
     (s.takeSeq .dsu).dsu.seq = 0 ∧ borrowerOf (s.takeSeq .dsu) 255 = some .dsu ∧
       borrowerOf (s.takeSeq .dsu) 0 = none) := by decide +kernel

/-- Section 5.8, with the row distance 441 cm of row 6 (R102): 120 kg and 820 kg are stranded there by a face at row 7. -/
theorem test_stranded_moment :
    (let p := setStack (setStack (setStack absentPlan 7 .left [landedOf 3 700 .full])
       6 .left [.reserved { reserved 40 (some 201) 340 with grant := 120 }])
       6 .right [.reserved { reserved 17 (some 33) 340 with grant := 820 }]
     strandedMoment defaultClass p = 940 * 441 ∧
       (restow defaultClass { p with payload := 21640, moment := 0 }).plan.payload = 20700 ∧
       (restow defaultClass { p with payload := 21640, moment := 0 }).plan.moment = -414540) := by decide +kernel

/-- A table with a record at the bounds of its list and counts, and one in the trailer stage of a search. -/
theorem test_witness_AskTableKeepsItsForm :
    (let q := { recordOf .guided (some 9) (some 7) with excluded := [9, 17, 23, 40], trailerAsks := 5, totalAsks := 8 }
     let r := { recordOf .seeking none none with
                pallet := 71, trailerAsks := 4, totalAsks := 7
                search := some { step := .trailerStage, token := 3 } }
     let s := ({ bay .inbound with dsu := resetDsu }.setSlot 0 (.record q)).setSlot 1 (.record r)
     AskTableFits s.dsu ∧ step { s with pending := [.beat] } = .next (after (step { s with pending := [.beat] }))) := by
  have base : AskTableFits ({ bay .inbound with dsu := resetDsu } : State).dsu := by
    refine ⟨?_, ?_, by decide⟩
    · intro i j r q h
      simp [resetDsu, Vector.getElem?_replicate] at h
    · intro r h
      simp [resetDsu] at h
  refine ⟨AskTableFits.setSlot _ _ _ (AskTableFits.setSlot _ _ _ base ?_) ?_, rfl⟩
  · rintro q ⟨⟩
    refine ⟨⟨by decide, by decide, by decide, by rintro q ⟨⟩⟩, ?_⟩
    intro j r hj h
    simp [State.slotAt_record, resetDsu, Vector.getElem?_replicate] at h
  · rintro q ⟨⟩
    refine ⟨⟨by decide, by decide, by decide, by rintro q ⟨⟩; decide⟩, ?_⟩
    intro j r hj h
    rw [State.slotAt_setSlot] at h
    split at h
    · cases h
      decide
    · simp [State.slotAt_record, resetDsu, Vector.getElem?_replicate] at h


/-! ## Witnesses: what is dropped, refused or not due -/

/-- No record, no search, no lane, no frame waiting: the events for them find nothing. -/
theorem test_witness_nothing_matches :
    (let s := bay .inbound
     s.resetLine = false ∧ s.findRecord 70 = none ∧ s.drainSearch? 1 4 = none ∧ s.lane? 3 = none ∧
       s.findReservation 70 = none ∧ s.fbi.rx = [] ∧ s.fbi.tx = [] ∧ s.fbi.transmitter ≠ .deferring ∧
       s.fbi.transmitter ≠ .sending ∧ (∀ n, s.fbi.transmitter ≠ .backoff n) ∧
       s.plan.state ≠ .opened ∧ s.drainAt 1 = none) ∧
    (let s := bayWithRecord (seekingAt .trailerStage)
     s.findRecord 70 = some 0 ∧ s.slotAt 0 = .record (seekingAt .trailerStage)) :=
  ⟨⟨by decide, by decide, by decide, by decide, by decide, by decide, by decide, by decide, by decide,
    (fun _ h => nomatch h), by decide, by decide⟩, by decide⟩

/-- R141, R142: a drain ASKED to bay 9 under sequence 7, and the frames of another sequence; one of another asker. -/
theorem test_witness_DrainsEnd_unmatched :
    (let d := drainOf 31 .asked (some 9) (some 7)
     let s := bayDraining d
     s.resetLine = false ∧ drainLane d ∈ s.mlu.lanes ∧ (drainLane d).drain = some d ∧ d.pallet = 31 ∧
       d.target = some 9 ∧ d.state = .asked ∧
       (∀ y ∈ s.mlu.lanes, ∀ e ∈ y.drain, e.pallet = 31 → e.state = .asked → e.target = some 9 →
         e.seq ≠ some 8) ∧
       (∀ y ∈ s.mlu.lanes, ∀ e ∈ y.drain, e.pallet = 31 → e.target ≠ some s.own) ∧
       (6 : Nat) ≠ s.own ∧ d.deadline = none ∧ d.state ≠ .granted) ∧
    -- the deadline set, and one beat ahead
    (let d := { drainOf 31 .asked (some 9) (some 7) with deadline := some 101 }
     (bayDraining d).drainAt 1 = some d ∧ (bayDraining d).dcu.beat < 101) := by decide +kernel

/-- R142: the frames of another sequence leave the drain and send nothing. -/
theorem test_unmatched_frames_leave_the_drain :
    (let s := bayDraining (drainOf 31 .asked (some 9) (some 7))
     (after (exec (.mluGrant 9 (grantTo 31 8 (.trailer 4 .right 1))) s)).fbi = s.fbi ∧
       (after (exec (.mluGrant 9 (grantTo 31 8 (.trailer 4 .right 1))) s)).mlu.lanes = s.mlu.lanes ∧
       (after (exec (.mluRefuse 9 { refuseOf .full with pallet := 31, seq := 8 }) s)).mlu.lanes = s.mlu.lanes ∧
       (after (exec (.mluRelease 9 { releaseOf .expired with pallet := 31, seq := 8 }) s)).mlu.lanes =
         s.mlu.lanes) := by decide +kernel

/-- A reservation of bay 9 due, in a queue without room with 8 frames owed already, and in a muted bay. -/
theorem test_witness_ReservationsEnd_refused :
    (let s := { outboundBay (grantedPlan (reserved 9 (some 6) 100)) with fbi := { fullQueue.fbi with rx := [] } }
     let f : OwnedFrame := { owner := .lpu, built := 0, target := 9, body := .release (releaseOf .expired) }
     let t := { s with lpu := { s.lpu with owed := List.replicate 8 f } }
     planCheck s.plan = true ∧ s.plan.state = .opened ∧ s.dcu.beat = 100 ∧
       s.findReservation 70 = some (4, .right, reserved 9 (some 6) 100) ∧ roomFor s = 0 ∧
       t.lpu.owed.length = 8 ∧ (muted s).fbi.mute = true ∧
       (after (exec (.reservationExpiry 70) s)).lpu.owed.length = 1 ∧
       (after (exec (.reservationExpiry 70) t)).lpu.owed = t.lpu.owed ∧
       (after (exec (.reservationExpiry 70) (muted s))).lpu.owed = [] ∧
       (after (exec (.reservationExpiry 70) (muted s))).fbi = (muted s).fbi) := by decide +kernel

/-- A plan in form with a reservation at row 4 RIGHT, and none of another pallet there. -/
theorem test_witness_plan_members :
    PlanFits (grantedPlan (reserved 9 (some 6) 340)) ∧
    allReservations (grantedPlan (reserved 9 (some 6) 340)) = [(4, .right, reserved 9 (some 6) 340)] ∧
    landedCount workedPlan .near = 8 ∧ landedCount workedPlan .far = 0 :=
  ⟨planFits_of_check _ (by decide), by decide, by decide, by decide⟩

/-- A line at its last-taken value, one of each kind with no effect, and deadlines not due. -/
theorem test_witness_lines_without_effect :
    takesLine (bay .closed) .doorOpen true = false ∧ takesLine (bay .closed) .doorOpen false = true ∧
    takesLine (bay .closed) .closePush true = true ∧
    takesLine (bay .docked) .trailerPresent true = true ∧
    (let s := outboundBay workedPlan
     takesLine s .levellerDown false = true ∧ takesLine s .trailerPresent false = true ∧
       (∀ b, s.dcu.cutOff = some b → s.dcu.beat < b) ∧ s.dcu.join = none ∧ s.dcu.leveller = none) ∧
    (let s := bayWithDcu .listen fun d => { d with trailerPresent := setLine }
     takesLine s .trailerPresent false = true) ∧
    (bay .inbound).dcu.beams[1 - 1]?.map Beam.lastTaken = some false ∧
    State.reset.resetLine = false ∧ State.reset.reading = true := by
  refine ⟨by decide, by decide, by decide, by decide, ⟨by decide, by decide, ?_, by decide, by decide⟩,
    by decide, by decide, by decide, by decide⟩
  rintro b ⟨⟩
  decide

/-- An ADVERT standing with the restart mark set. -/
theorem test_witness_AdvertDebtRises_restart :
    (let s := bayWithFbi .empty fun f => { f with restartMark := true, tx := [.advert], transmitter := .deferring }
     s.resetLine = false ∧ s.working = true ∧ s.fbi.restartMark = true ∧ .advert ∈ s.fbi.tx ∧
       after (exec .advertDebtRise { s with handed := [.advertDebtRise] }) = s) := by decide +kernel

/-- R29, R176: an entry held for bay 9 stays when the bay becomes bay 9 (log 49). -/
theorem test_entry_of_the_new_own_number_stays :
    (let s := bayWithFbi .empty fun f => { f with lastHeard := f.lastHeard.setIfInBounds 8 (some 7) }
     let t := after (exec (.writeField .bayNumber none 9) s)
     t.own = 9 ∧ lastHeardOf t 9 = some 7) := by decide +kernel

end Sys2Proof.Tests
end

section
/-! PROOFS. Frames: what an operation of the model may change, said once for each operation. -/

namespace Sys2Proof.Machine

/-! ## Parts of the state -/

/-- The parts of the state that a frame speaks of: all but the hand-overs and the serial number. -/
inductive Part where
  | pending | resetLine | dcu | fbi | pdr | dsu | lpu | mlu | gdu | scu

/-- A part is the same in two states. -/
def Part.same (s t : State) : Part → Prop
  | .pending => t.pending = s.pending
  | .resetLine => t.resetLine = s.resetLine
  | .dcu => t.dcu = s.dcu
  | .fbi => t.fbi = s.fbi
  | .pdr => t.pdr = s.pdr
  | .dsu => t.dsu = s.dsu
  | .lpu => t.lpu = s.lpu
  | .mlu => t.mlu = s.mlu
  | .gdu => t.gdu = s.gdu
  | .scu => t.scu = s.scu

theorem Part.same.trans {s t u : State} {x : Part} (h : x.same s t) (g : x.same t u) : x.same s u := by
  cases x <;> exact Eq.trans g h

theorem Part.same.symm {s t : State} {x : Part} (h : x.same s t) : x.same t s := by
  cases x <;> exact Eq.symm h

/-- From `s` to `t` only the parts that `p` marks may differ. -/
def Only (p : Part → Bool) (s t : State) : Prop := ∀ x, p x = false → x.same s t

@[simp] theorem Only.refl (p : Part → Bool) (s : State) : Only p s s := fun x _ => by cases x <;> rfl

theorem Only.trans {p : Part → Bool} {s t u : State} (h : Only p s t) (g : Only p t u) : Only p s u :=
  fun x hx => (h x hx).trans (g x hx)

/-- A step that touches only marked parts makes no difference to what has been touched before it. -/
theorem Only.iff_of_step {p : Part → Bool} {s t u : State} (h : Only p t u) : Only p s u ↔ Only p s t :=
  ⟨fun g x hx => (g x hx).trans (h x hx).symm, fun g => g.trans h⟩

/-! ## What each operation may change

The lemmas are equivalences, so that `simp` reads a chain of operations off from the last to the first; an operation
that touches a part asks that `p` mark it. -/

section
variable {p : Part → Bool} {s t : State}

/-! ### One part set, and hand-overs -/

theorem only_withDcu (h : p .dcu = true) (d : Dcu) : Only p s { t with dcu := d } ↔ Only p s t :=
  Only.iff_of_step fun x hx => by cases x <;> first | rfl | simp [h] at hx

theorem only_withFbi (h : p .fbi = true) (d : Fbi) : Only p s { t with fbi := d } ↔ Only p s t :=
  Only.iff_of_step fun x hx => by cases x <;> first | rfl | simp [h] at hx

theorem only_withPdr (h : p .pdr = true) (d : Pdr) : Only p s { t with pdr := d } ↔ Only p s t :=
  Only.iff_of_step fun x hx => by cases x <;> first | rfl | simp [h] at hx

theorem only_withDsu (h : p .dsu = true) (d : Dsu) : Only p s { t with dsu := d } ↔ Only p s t :=
  Only.iff_of_step fun x hx => by cases x <;> first | rfl | simp [h] at hx

theorem only_withLpu (h : p .lpu = true) (d : Lpu) : Only p s { t with lpu := d } ↔ Only p s t :=
  Only.iff_of_step fun x hx => by cases x <;> first | rfl | simp [h] at hx

theorem only_withMlu (h : p .mlu = true) (d : Mlu) : Only p s { t with mlu := d } ↔ Only p s t :=
  Only.iff_of_step fun x hx => by cases x <;> first | rfl | simp [h] at hx

theorem only_withGdu (h : p .gdu = true) (d : Gdu) : Only p s { t with gdu := d } ↔ Only p s t :=
  Only.iff_of_step fun x hx => by cases x <;> first | rfl | simp [h] at hx

theorem only_withScu (h : p .scu = true) (d : Scu) : Only p s { t with scu := d } ↔ Only p s t :=
  Only.iff_of_step fun x hx => by cases x <;> first | rfl | simp [h] at hx

theorem only_withHanded (l : List Instr) : Only p s { t with handed := l } ↔ Only p s t :=
  Only.iff_of_step fun x _ => by cases x <;> rfl

@[simp] theorem only_drop (c : Instr) : Only p s (t.drop c) ↔ Only p s t := only_withHanded _

@[simp] theorem only_hand (c : Instr) : Only p s (t.hand c) ↔ Only p s t := only_withHanded _

@[simp] theorem only_handAll (l : List Instr) : Only p s (t.handAll l) ↔ Only p s t := only_withHanded _

@[simp] theorem only_handNext (c : Instr) : Only p s (t.handNext c) ↔ Only p s t := only_withHanded _

@[simp] theorem only_raiseNotice (k : NoticeKind) : Only p s (t.raiseNotice k) ↔ Only p s t := only_hand _

@[simp] theorem only_raiseIf (b : Bool) (k : NoticeKind) : Only p s (t.raiseIf b k) ↔ Only p s t := by
  obtain ⟨-, h⟩ | ⟨-, h⟩ := t.raiseIf_cases b k <;> simp [h]

@[simp] theorem only_indicate (b : Block) (n : IndicationName) (q : Option Nat) :
    Only p s (t.indicate b n q) ↔ Only p s t := only_hand _

@[simp] theorem only_expireAtOnce (d : Nat) (c : Instr) : Only p s (t.expireAtOnce d c) ↔ Only p s t := by
  obtain ⟨-, h⟩ | ⟨-, h⟩ := t.expireAtOnce_cases d c <;> simp [h]

@[simp] theorem only_bump : Only p s t.bump ↔ Only p s t :=
  Only.iff_of_step fun x _ => by cases x <;> rfl

@[simp] theorem only_setDcu (h : p .dcu = true) (d : Dcu) : Only p s (t.setDcu d) ↔ Only p s t :=
  only_withDcu h d

@[simp] theorem only_setFbi (h : p .fbi = true) (f : Fbi) : Only p s (t.setFbi f) ↔ Only p s t :=
  only_withFbi h f

@[simp] theorem only_setScu (h : p .scu = true) (u : Scu) : Only p s (t.setScu u) ↔ Only p s t :=
  only_withScu h u

@[simp] theorem only_answer (h : p .scu = true) (r : RequestName) (code : AnswerCode) (data : AnswerData) :
    Only p s (t.answer r code data) ↔ Only p s t := only_withScu h _

/-- A fold of steps none of which makes a difference makes none. -/
theorem only_foldl {α : Type} (l : List α) (f : State → α → State)
    (h : ∀ u a, Only p u (f u a)) : Only p s (l.foldl f t) ↔ Only p s t := by
  refine Only.iff_of_step ?_
  induction l generalizing t with
  | nil => exact .refl p t
  | cons a l ih => exact (h t a).trans ih

/-! ### Offers to the transmit queue -/

@[simp] theorem only_placeFrame (h : p .fbi = true) (o : Outgoing) :
    Only p s (t.placeFrame o) ↔ Only p s t := only_withFbi h _

@[simp] theorem only_offerAnswer (h : p .fbi = true) (o : Owner) (n : Nat) (b : Body) :
    Only p s (t.offerAnswer o n b) ↔ Only p s t := by
  obtain ⟨-, e⟩ | ⟨-, e⟩ := t.offerAnswer_cases o n b <;> simp [e, h]

@[simp] theorem only_lpuOwe (h : p .lpu = true) (f : OwnedFrame) : Only p s (t.lpuOwe f) ↔ Only p s t := by
  obtain ⟨-, e⟩ | ⟨-, e⟩ := t.lpuOwe_cases f <;> simp [e, h, only_withLpu]

@[simp] theorem only_lpuOweClose (h : p .lpu = true) (f : OwnedFrame) :
    Only p s (t.lpuOweClose f) ↔ Only p s t := by
  obtain e | ⟨_, -, -, e⟩ := t.lpuOweClose_cases f <;> simp [e, h, only_withLpu]

@[simp] theorem only_lpuOffer (h : p .fbi = true) (h' : p .lpu = true) (n : Nat) (b : Body) :
    Only p s (t.lpuOffer n b) ↔ Only p s t := by
  obtain ⟨-, e⟩ | ⟨-, e⟩ | ⟨-, e⟩ := t.lpuOffer_cases n b <;> simp [e, h, h']

@[simp] theorem only_lpuOfferClose (h : p .fbi = true) (h' : p .lpu = true) (b : CloseBody) :
    Only p s (t.lpuOfferClose b) ↔ Only p s t := by
  obtain ⟨-, e⟩ | ⟨-, e⟩ | ⟨-, e⟩ := t.lpuOfferClose_cases b <;> simp [e, h, h']

@[simp] theorem only_mluOwe (h : p .mlu = true) (f : OwnedFrame) : Only p s (t.mluOwe f) ↔ Only p s t := by
  obtain ⟨-, e⟩ | ⟨-, e⟩ := t.mluOwe_cases f <;> simp [e, h, only_withMlu]

@[simp] theorem only_mluOffer (h : p .fbi = true) (h' : p .mlu = true) (n : Nat) (b : Body) :
    Only p s (t.mluOffer n b) ↔ Only p s t := by
  obtain ⟨-, e⟩ | ⟨-, e⟩ | ⟨-, e⟩ := t.mluOffer_cases n b <;> simp [e, h, h']

/-! ### The DSU -/

@[simp] theorem only_setSlot (h : p .dsu = true) (i : Nat) (v : Slot) :
    Only p s (t.setSlot i v) ↔ Only p s t := only_withDsu h _

@[simp] theorem only_setRecord (h : p .dsu = true) (i : Nat) (r : PalletRecord) :
    Only p s (t.setRecord i r) ↔ Only p s t := only_withDsu h _

@[simp] theorem only_takeSeq (h : p .dsu = true) (b : Borrower) : Only p s (t.takeSeq b) ↔ Only p s t :=
  only_withDsu h _

@[simp] theorem only_dsuOwe (h : p .dsu = true) (o : OwedRelease) : Only p s (t.dsuOwe o) ↔ Only p s t := by
  obtain ⟨_, _, -, -, e⟩ | ⟨_, -, e⟩ | e := t.dsuOwe_cases o <;> simp [e, h]

@[simp] theorem only_dsuOffer (h : p .fbi = true) (h' : p .dsu = true) (n : Nat) (b : ReleaseBody) :
    Only p s (t.dsuOffer n b) ↔ Only p s t := by
  obtain ⟨-, e⟩ | ⟨-, e⟩ | ⟨-, e⟩ := t.dsuOffer_cases n b <;> simp [e, h, h']

/-- What is done to the record of a pallet, where that is within the frame. -/
theorem only_onRecord (pallet : Nat) (f : Nat → PalletRecord → State) (h : ∀ i r, Only p t (f i r)) :
    Only p t (t.onRecord pallet f) := by
  unfold State.onRecord
  split
  · exact .refl p t
  · split
    · exact h _ _
    · exact .refl p t

@[simp] theorem only_showRecord (h : p .dsu = true) (i : Nat) (r : PalletRecord) (n : IndicationName) :
    Only p s (t.showRecord i r n) ↔ Only p s t := by simp [State.showRecord, h]

@[simp] theorem only_showAgain (h : p .dsu = true) (i : Nat) (r : PalletRecord) :
    Only p s (t.showAgain i r) ↔ Only p s t := by
  unfold State.showAgain
  split <;> simp [h]

@[simp] theorem only_freeRecord (h : p .dsu = true) (i : Nat) (r : PalletRecord) :
    Only p s (t.freeRecord i r) ↔ Only p s t := only_setSlot h _ _

@[simp] theorem only_freeWithCancel (h : p .fbi = true) (h' : p .dsu = true) (i : Nat) (r : PalletRecord) :
    Only p s (t.freeWithCancel i r) ↔ Only p s t := by simp [State.freeWithCancel, h, h']

@[simp] theorem only_freeWithSelfCancel (h : p .dsu = true) (i : Nat) (r : PalletRecord) :
    Only p s (t.freeWithSelfCancel i r) ↔ Only p s t := by simp [State.freeWithSelfCancel, h]

@[simp] theorem only_takeBack (h : p .fbi = true) (h' : p .dsu = true) (i : Nat) (r : PalletRecord) :
    Only p s (t.takeBack i r) ↔ Only p s t := by
  unfold State.takeBack
  repeat' split
  all_goals simp [h, h']

@[simp] theorem only_toException (h : p .dsu = true) (i : Nat) (r : PalletRecord) :
    Only p s (t.toException i r) ↔ Only p s t := by simp [State.toException, h]

@[simp] theorem only_searchAt (h : p .dsu = true) (i : Nat) (r : PalletRecord) (st : Option SearchStep) :
    Only p s (t.searchAt i r st) ↔ Only p s t := by
  cases st <;> simp [State.searchAt, h]

@[simp] theorem only_beginSearch (h : p .dsu = true) (i : Nat) (r : PalletRecord) :
    Only p s (t.beginSearch i r) ↔ Only p s t := by
  obtain ⟨-, e⟩ | ⟨_, e⟩ := t.beginSearch_cases i r <;> simp [e, h]

@[simp] theorem only_askUnanswered (h : p .dsu = true) (i : Nat) (r : PalletRecord) :
    Only p s (t.askUnanswered i r) ↔ Only p s t := only_beginSearch h _ _

@[simp] theorem only_makeAsk (h : p .fbi = true) (h' : p .dsu = true) (i : Nat) (r : PalletRecord) (n : Nat)
    (k : PlaceKind) : Only p s (t.makeAsk i r n k) ↔ Only p s t := by
  unfold State.makeAsk
  cases t.offerResult <;> simp [h, h']

@[simp] theorem only_waitAndSearch (h : p .dsu = true) (i : Nat) (r : PalletRecord) :
    Only p s (t.waitAndSearch i r) ↔ Only p s t := by simp [State.waitAndSearch, h]

@[simp] theorem only_newPallet (h : p .dsu = true) (i : Nat) (r : PalletRead) :
    Only p s (t.newPallet i r) ↔ Only p s t := by
  unfold State.newPallet
  dsimp only
  split <;> simp [h]

@[simp] theorem only_reRead (h : p .dsu = true) (i : Nat) (r : PalletRecord) :
    Only p s (t.reRead i r) ↔ Only p s t := by
  unfold State.reRead
  cases r.state <;> simp [h]

@[simp] theorem only_lateGrant (h : p .fbi = true) (h' : p .dsu = true) (n : Nat) (b : GrantBody) :
    Only p s (t.lateGrant n b) ↔ Only p s t := by
  unfold State.lateGrant
  dsimp only
  repeat' split
  all_goals simp [h, h']

@[simp] theorem only_askRefused (h : p .dsu = true) (i : Nat) (r : PalletRecord) (n : Nat) (x : RefuseReason) :
    Only p s (t.askRefused i r n x) ↔ Only p s t := by
  unfold State.askRefused
  repeat' split
  all_goals simp [h]

@[simp] theorem only_orphanRecord (h : p .dsu = true) (i : Nat) (r : PalletRecord) :
    Only p s (t.orphanRecord i r) ↔ Only p s t := by simp [State.orphanRecord, h]

@[simp] theorem only_recordPlaced (h : p .fbi = true) (h' : p .dsu = true) (i : Nat) (r : PalletRecord) (n : Nat)
    (x : Place) : Only p s (t.recordPlaced i r n x) ↔ Only p s t := by
  unfold State.recordPlaced
  repeat' split
  all_goals simp [h, h']

@[simp] theorem only_orphanWhere (h : p .dsu = true) (q : PalletRecord → Bool) :
    Only p s (t.orphanWhere q) ↔ Only p s t :=
  only_foldl _ _ fun u i => by
    repeat' split
    all_goals simp [h]

@[simp] theorem only_returnSelfPut (n : Nat) (g : Option SelfPutGiven) :
    Only p s (t.returnSelfPut n g) ↔ Only p s t := by
  cases g <;> simp [State.returnSelfPut]

/-! ### The LPU -/

@[simp] theorem only_setPlan (h : p .lpu = true) (q : Plan) : Only p s (t.setPlan q) ↔ Only p s t :=
  only_withLpu h _

@[simp] theorem only_storePlan (h : p .lpu = true) (q : Plan) : Only p s (t.storePlan q) ↔ Only p s t := by
  simp [State.storePlan, h]

@[simp] theorem only_giveUp (h : p .fbi = true) (h' : p .lpu = true) (x : ReleaseReason) (r : Reservation) :
    Only p s (t.giveUp x r) ↔ Only p s t := by
  unfold State.giveUp
  split <;> simp [h, h']

@[simp] theorem only_giveUpAll (h : p .fbi = true) (h' : p .lpu = true) (x : ReleaseReason)
    (l : List Reservation) : Only p s (t.giveUpAll x l) ↔ Only p s t :=
  only_foldl _ _ fun u r => by simp [h, h']

@[simp] theorem only_reportIfEmpty : Only p s t.reportIfEmpty ↔ Only p s t := by
  unfold State.reportIfEmpty
  split <;> simp

/-- A change of contents is within the frame where its answer is. -/
theorem only_changePlan (h : p .fbi = true) (h' : p .lpu = true) (q : Plan) (f : State → State)
    (hf : ∀ u, Only p u (f u)) (l : List Reservation) :
    Only p s (t.changePlan q f l) ↔ Only p s t := by
  simp [State.changePlan, h, h', Only.iff_of_step (hf _)]

theorem only_removeReservation (h : p .fbi = true) (h' : p .lpu = true) (n : Nat) (sd : Side)
    (f : State → State) (hf : ∀ u, Only p u (f u)) :
    Only p s (t.removeReservation n sd f) ↔ Only p s t := only_changePlan h h' _ f hf _

@[simp] theorem only_announcePlaced (h : p .fbi = true) (h' : p .lpu = true) (a b c : Nat) (sd : Side) (d : Nat) :
    Only p s (t.announcePlaced a b c sd d) ↔ Only p s t := by simp [State.announcePlaced, h, h']

@[simp] theorem only_land (h : p .fbi = true) (h' : p .lpu = true) (r : PalletRead) (n : Nat) (sd : Side)
    (m : Nat) (x : Reservation) : Only p s (t.land r n sd m x) ↔ Only p s t := by
  simp [State.land, only_changePlan, h, h']

@[simp] theorem only_refuseWalkin : Only p s t.refuseWalkin ↔ Only p s t := by simp [State.refuseWalkin]

@[simp] theorem only_landWalkin (h : p .fbi = true) (h' : p .lpu = true) (r : PalletRead) (n : Nat) (sd : Side)
    (m : Nat) (x : Phase) : Only p s (t.landWalkin r n sd m x) ↔ Only p s t := by
  simp [State.landWalkin, only_changePlan, h, h']

@[simp] theorem only_walkin (h : p .fbi = true) (h' : p .lpu = true) (r : PalletRead) :
    Only p s (t.walkin r) ↔ Only p s t := by
  unfold State.walkin State.judgeWalkin
  repeat' split
  all_goals simp [h, h']

@[simp] theorem only_mismatchRead (h : p .lpu = true) : Only p s t.mismatchRead ↔ Only p s t := by
  simp [State.mismatchRead, h]

@[simp] theorem only_removeLanded (h : p .fbi = true) (h' : p .lpu = true) (x : Standing) (l : Landed) :
    Only p s (t.removeLanded x l) ↔ Only p s t := by
  unfold State.removeLanded
  dsimp only
  repeat' split
  all_goals simp [only_changePlan, h, h']

@[simp] theorem only_formClosing (h : p .fbi = true) (h' : p .lpu = true) (b : Bool) :
    Only p s (t.formClosing b) ↔ Only p s t := by simp [State.formClosing, h, h', only_withLpu]

@[simp] theorem only_releaseEvery (h : p .fbi = true) (h' : p .lpu = true) (x : ReleaseReason) :
    Only p s (t.releaseEvery x) ↔ Only p s t :=
  only_foldl _ _ fun u r => by simp [only_removeReservation, h, h']

@[simp] theorem only_lpuGrantFailed (h : p .fbi = true) (h' : p .lpu = true) (b : GrantBody) :
    Only p s (t.lpuGrantFailed b) ↔ Only p s t := by
  unfold State.lpuGrantFailed
  repeat' split
  all_goals simp [only_removeReservation, h, h']

/-! ### The MLU -/

/-- What the laws say of lanes is a frame of the MLU alone. -/
theorem OnlyLanes.only (h : p .mlu = true) (e : OnlyLanes t s) : Only p t s := by
  intro x hx
  cases x
  case mlu => simp [h] at hx
  case pending => exact e.pending
  case resetLine => exact e.resetLine
  case dcu => exact e.dcu
  case fbi => exact e.fbi
  case pdr => exact e.pdr
  case dsu => exact e.dsu
  case lpu => exact e.lpu
  case gdu => exact e.gdu
  case scu => exact e.scu

@[simp] theorem only_updateLane (h : p .mlu = true) (k : Nat) (f : Lane → Lane) :
    Only p s (t.updateLane k f) ↔ Only p s t := only_withMlu h _

@[simp] theorem only_updateDrain (h : p .mlu = true) (k : Nat) (f : Drain → Drain) :
    Only p s (t.updateDrain k f) ↔ Only p s t := only_withMlu h _

@[simp] theorem only_setLaneCount (h : p .mlu = true) (n : Nat) : Only p s (t.setLaneCount n) ↔ Only p s t :=
  only_withMlu h _

@[simp] theorem only_joinDrain (h : p .mlu = true) (k n : Nat) (f : DrainSearch → DrainSearch) :
    Only p s (t.joinDrain k n f) ↔ Only p s t := by
  unfold State.joinDrain
  split
  · rfl
  · dsimp only
    split <;> simp [h]

@[simp] theorem only_judgeLane (h : p .mlu = true) (k : Nat) : Only p s (t.judgeLane k) ↔ Only p s t :=
  Only.iff_of_step ((t.judgeLane_only k).only h)

@[simp] theorem only_beginDrainSearch (h : p .mlu = true) (k : Nat) :
    Only p s (t.beginDrainSearch k) ↔ Only p s t :=
  Only.iff_of_step ((t.beginDrainSearch_only k).only h)

@[simp] theorem only_mluEnd (h : p .mlu = true) : Only p s t.mluEnd ↔ Only p s t :=
  Only.iff_of_step (t.mluEnd_only.only h)

@[simp] theorem only_drainSearchAgain (h : p .mlu = true) (k : Nat) :
    Only p s (t.drainSearchAgain k) ↔ Only p s t := by simp [State.drainSearchAgain, h]

@[simp] theorem only_clearDrain (h : p .mlu = true) (k : Nat) : Only p s (t.clearDrain k) ↔ Only p s t := by
  simp [State.clearDrain, h]

/-- An action on drains is within the frame where it is so at each drain. -/
theorem only_eachDrain (q : Drain → Bool) (f : State → Nat → Drain → State)
    (hf : ∀ u k d, Only p u (f u k d)) : Only p s (t.eachDrain q f) ↔ Only p s t :=
  Only.iff_of_step (t.eachDrain_induct (P := Only p t) q f (fun u k d hu _ _ => hu.trans (hf u k d)) (.refl p t))

@[simp] theorem only_cancelDrainPlace (h : p .fbi = true) (h' : p .mlu = true) (d : Drain) :
    Only p s (t.cancelDrainPlace d) ↔ Only p s t := by
  unfold State.cancelDrainPlace
  repeat' split
  all_goals simp [h, h']

@[simp] theorem only_removePut (h : p .mlu = true) (k n : Nat) : Only p s (t.removePut k n) ↔ Only p s t := by
  simp [State.removePut, h]

@[simp] theorem only_giveUpPut (h : p .fbi = true) (h' : p .mlu = true) (x : ReleaseReason) (y : Put) :
    Only p s (t.giveUpPut x y) ↔ Only p s t := by
  unfold State.giveUpPut
  split <;> simp [h, h']

@[simp] theorem only_addPut (h : p .mlu = true) (k n : Nat) (x : Put) : Only p s (t.addPut k n x) ↔ Only p s t := by
  simp [State.addPut, h]

@[simp] theorem only_mluGrantFailed (h : p .mlu = true) (b : GrantBody) :
    Only p s (t.mluGrantFailed b) ↔ Only p s t := by
  unfold State.mluGrantFailed
  split <;> simp [h]

@[simp] theorem only_announcePut (h : p .fbi = true) (h' : p .mlu = true) (a b c : Nat) (d : Bool) :
    Only p s (t.announcePut a b c d) ↔ Only p s t := by
  cases d <;> simp [State.announcePut, h, h']

@[simp] theorem only_strandNewest (h : p .fbi = true) (h' : p .mlu = true) (k : Nat) :
    Only p s (t.strandNewest k) ↔ Only p s t := by
  unfold State.strandNewest
  repeat' split
  all_goals simp [h, h']

@[simp] theorem only_guidedPut (h : p .fbi = true) (h' : p .mlu = true) (r : LanePut) (k : Nat) (x : Put) :
    Only p s (t.guidedPut r k x) ↔ Only p s t := by
  unfold State.guidedPut
  dsimp only
  split <;> simp [h, h']

@[simp] theorem only_unguidedPut (h : p .fbi = true) (h' : p .mlu = true) (r : LanePut) :
    Only p s (t.unguidedPut r) ↔ Only p s t := by simp [State.unguidedPut, h, h']

@[simp] theorem only_askDrain (h : p .mlu = true) (l : Lane) (a : Item) (d : Drain) (c : List TrailerCandidate) :
    Only p s (t.askDrain l a d c) ↔ Only p s t := by
  unfold State.askDrain
  split
  · simp [h]
  · dsimp only
    split <;> simp [h]

@[simp] theorem only_offerDrainAsk (h : p .fbi = true) (h' : p .mlu = true) (l : Lane) (a : Item) (n m : Nat) :
    Only p s (t.offerDrainAsk l a n m) ↔ Only p s t := by
  unfold State.offerDrainAsk
  cases t.offerResult <;> simp [h, h']

@[simp] theorem only_grantDrain (h : p .mlu = true) (k b : Nat) (x : Place) (n : Nat) :
    Only p s (t.grantDrain k b x n) ↔ Only p s t := by simp [State.grantDrain, h]

@[simp] theorem only_lateDrainGrant (h : p .fbi = true) (h' : p .mlu = true) (n : Nat) (b : GrantBody) :
    Only p s (t.lateDrainGrant n b) ↔ Only p s t := by
  unfold State.lateDrainGrant
  repeat' split
  all_goals simp [h, h']

@[simp] theorem only_refuseDrain (h : p .mlu = true) (k : Nat) (d : Drain) (n : Nat) (x : RefuseReason) :
    Only p s (t.refuseDrain k d n x) ↔ Only p s t := by
  unfold State.refuseDrain
  repeat' split
  all_goals simp [h]

@[simp] theorem only_releaseDrain (h : p .mlu = true) (k : Nat) (d : Drain) :
    Only p s (t.releaseDrain k d) ↔ Only p s t := by
  unfold State.releaseDrain
  cases d.state <;> simp [h]

@[simp] theorem only_dropHead (h : p .mlu = true) (k n : Nat) : Only p s (t.dropHead k n) ↔ Only p s t :=
  only_updateLane h _ _

@[simp] theorem only_drainPlaced (h : p .fbi = true) (h' : p .mlu = true) (k : Nat) (d : Drain) (n : Nat)
    (x : Place) : Only p s (t.drainPlaced k d n x) ↔ Only p s t := by
  unfold State.drainPlaced
  cases d.state <;> dsimp only
  case seeking => rfl
  case asked => simp [h']
  all_goals split <;> simp [h, h']

@[simp] theorem only_ownGrant (h : p .mlu = true) (a b : Nat) (sd : Side) (c d : Nat) :
    Only p s (t.ownGrant a b sd c d) ↔ Only p s t := by
  unfold State.ownGrant
  repeat' split
  all_goals simp [h]

/-! ### The FBI -/

@[simp] theorem only_placeFirstAdvert (h : p .fbi = true) : Only p s t.placeFirstAdvert ↔ Only p s t := by
  unfold State.placeFirstAdvert
  split <;> simp [h]

@[simp] theorem only_placeOwedAdvert (h : p .fbi = true) : Only p s t.placeOwedAdvert ↔ Only p s t := by
  unfold State.placeOwedAdvert
  split <;> simp [h]

@[simp] theorem only_setLastHeard (h : p .fbi = true) (a b : Nat) : Only p s (t.setLastHeard a b) ↔ Only p s t := by
  unfold State.setLastHeard
  split <;> simp [h]

@[simp] theorem only_compareSequence (h : p .fbi = true) (f : Frame) :
    Only p s (t.compareSequence f) ↔ Only p s t := by
  unfold State.compareSequence
  dsimp only
  split <;> simp [h]

@[simp] theorem only_arrive (h : p .fbi = true) (b : List Byte) : Only p s (t.arrive b) ↔ Only p s t := by
  unfold State.arrive
  repeat' split
  all_goals simp [h]

@[simp] theorem only_noteAsk (b : Body) : Only p s (t.noteAsk b) ↔ Only p s t := by
  cases b <;> simp [State.noteAsk]

/-- The FBI and the three blocks that own frames are marked: frames leave the queue, and their owners are told. -/
structure OwnersMarked (p : Part → Bool) : Prop where
  fbi : p .fbi = true
  dsu : p .dsu = true
  lpu : p .lpu = true
  mlu : p .mlu = true

@[simp] theorem only_serveFrame (h : OwnersMarked p) (f : OwnedFrame) :
    Only p s (t.serveFrame f) ↔ Only p s t := by
  unfold State.serveFrame State.noLongerOwed
  cases f.owner <;> simp [only_withLpu, only_withMlu, only_withDsu, h.fbi, h.dsu, h.lpu, h.mlu]

@[simp] theorem only_serveOwed (h : OwnersMarked p) (n : Nat) :
    Only p s (State.serveOwed n t) ↔ Only p s t := by
  induction n generalizing t with
  | zero => rfl
  | succ n ih =>
    unfold State.serveOwed
    repeat' split
    all_goals simp [ih, h]

@[simp] theorem only_spaceEvent (h : OwnersMarked p) : Only p s t.spaceEvent ↔ Only p s t := by
  unfold State.spaceEvent
  repeat' split
  all_goals simp [h, h.fbi]

@[simp] theorem only_askFailed (h : OwnersMarked p) (o : Owner) (a : AskBody) :
    Only p s (t.askFailed o a) ↔ Only p s t := by
  cases o with
  | lpu => rfl
  | dsu =>
    refine Only.iff_of_step (only_onRecord _ _ fun i r => ?_)
    split <;> simp [h.dsu]
  | mlu =>
    unfold State.askFailed State.mluAskFailed
    dsimp only
    split <;> simp [h.mlu]

@[simp] theorem only_grantFailed (h : OwnersMarked p) (o : Owner) (g : GrantBody) :
    Only p s (t.grantFailed o g) ↔ Only p s t := by
  cases o <;> simp [State.grantFailed, h.fbi, h.lpu, h.mlu]

@[simp] theorem only_oweAgain (h : OwnersMarked p) (f : OwnedFrame) : Only p s (t.oweAgain f) ↔ Only p s t := by
  unfold State.oweAgain
  repeat' split
  all_goals simp [h.dsu, h.lpu, h.mlu]

@[simp] theorem only_tellMuted (h : OwnersMarked p) (o : Outgoing) : Only p s (t.tellMuted o) ↔ Only p s t := by
  unfold State.tellMuted State.toldMuted
  repeat' split
  all_goals simp [h]

@[simp] theorem only_tellFailed (h : OwnersMarked p) (o : Outgoing) : Only p s (t.tellFailed o) ↔ Only p s t := by
  unfold State.tellFailed State.toldFailed
  repeat' split
  all_goals simp [h]

@[simp] theorem only_discardHead (h : OwnersMarked p) (o : Outgoing) :
    Only p s (t.discardHead o) ↔ Only p s t := by simp [State.discardHead, h, h.fbi]

@[simp] theorem only_setMute (h : OwnersMarked p) : Only p s t.setMute ↔ Only p s t := by
  rw [State.setMute, only_foldl _ _ fun u o => (only_tellMuted h o).mpr (.refl p u), only_setFbi h.fbi]

@[simp] theorem only_takeFrame (h : OwnersMarked p) (f : Frame) : Only p s (t.takeFrame f) ↔ Only p s t := by
  unfold State.takeFrame State.bayClash
  repeat' split
  all_goals simp [h, h.fbi]

/-! ### The GDU -/

@[simp] theorem only_setChannel (h : p .gdu = true) (k : Nat) (c : Channel) :
    Only p s (t.setChannel k c) ↔ Only p s t := only_withGdu h _

@[simp] theorem only_driveChannel (h : p .gdu = true) (k : Nat) : Only p s (t.driveChannel k) ↔ Only p s t :=
  only_setChannel h _ _

@[simp] theorem only_commit (h : p .gdu = true) (i : Indication) (r : Option IndicationRequest) :
    Only p s (t.commit i r) ↔ Only p s t := by
  rw [State.commit, only_foldl _ _ fun u k => (only_driveChannel h k).mpr (.refl p u), only_withGdu h]

@[simp] theorem only_commitIdle (h : p .gdu = true) : Only p s t.commitIdle ↔ Only p s t := only_commit h _ _

@[simp] theorem only_reportRequest (r : IndicationRequest) (f : Nat → Indication → Instr) :
    Only p s (t.reportRequest r f) ↔ Only p s t := by
  unfold State.reportRequest
  split <;> simp

@[simp] theorem only_commitRequest (h : p .gdu = true) (r : IndicationRequest) :
    Only p s (t.commitRequest r) ↔ Only p s t := by
  simp [State.commitRequest, only_withGdu, h]

@[simp] theorem only_joinFifo (h : p .gdu = true) (r : IndicationRequest) :
    Only p s (t.joinFifo r) ↔ Only p s t := by
  unfold State.joinFifo
  repeat' split
  all_goals simp [only_withGdu, h]

@[simp] theorem only_redriveRed (h : p .gdu = true) : Only p s t.redriveRed ↔ Only p s t := by
  unfold State.redriveRed
  split <;> simp [h]

@[simp] theorem only_reportLamp (k : Nat) (f : Nat → Instr) : Only p s (t.reportLamp k f) ↔ Only p s t := by
  unfold State.reportLamp
  split <;> simp

@[simp] theorem only_senseChannel (h : p .gdu = true) (k : Nat) (f : LampFinding) :
    Only p s (t.senseChannel k f) ↔ Only p s t := by
  unfold State.senseChannel
  dsimp only
  repeat' split
  all_goals simp [h]

@[simp] theorem only_clearFault (h : p .gdu = true) (k : Nat) (f : FaultKind) :
    Only p s (t.clearFault k f) ↔ Only p s t := by
  unfold State.clearFault
  dsimp only
  repeat' split
  all_goals simp [h]

/-! ### The DCU -/

@[simp] theorem only_enter (h : p .dcu = true) (st : BayState) : Only p s (t.enter st) ↔ Only p s t := by
  simp [State.enter, h]

@[simp] theorem only_enterDocked (h : p .dcu = true) : Only p s t.enterDocked ↔ Only p s t := by
  unfold State.enterDocked
  split <;> simp [h]

@[simp] theorem only_enterClosing (h : p .dcu = true) : Only p s t.enterClosing ↔ Only p s t := by
  simp [State.enterClosing, h]

@[simp] theorem only_enterClosed (h : p .dcu = true) : Only p s t.enterClosed ↔ Only p s t := by
  simp [State.enterClosed, h]

@[simp] theorem only_undock (h : p .dcu = true) : Only p s t.undock ↔ Only p s t := by
  unfold State.undock State.depart State.abortUndock
  split <;> simp [h]

@[simp] theorem only_beginPlan (h : p .dcu = true) (b : Binding) : Only p s (t.beginPlan b) ↔ Only p s t := by
  simp [State.beginPlan, h]

@[simp] theorem only_pressClose (h : p .dcu = true) : Only p s t.pressClose ↔ Only p s t := by
  unfold State.pressClose
  repeat' split
  all_goals simp [h]

@[simp] theorem only_setReturnDue (h : p .dcu = true) (b : Bool) : Only p s (t.setReturnDue b) ↔ Only p s t :=
  only_setDcu h _

@[simp] theorem only_dockIfBoth (h : p .dcu = true) : Only p s t.dockIfBoth ↔ Only p s t := by
  unfold State.dockIfBoth
  split <;> simp [h]

@[simp] theorem only_levellerUp (h : p .dcu = true) : Only p s t.levellerUp ↔ Only p s t := by
  unfold State.levellerUp State.suspend
  repeat' split
  all_goals simp [h]

@[simp] theorem only_levellerLowered (h : p .dcu = true) : Only p s t.levellerLowered ↔ Only p s t := by
  obtain ⟨-, e⟩ | ⟨-, -, e⟩ | ⟨-, -, e⟩ := t.levellerLowered_cases <;> simp [e, State.resume, h]

@[simp] theorem only_lineTaken (h : p .dcu = true) (line : Line) (b : Bool) :
    Only p s (t.lineTaken line b) ↔ Only p s t := by
  unfold State.lineTaken
  split <;> simp [State.trailerLeft, h]

@[simp] theorem only_changeLine (h : p .dcu = true) (line : Line) (b : Bool) :
    Only p s (t.changeLine line b) ↔ Only p s t := by
  unfold State.changeLine
  dsimp only
  split <;> simp [h]

@[simp] theorem only_graceUndock (h : p .dcu = true) : Only p s t.graceUndock ↔ Only p s t := by
  simp [State.graceUndock, h]

@[simp] theorem only_farCutAtOnce : Only p s t.farCutAtOnce ↔ Only p s t := by
  unfold State.farCutAtOnce
  split <;> simp

/-- The phase or the binding goes to the DCU and the LPU in one event. -/
theorem only_withDcuLpu (h : p .dcu = true) (h' : p .lpu = true) (d : Dcu) (u : Lpu) (l : List Instr) :
    Only p s { t with dcu := d, lpu := u, handed := l } ↔ Only p s t :=
  Only.iff_of_step fun x hx => by cases x <;> first | rfl | simp [h, h'] at hx

@[simp] theorem only_acceptCard (h : p .dcu = true) (h' : p .lpu = true) (r : CardRead) :
    Only p s (t.acceptCard r) ↔ Only p s t := by
  have key := fun d u => only_withDcuLpu (s := s) (t := t) h h' d u t.handed
  unfold State.acceptCard
  dsimp only
  split <;> simp [key, h]

@[simp] theorem only_switchPhase (h : p .dcu = true) (h' : p .lpu = true) :
    Only p s t.switchPhase ↔ Only p s t := only_withDcuLpu h h' _ _ _

/-! ### The SCU -/

@[simp] theorem only_enterListen (h : p .dcu = true) (h' : p .mlu = true) :
    Only p s t.enterListen ↔ Only p s t := by simp [State.enterListen, h, h']

@[simp] theorem only_afterRead (h : p .dcu = true) (h' : p .mlu = true) (h'' : p .scu = true) (r : PlugResult) :
    Only p s (t.afterRead r) ↔ Only p s t := by
  unfold State.afterRead
  dsimp only
  split <;> simp [h, h', h'']

@[simp] theorem only_writeField (h : p .mlu = true) (h' : p .scu = true) (f : FieldName) (i : Nat) (v : Int) :
    Only p s (t.writeField f i v) ↔ Only p s t := by
  unfold State.writeField
  dsimp only
  split <;> simp [h, h']

end
end Sys2Proof.Machine
end

section
/-! PROOFS. The frame of every command, read off from what its operations may change. -/

namespace Sys2Proof.Machine

/-- The parts of the state that a command may change: by the lists `writesDcu` to `writesScu`, with the reset line moved
by its two events alone and the queue of commands by none. -/
def mayChange (c : Instr) : Part → Bool
  | .pending => false
  | .resetLine => decide (c = .resetLineAsserted ∨ c = .resetLineReleased)
  | .dcu => writesDcu c
  | .fbi => writesFbi c
  | .pdr => writesPdr c
  | .dsu => writesDsu c
  | .lpu => writesLpu c
  | .mlu => writesMlu c
  | .gdu => writesGdu c
  | .scu => writesScu c

/-- Whatever state a command answers, only marked parts of it differ. -/
def Leaves (p : Part → Bool) (s : State) (o : Host.Outcome State Fault Refusal) : Prop :=
  ∀ t, o = .next t → Only p s t

section
variable {p : Part → Bool} {s : State} {f : State → State}

theorem leaves_next {t : State} (h : Only p s t) : Leaves p s (.next t) := fun _ e => by
  injection e with e
  exact e ▸ h

theorem leaves_event (hf : ∀ u, Only p u (f u)) : Leaves p s (event s f) :=
  leaves_next (by
    split
    · exact .refl p s
    · exact hf s)

theorem leaves_request (hf : ∀ u, Only p u (f u)) : Leaves p s (request s f) :=
  leaves_next (by
    split
    · exact .refl p s
    · exact hf s)

theorem leaves_taken {c : Instr} (hf : ∀ u, Only p u (f u)) : Leaves p s (taken c s f) :=
  leaves_next (by
    split
    · simp
    · exact ((only_drop c).mpr (.refl p s)).trans (hf _))

end

/-- A reset may change all but the queue of commands and the level of the reset line. -/
theorem mayChange_of_takesReset {c : Instr} (h : takesReset c = true) {x : Part} (hx : mayChange c x = false) :
    x = .pending ∨ x = .resetLine := by
  cases x <;>
    simp_all [mayChange, writesDcu, writesFbi, writesPdr, writesDsu, writesLpu, writesMlu, writesGdu, writesScu]

/-- A floor reset leaves the queue of commands and the level of the reset line. -/
theorem only_floorReset {p : Part → Bool} (h : ∀ x, p x = false → x = .pending ∨ x = .resetLine) (s : State) :
    Only p s s.floorReset := by
  intro x hx
  unfold State.floorReset
  obtain rfl | rfl := h x hx <;> split <;> rfl

/-- The events in which frames leave the queue may change every block that owns frames. -/
theorem ownersMarked_of_leaving {c : Instr} (h : c ∈ [Instr.frameSent, .collision, .frameTaking]) :
    OwnersMarked (mayChange c) := by
  simp only [List.mem_cons, List.not_mem_nil, or_false] at h
  obtain rfl | rfl | rfl := h <;> exact ⟨rfl, rfl, rfl, rfl⟩

/-- What a command answers differs from the state before it only in the parts it may change. The commands go block by
block, by the way they are taken; each branch of a meaning is a chain of operations, whose frames are the `only_`
lemmas. -/
theorem exec_leaves (c : Instr) (s : State) : Leaves (mayChange c) s (exec c s) := by
  cases c with
  -- hand-overs alone
  | advertTick | laneCandidatesRequest _ _ _ | closeRequestClosing =>
    simp only [exec, execAdvertTick, execLaneCandidatesRequest, execCloseRequestClosing]
    refine leaves_taken fun u => ?_
    repeat' split
    all_goals simp
  | doorRead _ | laneRead _ | fragmentReceived =>
    simp only [exec, execDoorRead, execLaneRead, execFragmentReceived]
    refine leaves_event fun u => ?_
    repeat' split
    all_goals simp
  -- the PDR
  | agingEvent | doubtAll | doubtSender _ | pdrAdvert _ _ _ | pdrAsk _ _ | askNote _ | pdrGrant _ _
  | pdrPlaced _ _ | pdrRefuse _ _ | pdrClose _ =>
    simp only [exec, execAgingEvent, execDoubtAll, execDoubtSender, execPdrAdvert, execPdrAsk, execAskNote,
      execPdrGrant, execPdrPlaced, execPdrRefuse, execPdrClose]
    exact leaves_taken fun u => (only_withPdr rfl _).mpr (.refl _ u)
  | trailerCandidatesRequest _ _ | ownTrailerSummary _ _ =>
    simp only [exec, execTrailerCandidatesRequest, execOwnTrailerSummary]
    refine leaves_taken fun u => ?_
    repeat' split
    all_goals simp [mayChange, writesMlu]
  -- the DSU
  | dsuDoorReadInto _ | trailerCandidatesAnswer _ _ _ | laneCandidatesAnswer _ _ _ | answerDeadlineExpiry _
  | guardDeadlineExpiry _ | retryAfterExpiry _ | dsuRefuse _ _ | dsuRelease _ _ | dsuPlaced _ _
  | placedNote _ _ _ | selfPutRelease _ _ | shownReport _ _ | droppedReport _ _ =>
    simp only [exec, execDsuDoorReadInto, execTrailerCandidatesAnswer, execLaneCandidatesAnswer,
      execAnswerDeadlineExpiry, execGuardDeadlineExpiry, execRetryAfterExpiry, execDsuRefuse, execDsuRelease,
      execDsuPlaced, execPlacedNote, execSelfPutRelease, execShownReport, execDroppedReport]
    refine leaves_taken fun u => only_onRecord _ _ fun i r => ?_
    repeat' split
    all_goals simp [mayChange, writesDsu, writesFbi]
  | dsuDoorReadOut _ | selfPutAnswer _ _ _ | dsuGrant _ _ | dsuRestartAdvert _ | dsuClose _ _
  | askSequenceRequest _ _ _ =>
    simp only [exec, execDsuDoorReadOut, execSelfPutAnswer, execDsuGrant, execDsuRestartAdvert, execDsuClose,
      execAskSequenceRequest]
    refine leaves_taken fun u => ?_
    repeat' split
    all_goals simp [mayChange, writesDsu, writesFbi]
  -- the LPU
  | beginPlan _ _ _ _ | lpuAsk _ _ | ownTrailerAsk _ | reservationExpiry _ | lpuRelease _ _
  | ownDrainRelease _ _ | lpuDoorReadInto _ | lpuDoorReadOut _ | closeRequestClosed | departureRequest
  | abortRequest =>
    simp only [exec, execBeginPlan, execLpuAsk, execOwnTrailerAsk, execReservationExpiry, execLpuRelease,
      execOwnDrainRelease, execLpuDoorReadInto, execLpuDoorReadOut, execCloseRequestClosed, execDepartureRequest,
      execAbortRequest]
    refine leaves_taken fun u => ?_
    repeat' split
    all_goals simp [mayChange, writesLpu, writesFbi, only_changePlan, only_removeReservation, only_withLpu]
  -- the MLU
  | drainTick | mluAsk _ _ | selfPutRequest _ _ _ | mluRelease _ _ | mluLaneRead _
  | mluExitEvent _ | drainCandidatesAnswer _ _ _ _ | askSequenceReturn _ _ _ _ | mluGrant _ _ | mluRefuse _ _
  | ownTrailerAnswer _ _ | drainAnswerDeadlineExpiry _ | drainRetryAfterExpiry _ | drainGuardDeadlineExpiry _
  | mluPlaced _ _ | lampFaultReport _ | lampClearReport _ =>
    simp only [exec, execDrainTick, execMluAsk, execSelfPutRequest, execMluRelease, execMluLaneRead,
      execMluExitEvent, execDrainCandidatesAnswer, execAskSequenceReturn, execMluGrant, execMluRefuse,
      execOwnTrailerAnswer, execDrainAnswerDeadlineExpiry, execDrainRetryAfterExpiry,
      execDrainGuardDeadlineExpiry, execMluPlaced, execLampFaultReport, execLampClearReport]
    refine leaves_taken fun u => (only_mluEnd rfl).mpr ?_
    repeat' split
    all_goals simp [mayChange, writesMlu, writesFbi, only_eachDrain]
  | selfPutCancel _ | putExpiry _ =>
    simp only [exec, execSelfPutCancel, execPutExpiry]
    refine leaves_taken fun u => ?_
    split <;> simp [mayChange, writesMlu, writesFbi]
  -- the FBI
  | advertDebtRise =>
    simp only [exec, execAdvertDebtRise]
    refine leaves_taken fun u => ?_
    repeat' split
    all_goals simp [mayChange, writesFbi]
  | attemptStart | backoffEnd | frameArrival _ =>
    simp only [exec, execAttemptStart, execBackoffEnd, execFrameArrival]
    refine leaves_event fun u => ?_
    repeat' split
    all_goals simp [mayChange, writesFbi]
  | frameSent | collision | frameTaking =>
    simp only [exec, execFrameSent, execCollision, execFrameTaking]
    refine leaves_event fun u => ?_
    repeat' split
    all_goals simp [ownersMarked_of_leaving, (ownersMarked_of_leaving _).fbi]
  -- the GDU
  | indicationRequest _ | dwellExpiry | showExpiry | bayStateChange =>
    simp only [exec, execIndicationRequest, execDwellExpiry, execShowExpiry, execBayStateChange]
    refine leaves_taken fun u => ?_
    repeat' split
    all_goals simp [mayChange, writesGdu, only_withGdu]
  | lampSensing _ _ | patternHalfEnd _ =>
    simp only [exec, execLampSensing, execPatternHalfEnd]
    refine leaves_event fun u => ?_
    split <;> simp [mayChange, writesGdu]
  -- the DCU
  | beat | cardRead _ =>
    simp only [exec, execBeat, execCardRead]
    refine leaves_event fun u => ?_
    repeat' split
    all_goals simp [mayChange, writesDcu, writesLpu]
  | joinDeadlineExpiry | cutOffExpiry | farCutExpiry | levellerGraceExpiry | closingGraceExpiry
  | noReservationReport =>
    simp only [exec, execJoinDeadlineExpiry, execCutOffExpiry, execFarCutExpiry, execLevellerGraceExpiry,
      execClosingGraceExpiry, execNoReservationReport]
    refine leaves_taken fun u => ?_
    repeat' split
    all_goals simp [mayChange, writesDcu, writesFbi, writesLpu]
  | doorLineChange _ _ | exitEvent _ | beamInterrupted _ =>
    simp only [exec, execDoorLineChange, execExitEvent, execBeamInterrupted]
    refine leaves_next ?_
    repeat' split
    all_goals simp [mayChange, writesDcu]
  -- the SCU
  | sealRequest =>
    simp only [exec, execSealRequest]
    refine leaves_event fun u => ?_
    split <;> simp [mayChange, writesScu]
  | noticeRaise _ =>
    simp only [exec, execNoticeRaise]
    exact leaves_taken fun u => by simp [mayChange, writesScu]
  | configurationReadEnd _ =>
    simp only [exec, execConfigurationReadEnd]
    refine leaves_next ?_
    split <;> simp [mayChange, writesDcu, writesMlu, writesScu]
  | resetLineAsserted =>
    exact leaves_next fun x hx => by cases x <;> first | rfl | simp [mayChange, writesGdu, writesScu] at hx
  -- requests
  | sensorRead | declareEmpty | readDirectoryEntry _ _ | removeRecord _ | readAskTable | readPlan | clearHold
  | readClosingRecord | clearLane _ | readLanes | clearLamp _ _ | floorReset | sealConfig
  | writeField _ _ _ | readField _ _ | readState | readNotices | noticeEnable _ | noticeDisable _
  | clearNotice _ | unknown =>
    simp only [exec, execSensorRead, execDeclareEmpty, execReadDirectoryEntry, execRemoveRecord, execReadAskTable,
      execReadPlan, execClearHold, execReadClosingRecord, execClearLane, execReadLanes, execClearLamp,
      execFloorReset, execSealConfig, execWriteField, execReadField, execReadState, execReadNotices,
      execNoticeEnable, execNoticeDisable, execClearNotice, execUnknown]
    refine leaves_request fun u => ?_
    repeat' split
    all_goals simp [mayChange, writesDcu, writesFbi, writesDsu, writesLpu, writesMlu, writesGdu, writesScu, isRequest]
  -- resets
  | powerOnReset =>
    exact leaves_next fun x hx => by
      obtain rfl | rfl := mayChange_of_takesReset rfl hx <;> rfl
  | resetLineReleased =>
    refine leaves_next ?_
    split
    · intro x hx
      obtain rfl | rfl := mayChange_of_takesReset rfl hx
      · exact only_floorReset (p := mayChange .floorResetTaken) (fun _ => mayChange_of_takesReset rfl) _ .pending rfl
      · cases hx
    · exact .refl _ s
  | floorResetTaken => exact leaves_event (only_floorReset fun _ => mayChange_of_takesReset rfl)
  | serviceAnswerSent =>
    simp only [exec, execServiceAnswerSent]
    refine leaves_event fun u => ?_
    split
    · exact .refl _ u
    · split
      · exact only_floorReset (fun _ => mayChange_of_takesReset rfl) u
      · exact (only_setScu rfl _).mpr (.refl _ u)

/-- Settles O5: a block is one of the parts that a command may change only if the command is on its list. -/
theorem outerBlockFrames : Obligations.OuterBlockFrames := fun c s t h =>
  have only := exec_leaves c s t h
  ⟨only .dcu, only .fbi, only .gdu, only .scu⟩

end Sys2Proof.Machine
end

section
/-! PROOFS. What the operations of the door and cycle unit do to the DCU and to the hand-overs, by bay state. -/

namespace Sys2Proof.Machine

/-! ## Reading the bay state -/

theorem State.inState_iff (s : State) (st : BayState) : s.inState st = true ↔ s.dcu.bayState = some st :=
  decide_eq_true_iff

theorem State.reading_iff (s : State) : s.reading = true ↔ s.dcu.bayState = none := Option.isNone_iff_eq_none

theorem State.inState_of_eq {s : State} {a : BayState} (h : s.dcu.bayState = some a) (b : BayState) :
    s.inState b = decide (a = b) := by
  simp [State.inState, h]

theorem State.reading_of_eq {s : State} {a : BayState} (h : s.dcu.bayState = some a) : s.reading = false := by
  simp [State.reading, h]

theorem State.now_eq (s : State) : s.now = s.dcu.beat := rfl

/-! ## Entering a bay state -/

@[simp] theorem State.enter_dcu (s : State) (st : BayState) :
    (s.enter st).dcu = { s.dcu with bayState := some st } := rfl

@[simp] theorem State.enter_handed (s : State) (st : BayState) :
    (s.enter st).handed = s.handed ++ [.bayStateChange] := rfl

@[simp] theorem State.enter_scu (s : State) (st : BayState) : (s.enter st).scu = s.scu := rfl

@[simp] theorem State.enterDocked_dcu (s : State) :
    s.enterDocked.dcu = { s.dcu with bayState := some .docked } := by
  unfold State.enterDocked
  split <;> rfl

@[simp] theorem State.enterDocked_scu (s : State) : s.enterDocked.scu = s.scu := by
  unfold State.enterDocked
  split <;> rfl

/-- R10, R177: a seal request goes with the entry to DOCKED while the seal is clear. -/
@[simp] theorem State.enterDocked_handed (s : State) :
    s.enterDocked.handed =
      s.handed ++ if s.scu.sealed then [.bayStateChange] else [.bayStateChange, .sealRequest] := by
  unfold State.enterDocked
  split <;> simp

@[simp] theorem State.expireAtOnce_dcu (s : State) (n : Nat) (c : Instr) : (s.expireAtOnce n c).dcu = s.dcu := by
  unfold State.expireAtOnce
  split <;> rfl

/-- R7: a deadline set to now or before it goes ahead of what waits. -/
@[simp] theorem State.expireAtOnce_handed (s : State) (n : Nat) (c : Instr) :
    (s.expireAtOnce n c).handed = if n ≤ s.dcu.beat then c :: s.handed else s.handed := by
  unfold State.expireAtOnce
  split <;> simp_all [State.now_eq]

@[simp] theorem State.enterClosing_dcu (s : State) : s.enterClosing.dcu =
    { s.dcu with bayState := some .closing, closingGrace := some (s.dcu.beat + s.scu.config.closingGrace) } := by
  simp [State.enterClosing, State.now_eq]

@[simp] theorem State.enterClosing_handed (s : State) : s.enterClosing.handed =
    if decide (s.scu.config.closingGrace = 0) then
      .closingGraceExpiry :: (s.handed ++ [.bayStateChange, .closeRequestClosing])
    else s.handed ++ [.bayStateChange, .closeRequestClosing] := by
  simp [State.enterClosing, State.now_eq]

/-- The entry to CLOSING behind what the event has handed on already. -/
theorem State.enterClosing_handsOn {s u : State} {l : List Instr} (h : HandsOn s u l) :
    HandsOnAtOnce s u.enterClosing (decide (u.scu.config.closingGrace = 0)) .closingGraceExpiry
      (l ++ [.bayStateChange, .closeRequestClosing]) := by
  rw [HandsOnAtOnce, u.enterClosing_handed, h, List.append_assoc]

@[simp] theorem State.enterClosed_dcu (s : State) : s.enterClosed.dcu =
    { s.dcu with
      bayState := some .closed, closingGrace := none, suspended := false, leveller := none, farCut := none } := rfl

@[simp] theorem State.enterClosed_handed (s : State) :
    s.enterClosed.handed = s.handed ++ [.bayStateChange, .closeRequestClosed] := by
  simp [State.enterClosed]

/-! ## Undock (R17, R18) -/

theorem State.undock_of_docked {s : State} (h : s.dcu.bayState = some .docked ∨ s.dcu.bayState = some .blocked) :
    s.undock = (s.setDcu { s.dcu with phase := none }).enter .empty := by
  unfold State.undock
  obtain h | h := h <;> rw [h]

theorem State.undock_of_inbound {s : State} (h : s.dcu.bayState = some .inbound ∨ s.dcu.bayState = some .closed) :
    s.undock = s.depart := by
  unfold State.undock
  obtain h | h := h <;> rw [h]

theorem State.undock_of_outbound {s : State}
    (h : s.dcu.bayState = some .outbound ∨ s.dcu.bayState = some .closing) : s.undock = s.abortUndock := by
  unfold State.undock
  obtain h | h := h <;> rw [h]

theorem State.undock_of_none {s : State}
    (h : s.dcu.bayState ∈ [some .listen, some .unconfigured, some .empty]) : s.undock = s := by
  unfold State.undock
  simp only [List.mem_cons, List.not_mem_nil, or_false] at h
  obtain h | h | h := h <;> rw [h]

@[simp] theorem State.depart_dcu (s : State) :
    s.depart.dcu = { unbound s.dcu with bayState := some .empty } := rfl

@[simp] theorem State.depart_handed (s : State) :
    s.depart.handed = s.handed ++ [.bayStateChange, .departureRequest] := by
  simp [State.depart]

@[simp] theorem State.abortUndock_dcu (s : State) :
    s.abortUndock.dcu = { unbound s.dcu with bayState := some .empty } := rfl

@[simp] theorem State.abortUndock_handed (s : State) :
    s.abortUndock.handed = s.handed ++ [.bayStateChange, .abortRequest, .noticeRaise .undockAbort] := by
  simp [State.abortUndock]

/-! ## Docking and the leveller (R10, R16) -/

theorem State.dockIfBoth_of_both {s : State} (h : s.dcu.bayState = some .empty)
    (ht : s.dcu.trailerPresent.lastTaken = true) (hl : s.dcu.levellerDown.lastTaken = true) :
    s.dockIfBoth = s.enterDocked := by
  simp [State.dockIfBoth, State.inState, h, bothDown, ht, hl]

theorem State.dockIfBoth_of_not {s : State} (h : s.dcu.bayState ≠ some .empty ∨
    s.dcu.trailerPresent.lastTaken = false ∨ s.dcu.levellerDown.lastTaken = false) : s.dockIfBoth = s := by
  obtain h | h | h := h <;> simp [State.dockIfBoth, State.inState, bothDown, h]

theorem State.levellerUp_of_docked {s : State} (h : s.dcu.bayState = some .docked) :
    s.levellerUp = s.enter .empty := by
  simp [State.levellerUp, State.inState, h]

theorem State.levellerUp_of_visit {s : State} (h : s.dcu.bayState = some .inbound ∨
    s.dcu.bayState = some .outbound ∨ s.dcu.bayState = some .closing)
    (ht : s.dcu.trailerPresent.lastTaken = true) : s.levellerUp = s.suspend := by
  obtain h | h | h := h <;> simp [State.levellerUp, visiting, State.inState, h, ht]

theorem State.levellerUp_of_none {s : State} (h : s.dcu.bayState ≠ some .docked)
    (hv : s.dcu.bayState ≠ some .inbound ∧ s.dcu.bayState ≠ some .outbound ∧
      s.dcu.bayState ≠ some .closing ∨ s.dcu.trailerPresent.lastTaken = false) : s.levellerUp = s := by
  obtain ⟨hi, ho, hc⟩ | ht := hv <;> simp [State.levellerUp, visiting, State.inState, *]

@[simp] theorem State.suspend_dcu (s : State) : s.suspend.dcu =
    { s.dcu with suspended := true, leveller := some (s.dcu.beat + s.scu.config.levellerGrace) } := by
  simp [State.suspend, State.now_eq]

@[simp] theorem State.suspend_handed (s : State) : s.suspend.handed =
    if decide (s.scu.config.levellerGrace = 0) then .levellerGraceExpiry :: (s.handed ++ [.bayStateChange])
    else s.handed ++ [.bayStateChange] := by
  simp [State.suspend, State.now_eq]

/-! ## The plan begun and the press of CLOSE PUSH (R13, R14) -/

@[simp] theorem State.beginPlan_dcu (s : State) (b : Binding) :
    (s.beginPlan b).dcu = { s.dcu with phase := some (phaseAt b s.dcu.beat) } := rfl

@[simp] theorem State.beginPlan_handed (s : State) (b : Binding) :
    (s.beginPlan b).handed = s.handed ++ [.beginPlan b.cls b.near b.far (phaseAt b s.dcu.beat)] := rfl

@[simp] theorem State.beginPlan_scu (s : State) (b : Binding) : (s.beginPlan b).scu = s.scu := rfl

/-- R13: the phase is FAR while a far-cut that belongs to a far destination lies ahead. -/
theorem phaseAt_eq_far (b : Binding) (now : Nat) :
    phaseAt b now = .far ↔ b.far ≠ none ∧ ∃ beat, b.farCut = some beat ∧ now < beat := by
  unfold phaseAt
  cases b.far <;> cases b.farCut <;> simp

theorem State.pressClose_of_inbound {s : State} {b : Binding} (h : s.dcu.bayState = some .inbound)
    (hb : s.dcu.binding = some b) (hc : s.dcu.beat < b.cutOff) :
    s.pressClose = (s.beginPlan b).enter .outbound := by
  simp [State.pressClose, h, hb, State.now_eq, Nat.not_le.mpr hc]

theorem State.pressClose_of_cutOff {s : State} {b : Binding} (h : s.dcu.bayState = some .inbound)
    (hb : s.dcu.binding = some b) (hc : b.cutOff ≤ s.dcu.beat) :
    s.pressClose = (s.beginPlan b).enterClosing := by
  simp [State.pressClose, h, hb, State.now_eq, hc]

theorem State.pressClose_of_outbound {s : State} (h : s.dcu.bayState = some .outbound) :
    s.pressClose = s.enterClosing := by
  unfold State.pressClose
  rw [h]

theorem State.pressClose_of_closing {s : State} (h : s.dcu.bayState = some .closing) :
    s.pressClose = s.enterClosed := by
  unfold State.pressClose
  rw [h]

theorem State.pressClose_of_none {s : State} (ho : s.dcu.bayState ≠ some .outbound)
    (hc : s.dcu.bayState ≠ some .closing) (hi : s.dcu.bayState = some .inbound → s.dcu.binding = none) :
    s.pressClose = s := by
  unfold State.pressClose
  split <;> simp_all

/-! ## Lines (R1) -/

theorem lineOf_withLine (d : Dcu) (x : DoorLine) (line other : Line) :
    lineOf (withLine d x line) other = if other = line then x else lineOf d other := by
  cases line <;> cases other <;> rfl

/-- The four lines, the beams and the beat stand. -/
structure InputsKept (d e : Dcu) : Prop where
  line : ∀ l, lineOf e l = lineOf d l
  beams : e.beams = d.beams
  beat : e.beat = d.beat

theorem InputsKept.refl (d : Dcu) : InputsKept d d := ⟨fun _ => rfl, rfl, rfl⟩

end Sys2Proof.Machine
end

section
/-! PROOFS. Door lines: when a change is taken, what it leaves, and the bay state that follows (R1, R2, R10 to R18). -/

namespace Sys2Proof.Machine

/-! ## When a change is taken (R1) -/

theorem takesLine_iff (s : State) (line : Line) (value : Bool) : takesLine s line value = true ↔
    s.resetLine = false ∧ s.reading = false ∧ value ≠ (lineOf s.dcu line).lastTaken := by
  unfold takesLine
  cases s.resetLine <;> cases s.reading <;> cases value <;> simp

/-- The state with a line at a value that has been taken. -/
def State.withTaken (s : State) (line : Line) (value : Bool) : State :=
  s.setDcu (withLine s.dcu { current := value, lastTaken := value, changed := true } line)

theorem exec_doorLineChange_taken {s : State} {line : Line} {value : Bool} (h : takesLine s line value = true) :
    exec (.doorLineChange line value) s = .next ((s.withTaken line value).lineTaken line value) := by
  obtain ⟨hl, hr, hv⟩ := (takesLine_iff s line value).mp h
  simp [exec, execDoorLineChange, State.changeLine, State.withTaken, hl, hr, hv]

theorem exec_doorLineChange_not_taken {s : State} {line : Line} {value : Bool}
    (h : takesLine s line value = false) : exec (.doorLineChange line value) s =
      .next (s.setDcu (withLine s.dcu { lineOf s.dcu line with current := value } line)) := by
  have hc : (s.resetLine || s.reading || decide (value = (lineOf s.dcu line).lastTaken)) = true := by
    by_contra hn
    simp only [Bool.or_eq_true, decide_eq_true_eq, not_or, Bool.not_eq_true] at hn
    obtain ⟨⟨hl, hr⟩, hv⟩ := hn
    exact absurd ((takesLine_iff s line value).mpr ⟨hl, hr, hv⟩) (by simp [h])
  simp [exec, execDoorLineChange, State.changeLine, hc]

/-! ## The leveller's return (R10, R16) -/

theorem State.levellerLowered_of_suspended {s : State} (h : s.dcu.suspended = true) :
    s.levellerLowered = s.resume := by simp [State.levellerLowered, h]

theorem State.levellerLowered_of_returnDue {s : State} (h : s.dcu.suspended = false)
    (h' : s.dcu.returnDue = true) : s.levellerLowered = s.setReturnDue false := by
  simp [State.levellerLowered, h, h']

theorem State.levellerLowered_of_free {s : State} (h : s.dcu.suspended = false) (h' : s.dcu.returnDue = false) :
    s.levellerLowered = s.dockIfBoth := by
  simp [State.levellerLowered, h, h']

/-! ## What the taking of a change leaves -/

theorem InputsKept.withReturnDue {d e : Dcu} (h : InputsKept d e) (b : Bool) :
    InputsKept d { e with returnDue := b } :=
  ⟨fun l => .trans (by cases l <;> rfl) (h.line l), h.beams, h.beat⟩

theorem State.undock_inputs (s : State) : InputsKept s.dcu s.undock.dcu := by
  unfold State.undock
  split <;> exact ⟨fun l => by cases l <;> rfl, rfl, rfl⟩

theorem State.dockIfBoth_inputs (s : State) : InputsKept s.dcu s.dockIfBoth.dcu := by
  unfold State.dockIfBoth
  split
  · rw [s.enterDocked_dcu]
    exact ⟨fun l => by cases l <;> rfl, rfl, rfl⟩
  · exact .refl _

theorem State.levellerUp_inputs (s : State) : InputsKept s.dcu s.levellerUp.dcu := by
  unfold State.levellerUp
  split
  · exact ⟨fun l => by cases l <;> rfl, rfl, rfl⟩
  · split
    · rw [s.suspend_dcu]
      exact ⟨fun l => by cases l <;> rfl, rfl, rfl⟩
    · exact .refl _

theorem State.levellerLowered_inputs (s : State) : InputsKept s.dcu s.levellerLowered.dcu := by
  obtain ⟨-, h⟩ | ⟨-, -, h⟩ | ⟨-, -, h⟩ := s.levellerLowered_cases <;> rw [h]
  · exact ⟨fun l => by cases l <;> rfl, rfl, rfl⟩
  · exact ⟨fun l => by cases l <;> rfl, rfl, rfl⟩
  · exact s.dockIfBoth_inputs

theorem State.pressClose_inputs (s : State) : InputsKept s.dcu s.pressClose.dcu := by
  unfold State.pressClose
  split
  · split
    · rw [State.enterClosing_dcu]
      exact ⟨fun l => by cases l <;> rfl, rfl, rfl⟩
    · exact ⟨fun l => by cases l <;> rfl, rfl, rfl⟩
  · rw [s.enterClosing_dcu]
    exact ⟨fun l => by cases l <;> rfl, rfl, rfl⟩
  · exact ⟨fun l => by cases l <;> rfl, rfl, rfl⟩
  · exact .refl _

/-- The bay state machine leaves the lines, the beams and the beat as it finds them. -/
theorem State.lineTaken_inputs (s : State) (line : Line) (value : Bool) :
    InputsKept s.dcu (s.lineTaken line value).dcu := by
  cases line <;> cases value
  case trailerPresent.false => exact s.undock_inputs.withReturnDue false
  case trailerPresent.true => exact s.dockIfBoth_inputs
  case levellerDown.false => exact s.levellerUp_inputs
  case levellerDown.true => exact s.levellerLowered_inputs
  case closePush.true => exact s.pressClose_inputs
  all_goals exact .refl _

theorem exec_sensorRead_ready {s : State} (h : s.ready = true) : exec .sensorRead s =
    .next ((s.setDcu (flagsCleared s.dcu)).answer .sensorRead .ok
      (.sensors (sensorPair s.dcu.trailerPresent) (sensorPair s.dcu.levellerDown)
        (sensorPair s.dcu.doorOpen) (sensorPair s.dcu.closePush))) := by
  rw [exec, execSensorRead, request_ready h]

/-- Settles O27: a change not taken sets the present value alone; one taken sets the line and leaves the other inputs
through the bay state machine. -/
theorem lineChangesAreTaken : Obligations.LineChangesAreTaken := by
  refine ⟨fun d x => ⟨rfl, rfl, rfl, rfl, rfl, rfl, rfl, rfl⟩, fun line value s => takesLine_iff s line value,
    fun line value s h => exec_doorLineChange_not_taken h, fun d s => rfl, ?_, ?_, ?_⟩
  · intro line value s h
    obtain ⟨hl, hb, ht⟩ := (s.withTaken line value).lineTaken_inputs line value
    refine ⟨_, exec_doorLineChange_taken h, (hl line).trans (by simp [State.withTaken, lineOf_withLine]),
      fun other ho => (hl other).trans (by simp [State.withTaken, lineOf_withLine, ho]), hb.trans ?_, ht.trans ?_⟩
    all_goals cases line <;> rfl
  · intro line s
    refine exec_doorLineChange_not_taken (Bool.eq_false_iff.mpr fun h => ?_)
    exact ((takesLine_iff _ _ _).mp h).2.2 rfl
  · intro s h
    exact ⟨_, exec_sensorRead_ready h, rfl, fun line => by cases line <;> rfl, rfl, rfl, rfl, rfl, rfl, rfl, rfl, rfl⟩

/-! ## The bay state that follows a change (R10 to R18) -/

section
variable (s : State) (line : Line) (value : Bool)

@[simp] theorem State.withTaken_handed : (s.withTaken line value).handed = s.handed := rfl
@[simp] theorem State.withTaken_scu : (s.withTaken line value).scu = s.scu := rfl

@[simp] theorem State.withTaken_bayState : (s.withTaken line value).dcu.bayState = s.dcu.bayState := by
  cases line <;> rfl
@[simp] theorem State.withTaken_suspended : (s.withTaken line value).dcu.suspended = s.dcu.suspended := by
  cases line <;> rfl
@[simp] theorem State.withTaken_returnDue : (s.withTaken line value).dcu.returnDue = s.dcu.returnDue := by
  cases line <;> rfl
@[simp] theorem State.withTaken_phase : (s.withTaken line value).dcu.phase = s.dcu.phase := by
  cases line <;> rfl
@[simp] theorem State.withTaken_binding : (s.withTaken line value).dcu.binding = s.dcu.binding := by
  cases line <;> rfl
@[simp] theorem State.withTaken_beat : (s.withTaken line value).dcu.beat = s.dcu.beat := by
  cases line <;> rfl
@[simp] theorem State.withTaken_cutOff : (s.withTaken line value).dcu.cutOff = s.dcu.cutOff := by
  cases line <;> rfl

end

/-- R10, R14, R16: the changes that meet no bay state which acts on them. -/
def lineIdle (d : Dcu) : Line → Bool → Prop
  | .doorOpen, _ => True
  | .closePush, false => True
  | .closePush, true => d.bayState ≠ some .outbound ∧ d.bayState ≠ some .closing ∧
      (d.bayState = some .inbound → d.binding = none)
  | .trailerPresent, true => d.bayState ≠ some .empty ∨ d.levellerDown.lastTaken = false
  | .trailerPresent, false => False
  | .levellerDown, true => d.suspended = false ∧ d.returnDue = false ∧
      (d.bayState ≠ some .empty ∨ d.trailerPresent.lastTaken = false)
  | .levellerDown, false => d.bayState ≠ some .docked ∧
      (d.bayState ≠ some .inbound ∧ d.bayState ≠ some .outbound ∧ d.bayState ≠ some .closing ∨
        d.trailerPresent.lastTaken = false)

theorem State.lineTaken_idle {s : State} {line : Line} {value : Bool} (h : lineIdle s.dcu line value) :
    (s.withTaken line value).lineTaken line value = s.withTaken line value := by
  cases line <;> cases value
  case trailerPresent.false => exact h.elim
  case trailerPresent.true => exact State.dockIfBoth_of_not (h.imp id .inr)
  case levellerDown.false => exact State.levellerUp_of_none h.1 h.2
  case levellerDown.true =>
    obtain ⟨hs, hr, hd⟩ := h
    exact (State.levellerLowered_of_free (s := s.withTaken .levellerDown true) hs hr).trans (State.dockIfBoth_of_not (hd.imp id .inl))
  case closePush.true => exact State.pressClose_of_none h.1 h.2.1 h.2.2
  all_goals rfl

/-- R8: in LISTEN and UNCONFIGURED no line changes the bay state or hands anything on. -/
theorem State.lineTaken_outside {s : State} (line : Line) (value : Bool)
    (hb : s.dcu.bayState = some .listen ∨ s.dcu.bayState = some .unconfigured) (hs : s.dcu.suspended = false) :
    ((s.withTaken line value).lineTaken line value).dcu.bayState = s.dcu.bayState ∧
      ((s.withTaken line value).lineTaken line value).handed = s.handed := by
  have idle (h : lineIdle s.dcu line value) : ((s.withTaken line value).lineTaken line value).dcu.bayState =
      s.dcu.bayState ∧ ((s.withTaken line value).lineTaken line value).handed = s.handed := by
    rw [State.lineTaken_idle h]
    simp
  have hne : ∀ st : BayState, st ≠ .listen → st ≠ .unconfigured → s.dcu.bayState ≠ some st := by
    obtain hb | hb := hb <;> rw [hb] <;> rintro st h h' ⟨⟩ <;> contradiction
  cases line <;> cases value
  case trailerPresent.false =>
    have e := State.undock_of_none (s := s.withTaken .trailerPresent false)
      (by obtain hb | hb := hb <;> simp [hb])
    simp [State.lineTaken, State.trailerLeft, e]
  case levellerDown.true =>
    cases hr : s.dcu.returnDue
    · exact idle ⟨hs, hr, .inl (hne _ (by simp) (by simp))⟩
    · have e := State.levellerLowered_of_returnDue (s := s.withTaken .levellerDown true) hs hr
      simp [State.lineTaken, e]
  all_goals exact idle (by simp [lineIdle, hne])

/-- The leveller's changes in a visit hand the GDU the change of SUSPENDED, and the grace at once where it is 0. -/
theorem exec_leveller_hands {s : State} {value : Bool} (h : takesLine s .levellerDown value = true) :
    ∃ t, exec (.doorLineChange .levellerDown value) s = .next t ∧
      ((s.dcu.bayState = some .inbound ∨ s.dcu.bayState = some .outbound ∨ s.dcu.bayState = some .closing) →
        value = false → s.dcu.trailerPresent.lastTaken = true →
        HandsOnAtOnce s t (decide (s.scu.config.levellerGrace = 0)) .levellerGraceExpiry [.bayStateChange]) ∧
      (s.dcu.suspended = true → value = true → HandsOn s t [.bayStateChange]) := by
  refine ⟨_, exec_doorLineChange_taken h, ?_, ?_⟩
  · rintro hv rfl ht
    have e : (s.withTaken .levellerDown false).lineTaken .levellerDown false =
        (s.withTaken .levellerDown false).suspend := State.levellerUp_of_visit hv ht
    rw [e]
    exact State.suspend_handed _
  · rintro hs rfl
    have e : (s.withTaken .levellerDown true).lineTaken .levellerDown true =
        (s.withTaken .levellerDown true).resume := State.levellerLowered_of_suspended hs
    rw [e]
    rfl

/-- Settles O28: each change is sent to the operation of its line, which acts by the bay state. -/
theorem bayStatesFollowTheLines : Obligations.BayStatesFollowTheLines := by
  refine ⟨?_, ?_, fun value s h => exec_leveller_hands h, phaseAt_eq_far, ?_⟩
  · intro line value s h hi
    rw [exec_doorLineChange_taken h, State.lineTaken_idle]
    · rfl
    · obtain rfl | ⟨rfl, rfl | hc⟩ | ⟨rfl, rfl, ht⟩ | ⟨rfl, rfl, hl⟩ | ⟨rfl, rfl, hu⟩ := hi
      · trivial
      · trivial
      · cases value
        · trivial
        · exact hc
      · exact ht
      · exact hl
      · exact hu
  · intro s h hb
    rw [exec_doorLineChange_taken h]
    exact congrArg _ (congrArg (State.setReturnDue · false) (State.undock_of_none (s := s.withTaken .trailerPresent false) hb))
  · intro line value s h
    refine ⟨_, exec_doorLineChange_taken h, ?docks, ?waits, ?left, ?leaves, ?unblocks, ?suspends, ?resumes, ?departs,
      ?aborts, ?opens, ?cutOff, ?closes, ?closed, ?afterClosed, ?outside⟩
    case docks =>
      rintro hb hs rfl hl
      have e : (s.withTaken line true).lineTaken line true = (s.withTaken line true).enterDocked := by
        obtain ⟨rfl, hl⟩ | ⟨rfl, ht, hr⟩ := hl
        · exact State.dockIfBoth_of_both (s := s.withTaken .trailerPresent true) hb rfl hl
        · exact (State.levellerLowered_of_free (s := s.withTaken .levellerDown true) hs hr).trans
            (State.dockIfBoth_of_both hb ht rfl)
      rw [e]
      exact ⟨by simp, State.enterDocked_handed _⟩
    case waits =>
      rintro hb hs hr rfl rfl
      have e : (s.withTaken .levellerDown true).lineTaken .levellerDown true =
          (s.withTaken .levellerDown true).setReturnDue false := State.levellerLowered_of_returnDue hs hr
      rw [e]
      simp [HandsOn, hb]
    case left =>
      rintro rfl rfl
      rfl
    case leaves =>
      rintro hb rfl hl
      obtain rfl | rfl := hl
      · have e := State.undock_of_docked (s := s.withTaken .trailerPresent false) (.inl hb)
        simp [State.lineTaken, State.trailerLeft, e, HandsOn]
      · have e := State.levellerUp_of_docked (s := s.withTaken .levellerDown false) hb
        simp [State.lineTaken, e, HandsOn]
    case unblocks =>
      rintro hb rfl rfl
      have e := State.undock_of_docked (s := s.withTaken .trailerPresent false) (.inr hb)
      simp [State.lineTaken, State.trailerLeft, e, HandsOn]
    case suspends =>
      rintro hv rfl rfl ht
      have e := State.levellerUp_of_visit (s := s.withTaken .levellerDown false) hv ht
      simp [State.lineTaken, e]
    case resumes =>
      rintro hs rfl rfl
      have e := State.levellerLowered_of_suspended (s := s.withTaken .levellerDown true) hs
      simp [State.lineTaken, e, State.resume]
    case departs =>
      rintro hb rfl rfl
      have e := State.undock_of_inbound (s := s.withTaken .trailerPresent false) hb
      simp [State.lineTaken, State.trailerLeft, e, HandsOn, unbound]
    case aborts =>
      rintro hb rfl rfl
      have e := State.undock_of_outbound (s := s.withTaken .trailerPresent false) hb
      simp [State.lineTaken, State.trailerLeft, e, HandsOn, unbound]
    case opens =>
      rintro b hb hi rfl rfl hc
      have e := State.pressClose_of_inbound (s := s.withTaken .closePush true) hb hi hc
      simp [State.lineTaken, e, HandsOn, hi]
    case cutOff =>
      rintro b hb hi rfl rfl hc
      have e := State.pressClose_of_cutOff (s := s.withTaken .closePush true) hb hi hc
      have grace := State.enterClosing_handsOn (s := s) (u := (s.withTaken .closePush true).beginPlan b) rfl
      refine ⟨?_, ?_, ?_, (congrArg State.handed e).trans grace⟩ <;> simp [State.lineTaken, e]
    case closes =>
      rintro hb rfl rfl
      have e := State.pressClose_of_outbound (s := s.withTaken .closePush true) hb
      have grace := State.enterClosing_handed (s.withTaken .closePush true)
      refine ⟨?_, ?_, ?_, ?_, ?_, (congrArg State.handed e).trans grace⟩ <;> simp [State.lineTaken, e]
    case closed =>
      rintro hb rfl rfl
      have e := State.pressClose_of_closing (s := s.withTaken .closePush true) hb
      simp [State.lineTaken, e, HandsOn]
    case afterClosed =>
      rintro hb rfl rfl
      rw [State.lineTaken_idle (by simp [lineIdle, hb])]
      simp [HandsOn, hb]
    case outside => exact fun hb hs => State.lineTaken_outside line value hb hs

end Sys2Proof.Machine
end

section
/-! PROOFS. Reads and beams: where a door read, a lane read and a beam change go (R3 to R6), and the card (R12, R13). -/

namespace Sys2Proof.Machine

/-! ## The lane count in force (R174) -/

theorem State.laneCount_none {s : State} (h : s.dcu.bayState = none ∨ s.dcu.bayState = some .unconfigured) :
    s.laneCount = 0 := by
  obtain h | h := h <;> simp [State.laneCount, State.inState, State.reading, h]

theorem State.laneCount_configured {s : State} (h : s.dcu.bayState ≠ none)
    (h' : s.dcu.bayState ≠ some .unconfigured) : s.laneCount = s.scu.config.laneCount := by
  simp [State.laneCount, State.inState, State.reading, h, h']

/-! ## Reads made ready (R3) -/

theorem heightOfCode_full {n : Nat} (h : n = 0 ∨ 3 < n) : heightOfCode n = .full := by
  unfold heightOfCode
  split <;> simp_all

theorem normalScale_overload {kg : Nat} (h : kg = 0 ∨ 1500 < kg) : normalScale (.ok kg) = .overload := by
  have : validWeight kg = false := by
    obtain rfl | h := h
    · rfl
    · simp [validWeight, maxWeight, Nat.not_le.mpr h]
  simp [normalScale, this]

theorem normalScale_ok {kg : Nat} (h : 1 ≤ kg) (h' : kg ≤ 1500) : normalScale (.ok kg) = .ok kg := by
  simp [normalScale, validWeight, maxWeight, h, h']

/-! ## Door reads (R3, R5) -/

/-- R5: a read routed nowhere: SUSPENDED, or in a state that takes none. -/
theorem routeDoorRead_none {s : State} (r : DoorRead) (h : s.dcu.suspended = true ∨
    (s.dcu.bayState ≠ some .inbound ∧ s.dcu.bayState ≠ some .outbound ∧ s.dcu.bayState ≠ some .closing)) :
    routeDoorRead s r = none := by
  unfold routeDoorRead
  split
  · rfl
  · split <;> simp_all

theorem exec_doorRead_stray {s : State} {r : DoorRead} (hl : s.resetLine = false) (hr : s.reading = false)
    (h : r.pallet = 0 ∨ s.dcu.doorOpen.lastTaken = false ∨ routeDoorRead s r = none) :
    exec (.doorRead r) s = .next (s.handAll [.noticeRaise .strayRead]) := by
  rw [exec, execDoorRead, event_running hl]
  simp only [hr, Bool.false_eq_true, if_false]
  split
  · rfl
  · rename_i hn
    rw [not_or] at hn
    have hrt : routeDoorRead s r = none := (h.resolve_left hn.1).resolve_left hn.2
    rw [hrt]
    rfl

theorem exec_doorRead_routed {s : State} {r : DoorRead} {c : Instr} (hl : s.resetLine = false)
    (hr : s.reading = false) (hp : 1 ≤ r.pallet) (ho : s.dcu.doorOpen.lastTaken = true)
    (h : routeDoorRead s r = some c) : exec (.doorRead r) s = .next (s.handAll [c]) := by
  have hp : r.pallet ≠ 0 := by omega
  rw [exec, execDoorRead, event_running hl]
  simp only [hr, hp, ho, h, Bool.false_eq_true, Bool.true_eq_false, or_self, if_false]
  rfl

/-! ## Lane reads (R3, R6) -/

theorem exec_laneRead_stray {s : State} {r : LaneRead} (hl : s.resetLine = false) (hr : s.reading = false)
    (h : r.pallet = 0 ∨ r.lane = 0 ∨ s.laneCount < r.lane) :
    exec (.laneRead r) s = .next (s.handAll [.noticeRaise .strayRead]) := by
  rw [exec, execLaneRead, event_running hl]
  simp only [hr, h, Bool.false_eq_true, if_false, if_true]
  rfl

theorem exec_laneRead_passed {s : State} {r : LaneRead} (hl : s.resetLine = false) (hr : s.reading = false)
    (hp : 1 ≤ r.pallet) (hk : 1 ≤ r.lane) (hc : r.lane ≤ s.laneCount) :
    exec (.laneRead r) s = .next (s.handAll [.mluLaneRead (normalLaneRead r)]) := by
  have h : ¬ (r.pallet = 0 ∨ r.lane = 0 ∨ s.laneCount < r.lane) := by omega
  rw [exec, execLaneRead, event_running hl]
  simp only [hr, h, Bool.false_eq_true, if_false]
  rfl

/-! ## Beams (R6) -/

theorem isBeam_iff (lane : Nat) : isBeam lane = true ↔ 1 ≤ lane ∧ lane ≤ 4 := by
  simp [isBeam]

theorem beamOf_of_get {d : Dcu} {lane : Nat} {b : Beam} (h : d.beams[lane - 1]? = some b) : beamOf d lane = b := by
  simp [beamOf, h]

theorem exec_beam_none {lane : Nat} (s : State) (h : lane = 0 ∨ 4 < lane) :
    exec (.exitEvent lane) s = .next s ∧ exec (.beamInterrupted lane) s = .next s := by
  have hb : isBeam lane = false := by
    rw [Bool.eq_false_iff, Ne, isBeam_iff]
    omega
  simp [exec, execExitEvent, execBeamInterrupted, hb]

/-- A beam whose clearing is not taken: held, during the read, or clear when last taken. -/
theorem exec_exitEvent_not_taken {lane : Nat} {s : State} {b : Beam} (h1 : 1 ≤ lane) (h4 : lane ≤ 4)
    (hb : s.dcu.beams[lane - 1]? = some b) (h : s.resetLine = true ∨ s.reading = true ∨ b.lastTaken = false) :
    exec (.exitEvent lane) s = .next { s with dcu := { s.dcu with
      beams := s.dcu.beams.setIfInBounds (lane - 1) { b with current := false } } } := by
  have hc : (s.resetLine || s.reading || !(beamOf s.dcu lane).lastTaken) = true := by
    rw [beamOf_of_get hb]
    obtain h | h | h := h <;> simp [h]
  rw [exec, execExitEvent, (isBeam_iff lane).mpr ⟨h1, h4⟩, hc, beamOf_of_get hb]
  rfl

theorem exec_exitEvent_taken {lane : Nat} {s : State} {b : Beam} (hl : s.resetLine = false)
    (hr : s.reading = false) (h1 : 1 ≤ lane) (h4 : lane ≤ 4) (hb : s.dcu.beams[lane - 1]? = some b)
    (ht : b.lastTaken = true) :
    exec (.exitEvent lane) s = .next { s.handAll (if lane ≤ s.laneCount then [.mluExitEvent lane] else []) with
      dcu := { s.dcu with
        beams := s.dcu.beams.setIfInBounds (lane - 1) { current := false, lastTaken := false } } } := by
  rw [exec, execExitEvent, (isBeam_iff lane).mpr ⟨h1, h4⟩, hl, hr, beamOf_of_get hb, ht]
  by_cases hc : lane ≤ s.laneCount
  · simp [hc, Nat.not_lt.mpr hc, withBeam, State.setDcu, State.hand, State.handAll]
  · simp [hc, Nat.lt_of_not_le hc, withBeam, State.setDcu, State.handAll]

/-- Settles O29: each read and each beam change by the branch of its event that its hypotheses choose. -/
theorem readsAreRouted : Obligations.ReadsAreRouted := by
  refine ⟨fun lane s => ⟨?_, exec_beam_none s⟩, fun s => ⟨State.laneCount_none, State.laneCount_configured⟩,
    ?_, ?_, ?_, fun r s => exec_laneRead_stray, fun r s => exec_laneRead_passed, ?_, ?_, ?_, ?_⟩
  · intro hl hr h1 h4 hb
    obtain ⟨b, hb, ht⟩ := Option.map_eq_some_iff.mp hb
    rw [exec_exitEvent_not_taken h1 h4 hb (.inr (.inr ht)), ht]
  · intro r s hl hr h
    exact exec_doorRead_stray hl hr (h.imp id (.imp id fun h => routeDoorRead_none r h))
  · intro r s hl hp ho hs
    refine ⟨fun hb hd => ?_, fun hb hd => ?_, fun hb hd => ?_, fun hb hd => ?_⟩
    · exact exec_doorRead_routed hl (State.reading_of_eq hb) hp ho (by simp [routeDoorRead, hs, hb, hd])
    · exact exec_doorRead_routed hl (State.reading_of_eq hb) hp ho (by simp [routeDoorRead, hs, hb, hd])
    all_goals
      obtain hb | hb := hb <;>
        exact exec_doorRead_routed hl (State.reading_of_eq hb) hp ho (by simp [routeDoorRead, hs, hb, hd])
  · intro r
    refine ⟨rfl, rfl, rfl, fun h => congrArg heightOfCode h, fun h => congrArg heightOfCode h,
      fun h => congrArg heightOfCode h, heightOfCode_full, ?_, ?_, ?_⟩
    · rintro (h | h) <;> simp [normalDoorRead, normalScale, h]
    · intro kg h hk
      simp [normalDoorRead, h, normalScale_overload hk]
    · intro kg h h1 hk
      simp [normalDoorRead, h, normalScale_ok h1 hk]
  · intro r
    exact ⟨rfl, rfl, rfl, rfl, fun h => congrArg heightOfCode h, fun h => congrArg heightOfCode h,
      fun h => congrArg heightOfCode h, heightOfCode_full⟩
  · intro s hl hr
    refine ⟨fun r => ?_, fun r => ?_, fun r => ?_, fun lane b h1 h4 hb => ⟨?_, ?_⟩⟩
    · simp [exec, execDoorRead, event_running hl, hr]
    · simp [exec, execCardRead, event_running hl, hr]
    · simp [exec, execLaneRead, event_running hl, hr]
    · exact exec_exitEvent_not_taken h1 h4 hb (.inr (.inl hr))
    · rw [exec, execBeamInterrupted, (isBeam_iff lane).mpr ⟨h1, h4⟩, hr, Bool.or_true, beamOf_of_get hb]
      rfl
  · intro lane s hl hr h1 h4
    have hc : (s.resetLine || s.reading) = false := by simp [hl, hr]
    rw [exec, execBeamInterrupted, (isBeam_iff lane).mpr ⟨h1, h4⟩, hc]
    rfl
  · intro lane s hl hr h1 h4 hb
    obtain ⟨b, hb, ht⟩ := Option.map_eq_some_iff.mp hb
    exact exec_exitEvent_taken hl hr h1 h4 hb ht

/-! ## The card (R12, R13) -/

theorem cardFar_eq (r : CardRead) : cardFar r = if r.far = some 0 then none else r.far := by
  unfold cardFar
  split <;> simp_all

/-- R12: the cases in which a card is ill-filled. -/
theorem cardBad_iff (r : CardRead) : cardBad r = true ↔
    (3 < r.cls ∨ r.near = 0 ∨ 999 < r.near ∨
      ∃ f, r.far = some f ∧ f ≠ 0 ∧ (999 < f ∨ f = r.near ∨ r.farCut = none)) := by
  have near : (!validDest r.near) = true ↔ r.near = 0 ∨ 999 < r.near := by
    simp only [validDest, Bool.not_eq_true', Bool.and_eq_false_iff, decide_eq_false_iff_not]
    omega
  unfold cardBad
  rw [Bool.or_eq_true, Bool.or_eq_true, near, decide_eq_true_iff, cardFar_eq]
  cases hf : r.far with
  | none => simp
  | some f => by_cases h0 : f = 0 <;> simp [h0, or_assoc]

/-- R12: far-cut minutes stand in the binding only beside a far destination. -/
theorem bindingOf_farCut_none {r : CardRead} {now : Nat} (h : (bindingOf r now).far = none) :
    (bindingOf r now).farCut = none := by
  have h : cardFar r = none := h
  simp [bindingOf, clampedFarCut, cardFarCut, h]

/-- R13: far-cut minutes are clamped to the clamped cut-off minutes. -/
theorem bindingOf_farCut {r : CardRead} {now m : Nat} (h : (bindingOf r now).far ≠ none) (hm : r.farCut = some m) :
    (bindingOf r now).farCut = some (now + min m (min (max r.cutOff 10) 600) * 60) := by
  have h : (cardFar r).isSome = true := Option.isSome_iff_ne_none.mpr h
  simp [bindingOf, clampedFarCut, cardFarCut, h, hm, clampedCutOff]

/-- No far-cut beat lies behind now. -/
theorem bindingOf_farCut_le {r : CardRead} {now n : Nat} (h : (bindingOf r now).farCut = some n) : now ≤ n := by
  obtain ⟨m, -, rfl⟩ := Option.map_eq_some_iff.mp h
  exact Nat.le_add_right _ _

/-- R13: a new binding's phase is FAR just while its far-cut lies ahead. -/
theorem phaseAt_bindingOf (r : CardRead) (now : Nat) :
    phaseAt (bindingOf r now) now = .far ↔ ∃ m, (bindingOf r now).farCut = some m ∧ now < m := by
  rw [phaseAt_eq_far]
  refine ⟨And.right, fun h => ⟨fun hn => ?_, h⟩⟩
  obtain ⟨m, hm, -⟩ := h
  rw [bindingOf_farCut_none hn] at hm
  cases hm

@[simp] theorem State.farCutAtOnce_dcu (s : State) : s.farCutAtOnce.dcu = s.dcu := by
  unfold State.farCutAtOnce
  split <;> simp

@[simp] theorem State.farCutAtOnce_lpu (s : State) : s.farCutAtOnce.lpu = s.lpu := by
  unfold State.farCutAtOnce State.expireAtOnce
  split
  · split <;> rfl
  · rfl

/-- R7, R13: a far-cut set to now expires at once; none is set behind now. -/
theorem State.farCutAtOnce_handsOn {s u : State} {l : List Instr} (h : HandsOn s u l)
    (hf : ∀ n, u.dcu.farCut = some n → u.dcu.beat ≤ n) :
    HandsOnAtOnce s u.farCutAtOnce (decide (u.dcu.farCut = some u.dcu.beat)) .farCutExpiry l := by
  have h : u.handed = s.handed ++ l := h
  unfold HandsOnAtOnce State.farCutAtOnce
  cases hc : u.dcu.farCut with
  | none => simpa using h
  | some n =>
    have := hf n hc
    have he : n ≤ u.dcu.beat ↔ n = u.dcu.beat := by omega
    simp [he, h]

/-- The state in which a card's binding stands at the DCU and the LPU (R13). -/
def State.bound (s : State) (b : Binding) : State :=
  { s with
    dcu := { s.dcu with binding := some b, cutOff := some b.cutOff, farCut := b.farCut }
    lpu := { s.lpu with binding := some b, closing := none } }

theorem State.acceptCard_eq (s : State) (r : CardRead) : s.acceptCard r =
    (if r.arrivesLoaded then (s.bound (bindingOf r s.dcu.beat)).enter .inbound
      else ((s.bound (bindingOf r s.dcu.beat)).beginPlan (bindingOf r s.dcu.beat)).enter
        .outbound).farCutAtOnce := rfl

theorem exec_cardRead_docked {s : State} (r : CardRead) (hl : s.resetLine = false)
    (hb : s.dcu.bayState = some .docked) : exec (.cardRead r) s =
      .next (if cardBad r then (s.raiseNotice .cardRefused).indicate .dcu .refused none else s.acceptCard r) := by
  simp [exec, execCardRead, event_running hl, State.reading_of_eq hb, State.inState_of_eq hb]

/-- Settles O30: the refusals of R12, and of an accepted card the binding, the deadlines and what is handed on. -/
theorem cardsAreJudged : Obligations.CardsAreJudged := by
  refine ⟨fun r s hl hr hb => ?_, fun r s hl hb hbad => ?_, fun r s hl hb hc h1 h9 hf => ?_⟩
  · simp [exec, execCardRead, event_running hl, hr, State.inState, hb, State.raiseNotice, State.hand, State.handAll]
  · rw [exec_cardRead_docked r hl hb, (cardBad_iff r).mpr hbad]
    simp [State.raiseNotice, State.indicate, State.hand, State.handAll, State.own]
  · have hgood : cardBad r = false := by
      rw [Bool.eq_false_iff, Ne, cardBad_iff]
      rintro (h | h | h | ⟨f, h, h0, h'⟩)
      · omega
      · omega
      · omega
      · obtain ⟨a, b, c⟩ := hf f h h0
        obtain h' | h' | h' := h'
        · omega
        · exact b h'
        · exact c h'
    have hacc : exec (.cardRead r) s = .next (s.acceptCard r) := by
      rw [exec_cardRead_docked r hl hb, hgood]
      rfl
    refine ⟨_, bindingOf r s.dcu.beat, hacc, ?_, ?_, ?_, ?_, rfl, rfl, rfl, rfl, cardFar_eq r, rfl, rfl,
      bindingOf_farCut_none, fun m => bindingOf_farCut, ?_, ?_, fun ha => ?loaded, fun ha => ?empty⟩
    case loaded =>
      rw [State.acceptCard_eq, ha, if_pos rfl]
      refine ⟨by simp, by simp [State.bound], ?_⟩
      exact State.farCutAtOnce_handsOn (u := (s.bound _).enter .inbound) rfl fun n => bindingOf_farCut_le
    case empty =>
      rw [State.acceptCard_eq, ha, if_neg (by simp)]
      refine ⟨by simp, phaseAt (bindingOf r s.dcu.beat) s.dcu.beat, by simp [State.bound],
        phaseAt_bindingOf r s.dcu.beat, ?_⟩
      exact State.farCutAtOnce_handsOn (u := ((s.bound _).beginPlan _).enter .outbound)
        (by simp [HandsOn, State.bound, bindingOf]) fun n => bindingOf_farCut_le
    all_goals
      rw [State.acceptCard_eq]
      cases r.arrivesLoaded <;> simp [State.bound, State.enter, State.beginPlan]

end Sys2Proof.Machine
end

section
/-! PROOFS. The DCU's deadlines, the report of no reservation and DECLARE EMPTY (R8, R11, R15, R16, R163, R164). -/

namespace Sys2Proof.Machine

/-! ## Deadlines (R7) -/

theorem due_of_some {d : Option Nat} {now b : Nat} (h : d = some b) (hb : b ≤ now) : due d now = true := by
  simp [due, h, hb]

theorem due_of_ahead {d : Option Nat} {now : Nat} (h : ∀ b, d = some b → now < b) : due d now = false := by
  cases d with
  | none => rfl
  | some b => simpa [due] using h b rfl

/-! ## What each expiry answers, the reset line released

A deadline is judged on the state with its own hand-over taken off, which has the same DCU. -/

section
variable {s : State} (hl : s.resetLine = false)
include hl

theorem exec_joinDeadlineExpiry : exec .joinDeadlineExpiry s = .next
    (if s.inState .listen && due s.dcu.join s.dcu.beat then
      (((s.drop .joinDeadlineExpiry).setDcu { s.dcu with join := none }).placeFirstAdvert).enter
        (if bothDown s.dcu then .blocked else .empty)
    else s.drop .joinDeadlineExpiry) := taken_running hl

theorem exec_cutOffExpiry : exec .cutOffExpiry s = .next
    (if due s.dcu.cutOff s.dcu.beat then
      if s.inState .outbound then ((s.drop .cutOffExpiry).setDcu { s.dcu with cutOff := none }).enterClosing
      else (s.drop .cutOffExpiry).setDcu { s.dcu with cutOff := none }
    else s.drop .cutOffExpiry) := taken_running hl

theorem exec_farCutExpiry : exec .farCutExpiry s = .next
    (if due s.dcu.farCut s.dcu.beat then
      if s.inState .outbound && decide (s.dcu.phase = some .far) then
        ((s.drop .farCutExpiry).setDcu { s.dcu with farCut := none }).switchPhase
      else (s.drop .farCutExpiry).setDcu { s.dcu with farCut := none }
    else s.drop .farCutExpiry) := taken_running hl

theorem exec_levellerGraceExpiry : exec .levellerGraceExpiry s = .next
    (if due s.dcu.leveller s.dcu.beat then
      if s.dcu.suspended then
        ((s.drop .levellerGraceExpiry).setDcu { s.dcu with leveller := none }).graceUndock
      else (s.drop .levellerGraceExpiry).setDcu { s.dcu with leveller := none }
    else s.drop .levellerGraceExpiry) := taken_running hl

theorem exec_closingGraceExpiry : exec .closingGraceExpiry s = .next
    (if due s.dcu.closingGrace s.dcu.beat then
      if s.inState .closing then
        ((s.drop .closingGraceExpiry).setDcu { s.dcu with closingGrace := none }).enterClosed
      else (s.drop .closingGraceExpiry).setDcu { s.dcu with closingGrace := none }
    else s.drop .closingGraceExpiry) := taken_running hl

theorem exec_noReservationReport : exec .noReservationReport s = .next
    (if s.inState .closing then (s.drop .noReservationReport).enterClosed else s.drop .noReservationReport) :=
  taken_running hl

end

/-! ## The operations of the expiries -/

@[simp] theorem State.placeFirstAdvert_dcu (s : State) : s.placeFirstAdvert.dcu = s.dcu := by
  unfold State.placeFirstAdvert
  split <;> rfl

@[simp] theorem State.placeFirstAdvert_handed (s : State) : s.placeFirstAdvert.handed = s.handed := by
  unfold State.placeFirstAdvert
  split <;> rfl

/-- R37: in an empty queue that is not muted the first ADVERT stands alone, and no counter moves. -/
theorem State.placeFirstAdvert_empty {s : State} (ht : s.fbi.tx = []) (hm : s.fbi.mute = false) :
    s.placeFirstAdvert.fbi.tx = [.advert] ∧ s.placeFirstAdvert.fbi.debt = s.fbi.debt ∧
      s.placeFirstAdvert.fbi.restartMark = s.fbi.restartMark ∧ s.placeFirstAdvert.fbi.seq = s.fbi.seq := by
  have h : s.placeFirstAdvert =
      s.setFbi (awake { s.fbi with tx := advertAtHead s.fbi.inHand s.fbi.tx, owedAdvert := false }) := by
    simp [State.placeFirstAdvert, ht, hm, standsAdvert, txCapacity]
  rw [h, ht]
  unfold awake
  simp only [State.setFbi_fbi]
  split <;> exact ⟨rfl, rfl, rfl, rfl⟩

@[simp] theorem State.switchPhase_dcu (s : State) :
    s.switchPhase.dcu = { s.dcu with phase := some .near } := rfl

theorem State.switchPhase_lpu_of_opened {s : State} (h : s.plan.state = .opened) :
    s.switchPhase.lpu = { s.lpu with plan := { s.plan with phase := some .near } } := by
  have h : s.lpu.plan.state = .opened := h
  simp [State.switchPhase, h, State.plan]

/-- R16 to R18: what an undock by the leveller grace leaves, from INBOUND, OUTBOUND and CLOSING. -/
theorem State.graceUndock_inbound {s : State} (h : s.dcu.bayState = some .inbound) :
    s.graceUndock = s.depart.setReturnDue true := by
  rw [State.graceUndock, State.undock_of_inbound (.inl h)]

theorem State.graceUndock_outbound {s : State}
    (h : s.dcu.bayState = some .outbound ∨ s.dcu.bayState = some .closing) :
    s.graceUndock = s.abortUndock.setReturnDue true := by
  rw [State.graceUndock, State.undock_of_outbound h]

/-- An undock leaves no leveller grace where there is none. -/
theorem State.undock_leveller {s : State} (h : s.dcu.leveller = none) : s.undock.dcu.leveller = none := by
  unfold State.undock
  split <;> first | exact h | rfl

/-! ## DECLARE EMPTY (R11) -/

theorem exec_declareEmpty_ready {s : State} (h : s.ready = true) : exec .declareEmpty s = .next
    (if s.inState .blocked then
      (if s.dcu.levellerDown.lastTaken then s.enterDocked else s.enter .empty).answer .declareEmpty .ok .nothing
    else s.answer .declareEmpty .state .nothing) := by
  rw [exec, execDeclareEmpty, request_ready h]

/-- Settles O31: each expiry, report and request by the branch of its event that its hypotheses choose. -/
theorem bayDeadlinesAct : Obligations.BayDeadlinesAct := by
  refine ⟨fun s hl => ⟨?_, ?_, ?_, ?_, ?_, ?_, ?_⟩, ?_, ?_, ?_, ?_, ?_, ?_, ?_, ?_, ?_⟩
  · intro h
    have hc : (s.inState .listen && due s.dcu.join s.dcu.beat) = false := by
      obtain h | h := h
      · simp [State.inState, h]
      · simp [due_of_ahead h]
    rw [exec_joinDeadlineExpiry hl, hc]
    rfl
  · intro h
    rw [exec_cutOffExpiry hl, due_of_ahead h]
    rfl
  · intro h
    rw [exec_farCutExpiry hl, due_of_ahead h]
    rfl
  · intro h
    rw [exec_levellerGraceExpiry hl, due_of_ahead h]
    rfl
  · intro h
    rw [exec_closingGraceExpiry hl, due_of_ahead h]
    rfl
  · rintro hs ⟨b, hb, hd⟩
    rw [exec_levellerGraceExpiry hl, due_of_some hb hd, hs]
    rfl
  · rintro hs ⟨b, hb, hd⟩
    rw [exec_closingGraceExpiry hl, due_of_some hb hd, Bool.eq_false_iff.mpr (mt (s.inState_iff .closing).mp hs)]
    rfl
  · intro b s hl hs hb hd
    refine ⟨_, exec_joinDeadlineExpiry hl, ?_⟩
    rw [(s.inState_iff .listen).mpr hs, due_of_some hb hd]
    refine ⟨by simp, by simp [bothDown], by simp [HandsOn], fun ht hm => ?_⟩
    exact State.placeFirstAdvert_empty (s := (s.drop .joinDeadlineExpiry).setDcu _) ht hm
  · intro b s hl hb hd
    refine ⟨_, exec_cutOffExpiry hl, ?_⟩
    rw [due_of_some hb hd, if_pos rfl]
    refine ⟨by split <;> simp, fun hs => ?_, fun hs => ?_⟩
    · rw [(s.inState_iff .outbound).mpr hs, if_pos rfl]
      exact ⟨by simp, by simp, State.enterClosing_handed _⟩
    · rw [if_neg (mt (s.inState_iff .outbound).mp hs)]
      exact ⟨rfl, by simp [HandsOn]⟩
  · intro b s hl hb hd
    refine ⟨_, exec_farCutExpiry hl, ?_⟩
    rw [due_of_some hb hd, if_pos rfl]
    refine ⟨by split <;> simp, fun hs hp => ?_, fun h => ?_⟩
    · rw [(s.inState_iff .outbound).mpr hs, hp]
      exact ⟨rfl, fun ho => State.switchPhase_lpu_of_opened (s := (s.drop .farCutExpiry).setDcu _) ho⟩
    · have hc : (s.inState .outbound && decide (s.dcu.phase = some .far)) = false := by
        obtain h | h := h <;> simp [State.inState, h]
      rw [hc]
      exact ⟨rfl, rfl, by simp [HandsOn]⟩
  · intro b s hl hs hb hd
    refine ⟨_, exec_levellerGraceExpiry hl, ?_⟩
    rw [due_of_some hb hd, hs, if_pos rfl, if_pos rfl]
    refine ⟨State.undock_leveller rfl, rfl, fun h => ?_, fun h => ?_⟩
    · rw [State.graceUndock_inbound]
      · exact ⟨rfl, rfl, rfl, by simp [HandsOn]⟩
      · exact h
    · rw [State.graceUndock_outbound]
      · exact ⟨rfl, rfl, rfl, by simp [HandsOn]⟩
      · exact h
  · intro b s hl hs hb hd
    refine ⟨_, exec_closingGraceExpiry hl, ?_⟩
    rw [due_of_some hb hd, (s.inState_iff .closing).mpr hs]
    exact ⟨rfl, by simp [HandsOn]⟩
  · intro s hl hs
    refine ⟨_, exec_noReservationReport hl, ?_⟩
    rw [(s.inState_iff .closing).mpr hs]
    exact ⟨rfl, by simp [HandsOn]⟩
  · intro s hl hs
    rw [exec_noReservationReport hl, if_neg (mt (s.inState_iff .closing).mp hs)]
  · intro s h hs
    refine ⟨_, exec_declareEmpty_ready h, ?_⟩
    rw [(s.inState_iff .blocked).mpr hs]
    cases hv : s.dcu.levellerDown.lastTaken <;> cases hu : s.scu.sealed <;> simp [HandsOn, hu]
  · intro s h hs
    rw [exec_declareEmpty_ready h, if_neg (mt (s.inState_iff .blocked).mp hs)]

end Sys2Proof.Machine
end

section
/-! PROOFS. The beat: which expiries it hands out, by membership and by count (R7, R8). -/

namespace Sys2Proof.Machine

/-! ## The parts of what falls at a beat -/

theorem mem_fallsAt {beat : Nat} {d : Option Nat} {c e : Instr} :
    e ∈ fallsAt beat d c ↔ e = c ∧ d = some beat := by
  unfold fallsAt
  split <;> simp_all

theorem mem_dcuExpiries {s : State} {beat : Nat} {e : Instr} : e ∈ dcuExpiries s beat ↔
    e = .joinDeadlineExpiry ∧ s.dcu.join = some beat ∨ e = .cutOffExpiry ∧ s.dcu.cutOff = some beat ∨
    e = .farCutExpiry ∧ s.dcu.farCut = some beat ∨ e = .levellerGraceExpiry ∧ s.dcu.leveller = some beat ∨
    e = .closingGraceExpiry ∧ s.dcu.closingGrace = some beat := by
  simp [dcuExpiries, mem_fallsAt]

theorem mem_gduExpiries {s : State} {beat : Nat} {e : Instr} : e ∈ gduExpiries s beat ↔
    e = .dwellExpiry ∧ s.gdu.dwell = some beat ∨ e = .showExpiry ∧ s.gdu.showBy = some beat := by
  simp [gduExpiries, mem_fallsAt]

/-- The event is a deadline of some record that falls at the beat. -/
def RecordFalls (s : State) (beat : Nat) (e : Instr) : Prop :=
  ∃ i r, s.slotAt i = .record r ∧
    (e = .answerDeadlineExpiry r.pallet ∧ r.answerBy = some beat ∨
      e = .guardDeadlineExpiry r.pallet ∧ r.guardBy = some beat ∨
      e = .retryAfterExpiry r.pallet ∧ r.retryAt = some beat)

/-- The event is the expiry of some reservation that falls at the beat. -/
def ReservationFalls (s : State) (beat : Nat) (e : Instr) : Prop :=
  ∃ row sd r, .reserved r ∈ stackAt s.plan row sd ∧ e = .reservationExpiry r.pallet ∧ r.expiry = beat

/-- The event is the expiry of some put, or a deadline of some drain, that falls at the beat. -/
def LaneFalls (s : State) (beat : Nat) (e : Instr) : Prop :=
  ∃ x ∈ s.mlu.lanes, (∃ y ∈ x.puts, e = .putExpiry y.pallet ∧ y.expiry = beat) ∨
    ∃ d, x.drain = some d ∧
      (e = .drainRetryAfterExpiry x.number ∧ d.retryAt = some beat ∨
        e = .drainAnswerDeadlineExpiry x.number ∧ d.state = .asked ∧ d.deadline = some beat ∨
        e = .drainGuardDeadlineExpiry x.number ∧ (d.state = .granted ∨ d.state = .inTransit) ∧
          d.deadline = some beat)

/-- What stands in the table stands in one of its slots. -/
theorem State.mem_slots_record (s : State) (r : PalletRecord) :
    Slot.record r ∈ s.dsu.slots.toList ↔ ∃ i, s.slotAt i = .record r := by
  simp only [State.slotAt_record, List.mem_iff_getElem?, Vector.getElem?_toList]

theorem mem_slotExpiries {s : State} {beat : Nat} {e : Instr} :
    e ∈ s.dsu.slots.toList.flatMap (slotExpiries beat) ↔ RecordFalls s beat e := by
  have record (r : PalletRecord) : e ∈ recordExpiries beat r ↔
      (e = .answerDeadlineExpiry r.pallet ∧ r.answerBy = some beat ∨
        e = .guardDeadlineExpiry r.pallet ∧ r.guardBy = some beat ∨
        e = .retryAfterExpiry r.pallet ∧ r.retryAt = some beat) := by
    simp [recordExpiries, mem_fallsAt]
  rw [List.mem_flatMap]
  constructor
  · rintro ⟨v, hv, he⟩
    cases v with
    | free => cases he
    | lone o => cases he
    | record r =>
      obtain ⟨i, hi⟩ := (s.mem_slots_record r).mp hv
      exact ⟨i, r, hi, (record r).mp he⟩
  · rintro ⟨i, r, hi, he⟩
    exact ⟨.record r, (s.mem_slots_record r).mpr ⟨i, hi⟩, (record r).mpr he⟩

/-- Every stack of the plan stands at a position, and nothing else stands there. -/
theorem mem_stack_iff (p : Plan) (x : Tier) :
    (∃ st ∈ p.floorStacks.toList, x ∈ st) ↔ ∃ row sd, x ∈ stackAt p row sd := by
  constructor
  · rintro ⟨st, hst, hx⟩
    obtain ⟨j, hj⟩ := List.mem_iff_getElem?.mp hst
    rw [Vector.getElem?_toList] at hj
    refine ⟨j / 2 + 1, if j % 2 = 0 then .left else .right, ?_⟩
    have hi : stackIndex (j / 2 + 1) (if j % 2 = 0 then .left else .right) = j := by
      unfold stackIndex sideIndex
      split <;> split at * <;> simp_all <;> omega
    rw [stackAt, hi, hj]
    exact hx
  · rintro ⟨row, sd, hx⟩
    unfold stackAt at hx
    cases hs : p.floorStacks[stackIndex row sd]? with
    | none => simp [hs] at hx
    | some st =>
      rw [hs] at hx
      exact ⟨st, List.mem_iff_getElem?.mpr ⟨_, by rw [Vector.getElem?_toList]; exact hs⟩, hx⟩

theorem mem_planExpiries {s : State} {beat : Nat} {e : Instr} :
    e ∈ s.lpu.plan.floorStacks.toList.flatMap (fun st => st.flatMap (tierExpiries beat)) ↔
      ReservationFalls s beat e := by
  simp only [List.mem_flatMap]
  constructor
  · rintro ⟨st, hst, x, hx, he⟩
    cases x with
    | landed l => cases he
    | reserved r =>
      obtain ⟨row, sd, hp⟩ := (mem_stack_iff s.plan (.reserved r)).mp ⟨st, hst, hx⟩
      obtain ⟨he, hb⟩ := mem_fallsAt.mp he
      exact ⟨row, sd, r, hp, he, Option.some.inj hb⟩
  · rintro ⟨row, sd, r, hp, rfl, rfl⟩
    obtain ⟨st, hst, hx⟩ := (mem_stack_iff s.plan (.reserved r)).mpr ⟨row, sd, hp⟩
    exact ⟨st, hst, _, hx, mem_fallsAt.mpr ⟨rfl, rfl⟩⟩

theorem mem_drainExpiries {beat lane : Nat} {d : Drain} {e : Instr} : e ∈ drainExpiries beat lane d ↔
    e = .drainRetryAfterExpiry lane ∧ d.retryAt = some beat ∨
      e = .drainAnswerDeadlineExpiry lane ∧ d.state = .asked ∧ d.deadline = some beat ∨
      e = .drainGuardDeadlineExpiry lane ∧ (d.state = .granted ∨ d.state = .inTransit) ∧
        d.deadline = some beat := by
  unfold drainExpiries
  rw [List.mem_append, mem_fallsAt]
  cases d.state <;> simp [mem_fallsAt]

theorem mem_laneExpiries {s : State} {beat : Nat} {e : Instr} :
    e ∈ s.mlu.lanes.flatMap (laneExpiries beat) ↔ LaneFalls s beat e := by
  rw [List.mem_flatMap]
  refine exists_congr fun x => and_congr_right fun _ => ?_
  unfold laneExpiries
  rw [List.mem_append, List.mem_flatMap]
  refine or_congr (exists_congr fun y => by simp [mem_fallsAt]) ?_
  cases x.drain <;> simp [mem_drainExpiries]

theorem mem_tick {s : State} {beat : Nat} {e : Instr} :
    (e ∈ if ticksAt s beat then [Instr.advertTick] else []) ↔ e = .advertTick ∧ ticksAt s beat = true := by
  split <;> simp_all

/-- Everything that falls at a beat. -/
theorem mem_beatEvents {s : State} {beat : Nat} {e : Instr} : e ∈ beatEvents s beat ↔
    e ∈ dcuExpiries s beat ∨ RecordFalls s beat e ∨ ReservationFalls s beat e ∨ LaneFalls s beat e ∨
      e ∈ gduExpiries s beat ∨ e = .advertTick ∧ ticksAt s beat = true := by
  simp only [beatEvents, List.flatten_cons, List.flatten_nil, List.append_nil, List.mem_append, mem_slotExpiries,
    mem_planExpiries, mem_laneExpiries, mem_tick]

/-! ## The deadlines of which there is one, and the tick -/

/-- The events of the deadlines that the bay has one of, and the tick. -/
def soleEvents : List Instr :=
  [.cutOffExpiry, .farCutExpiry, .joinDeadlineExpiry, .levellerGraceExpiry, .closingGraceExpiry, .dwellExpiry,
    .showExpiry, .advertTick]

theorem not_falls_of_sole {s : State} {beat : Nat} {e : Instr} (h : e ∈ soleEvents) :
    ¬ RecordFalls s beat e ∧ ¬ ReservationFalls s beat e ∧ ¬ LaneFalls s beat e := by
  simp only [soleEvents, List.mem_cons, List.not_mem_nil, or_false] at h
  obtain rfl | rfl | rfl | rfl | rfl | rfl | rfl | rfl := h <;>
    simp [RecordFalls, ReservationFalls, LaneFalls]

theorem mem_beatEvents_sole {s : State} {beat : Nat} {e : Instr} (h : e ∈ soleEvents) : e ∈ beatEvents s beat ↔
    e ∈ dcuExpiries s beat ∨ e ∈ gduExpiries s beat ∨ e = .advertTick ∧ ticksAt s beat = true := by
  obtain ⟨h1, h2, h3⟩ := not_falls_of_sole (s := s) (beat := beat) h
  simp [mem_beatEvents, h1, h2, h3]

theorem count_fallsAt_le (beat : Nat) (d : Option Nat) (c e : Instr) :
    (fallsAt beat d c).count e ≤ if c = e then 1 else 0 := by
  unfold fallsAt
  split
  · simp [List.count_singleton]
  · simp

theorem count_sole_le {s : State} {beat : Nat} {e : Instr} (h : e ∈ soleEvents) :
    (beatEvents s beat).count e ≤ 1 := by
  obtain ⟨h1, h2, h3⟩ := not_falls_of_sole (s := s) (beat := beat) h
  have z1 := List.count_eq_zero.mpr (mt mem_slotExpiries.mp h1)
  have z2 := List.count_eq_zero.mpr (mt mem_planExpiries.mp h2)
  have z3 := List.count_eq_zero.mpr (mt mem_laneExpiries.mp h3)
  have hj := count_fallsAt_le beat s.dcu.join .joinDeadlineExpiry e
  have hc := count_fallsAt_le beat s.dcu.cutOff .cutOffExpiry e
  have hf := count_fallsAt_le beat s.dcu.farCut .farCutExpiry e
  have hl := count_fallsAt_le beat s.dcu.leveller .levellerGraceExpiry e
  have hg := count_fallsAt_le beat s.dcu.closingGrace .closingGraceExpiry e
  have hd := count_fallsAt_le beat s.gdu.dwell .dwellExpiry e
  have hs := count_fallsAt_le beat s.gdu.showBy .showExpiry e
  have ht : (if ticksAt s beat then [Instr.advertTick] else []).count e ≤ if .advertTick = e then 1 else 0 := by
    split <;> simp [List.count_singleton]
  simp only [beatEvents, dcuExpiries, gduExpiries, List.flatten_cons, List.flatten_nil, List.append_nil,
    List.count_append, z1, z2, z3]
  simp only [soleEvents, List.mem_cons, List.not_mem_nil, or_false] at h
  obtain rfl | rfl | rfl | rfl | rfl | rfl | rfl | rfl := h <;>
    simp only [reduceCtorEq, if_true, if_false] at hj hc hf hl hg hd hs ht <;> omega

/-- R7, R8: a tick falls at a multiple of the advert period once the read has ended; no beat after another is 0. -/
theorem ticksAt_succ (s : State) (n : Nat) :
    ticksAt s (n + 1) = true ↔ s.reading = false ∧ (n + 1) % s.advertPeriod = 0 := by
  simp [ticksAt]

theorem exec_beat {s : State} (h : s.resetLine = false) (hb : s.dcu.beat < 4294967295) : exec .beat s =
    .next { s.handAll (beatEvents s (s.dcu.beat + 1)) with dcu := { s.dcu with beat := s.dcu.beat + 1 } } := by
  rw [exec, execBeat, event_running h, if_pos (show s.dcu.beat < maxBeat from hb)]
  rfl

theorem exec_beat_greatest {s : State} (hb : 4294967295 ≤ s.dcu.beat) : exec .beat s = .next s := by
  have h : ¬ s.dcu.beat < maxBeat := Nat.not_lt.mpr hb
  simp [exec, execBeat, event, h]

theorem exec_advertTick {s : State} (h : s.resetLine = false) : exec .advertTick s =
    .next (if s.reading then s.drop .advertTick
      else (s.drop .advertTick).handAll [.advertDebtRise, .agingEvent, .drainTick]) := by
  rw [exec, execAdvertTick, taken_running h]
  rfl

/-- Settles O26: what a beat hands on, read off block by block. -/
theorem beatAdvancesTheCounter : Obligations.BeatAdvancesTheCounter := by
  refine ⟨fun s hl hr => ?_, fun s => ⟨fun h => ?_, fun h => ?_⟩, fun s hl hb => ?_, fun s => exec_beat_greatest,
    fun s hl hr => ?_⟩
  · rw [exec_advertTick hl, hr]
    rfl
  · simp [State.advertPeriod, State.inState, h]
  · simp [State.advertPeriod, State.inState, h]
  · have record {e : Instr} (h : RecordFalls s (s.dcu.beat + 1) e) := mem_beatEvents.mpr (.inr (.inl h))
    have lane {e : Instr} (h : LaneFalls s (s.dcu.beat + 1) e) := mem_beatEvents.mpr (.inr (.inr (.inr (.inl h))))
    refine ⟨_, exec_beat hl hb, ?_, ?_, ?_, ?_, ?_, ?_, ?_,
      fun i r hi hd => record ⟨i, r, hi, .inl ⟨rfl, hd⟩⟩,
      fun i r hi hd => record ⟨i, r, hi, .inr (.inl ⟨rfl, hd⟩)⟩,
      fun i r hi hd => record ⟨i, r, hi, .inr (.inr ⟨rfl, hd⟩)⟩,
      fun row sd r hp he => mem_beatEvents.mpr (.inr (.inr (.inl ⟨row, sd, r, hp, rfl, he⟩))),
      fun x hx y hy he => lane ⟨x, hx, .inl ⟨y, hy, rfl, he⟩⟩,
      fun x hx d hd => ⟨fun h => lane ⟨x, hx, .inr ⟨d, hd, .inl ⟨rfl, h⟩⟩⟩,
        fun h h' => lane ⟨x, hx, .inr ⟨d, hd, .inr (.inl ⟨rfl, h, h'⟩)⟩⟩,
        fun h h' => lane ⟨x, hx, .inr ⟨d, hd, .inr (.inr ⟨rfl, h, h'⟩)⟩⟩⟩,
      fun e he => count_sole_le he, fun e he => ?nothingElse, ?_⟩
    case nothingElse =>
      obtain h | h | h | h | h | ⟨rfl, -⟩ := mem_beatEvents.mp he
      · obtain ⟨rfl, -⟩ | ⟨rfl, -⟩ | ⟨rfl, -⟩ | ⟨rfl, -⟩ | ⟨rfl, -⟩ := mem_dcuExpiries.mp h <;> exact .inl (by simp)
      · exact .inr (.inl h)
      · exact .inr (.inr (.inl h))
      · exact .inr (.inr (.inr h))
      · obtain ⟨rfl, -⟩ | ⟨rfl, -⟩ := mem_gduExpiries.mp h <;> exact .inl (by simp)
      · exact .inl (by simp)
    all_goals
      refine (mem_beatEvents_sole (by simp [soleEvents])).trans ?_
      simp [mem_dcuExpiries, mem_gduExpiries, ticksAt_succ]
  · rw [exec_advertTick hl, hr]
    rfl

end Sys2Proof.Machine
end

section
/-! PROOFS. The state after power-on reset, after a floor reset and after the power-on read (R8, R19, R179). -/

namespace Sys2Proof.Machine

/-! ## The reset values read (R41, R59, R159, R182) -/

theorem entryAt_resetPdr (i : Nat) : entryAt resetPdr i = none := by
  by_cases h : i < 128 <;> simp [entryAt, resetPdr, h]

theorem slotOf_resetPdr (b : Nat) : slotOf resetPdr b = none := by
  by_cases h : b - 1 < 63 <;> simp [slotOf, resetPdr, h]

theorem State.slotAt_of_resetDsu {s : State} (h : s.dsu = resetDsu) (i : Nat) : s.slotAt i = .free := by
  by_cases hi : i < 8 <;> simp [State.slotAt, h, resetDsu, hi]

theorem channelPattern_dark (own k : Nat) : channelPattern false (indicationOf own .dark) k = .off := by
  unfold channelPattern
  split <;> rfl

theorem mem_resetGdu_channels {x : Channel} (h : x ∈ resetGdu.channels.toList) : x = resetChannel := by
  simpa [resetGdu] using h

theorem pendingFlag_of_none {u : Scu} (h : u.pending = Vector.replicate 19 false) (k : NoticeKind) :
    pendingFlag u k = false := by
  rw [pendingFlag, h]
  cases k <;> rfl

theorem lanesFor_nil (n : Nat) :
    lanesFor [] n = (laneNumbers.filter fun k => decide (k ≤ n)).map suspectLane := rfl

/-! ## Either reset -/

/-- What either reset leaves of a state whose DCU was `d`: every block as its table says, the DCU with its inputs last taken at their
present values, the SCU with some record and seal, and the lanes present SUSPECT. -/
structure AsReset (d : Dcu) (t : State) : Prop where
  dcu : ∃ st j, t.dcu = { dcuAfterReset d st with join := j }
  fbi : t.fbi = resetFbi
  pdr : t.pdr = resetPdr
  dsu : t.dsu = resetDsu
  lpu : t.lpu = resetLpu
  owed : t.mlu.owed = []
  lanes : ∀ l ∈ t.mlu.lanes, l = suspectLane l.number
  gdu : t.gdu = resetGdu
  scu : ∃ c b p, t.scu = { resetScu with config := c, sealed := b, fromPlug := p }

/-- The state that power-on reset answers. -/
def State.poweredOn (s : State) : State := (s.blocksReset none).setScu resetScu

theorem State.poweredOn_asReset (s : State) : AsReset s.dcu s.poweredOn where
  dcu := ⟨none, none, rfl⟩
  fbi := rfl
  pdr := rfl
  dsu := rfl
  lpu := rfl
  owed := rfl
  lanes := fun _ h => nomatch h
  gdu := rfl
  scu := ⟨_, _, _, rfl⟩

/-- A floor reset leaves the bay state to the read, or the bay UNCONFIGURED, or enters LISTEN. -/
theorem State.floorReset_reading {s : State} (h : s.dcu.bayState = none) : s.floorReset =
    ((s.blocksReset none).setScu (scuAfterFloorReset s.scu)).handAll (sealRequests s.handed) := by
  simp [State.floorReset, h]

theorem State.floorReset_unconfigured {s : State} (h : s.dcu.bayState = some .unconfigured) : s.floorReset =
    (((s.blocksReset (some .unconfigured)).setScu (scuAfterFloorReset s.scu)).handAll
      (sealRequests s.handed)).hand .bayStateChange := by
  simp [State.floorReset, h]

theorem State.floorReset_configured {s : State} {st : BayState} (h : s.dcu.bayState = some st)
    (hu : st ≠ .unconfigured) : s.floorReset =
    (((s.blocksReset (some st)).setScu (scuAfterFloorReset s.scu)).handAll
      (sealRequests s.handed)).enterListen := by
  unfold State.floorReset
  cases st <;> simp_all

theorem lanesFor_nil_suspect (n : Nat) : ∀ l ∈ lanesFor [] n, l = suspectLane l.number := by
  intro l hl
  rw [lanesFor_nil, List.mem_map] at hl
  obtain ⟨k, -, rfl⟩ := hl
  rfl

theorem State.floorReset_asReset (s : State) : AsReset s.dcu s.floorReset := by
  cases h : s.dcu.bayState with
  | none =>
    rw [State.floorReset_reading h]
    exact ⟨⟨_, none, rfl⟩, rfl, rfl, rfl, rfl, rfl, (fun _ h => nomatch h), rfl, ⟨_, _, _, rfl⟩⟩
  | some st =>
    by_cases hu : st = .unconfigured
    · subst hu
      rw [State.floorReset_unconfigured h]
      exact ⟨⟨_, none, rfl⟩, rfl, rfl, rfl, rfl, rfl, (fun _ h => nomatch h), rfl, ⟨_, _, _, rfl⟩⟩
    · rw [State.floorReset_configured h hu]
      exact ⟨⟨some .listen, _, rfl⟩, rfl, rfl, rfl, rfl, rfl, lanesFor_nil_suspect _, rfl, ⟨_, _, _, rfl⟩⟩

theorem exec_powerOnReset (s : State) : exec .powerOnReset s = .next s.poweredOn := rfl

/-- The state with the reset line released. -/
def State.released (s : State) : State := { s with resetLine := false }

theorem State.released_of {s : State} (h : s.resetLine = false) : s.released = s := by
  rw [State.released, ← h]

/-- Each event that takes a floor reset takes it with the reset line released. -/
theorem exec_floorReset_taken {c : Instr} {s : State} (h : takesFloorReset c s = true) :
    exec c s = .next s.released.floorReset := by
  cases c <;> simp only [takesFloorReset, Bool.false_eq_true] at h
  case resetLineReleased => simp [exec, execResetLineReleased, h, State.released]
  case floorResetTaken =>
    have hl : s.resetLine = false := by simpa using h
    rw [exec, execFloorResetTaken, event_running hl, State.released_of hl]
  case serviceAnswerSent =>
    rw [Bool.and_eq_true, Bool.not_eq_true'] at h
    obtain ⟨hl, ha⟩ := h
    rw [exec, execServiceAnswerSent, event_running hl, State.released_of hl]
    unfold answersFloorReset at ha
    cases hq : s.scu.answer with
    | none => simp [hq] at ha
    | some a => simp_all

theorem exec_anyReset {c : Instr} {s : State} (h : takesAnyReset c s = true) :
    ∃ t, exec c s = .next t ∧ AsReset s.dcu t ∧ (c = .powerOnReset → t = s.poweredOn) ∧
      (c ≠ .powerOnReset → t = s.released.floorReset) := by
  by_cases hc : c = .powerOnReset
  · subst hc
    exact ⟨_, exec_powerOnReset s, s.poweredOn_asReset, fun _ => rfl, fun hn => absurd rfl hn⟩
  · have hf : takesFloorReset c s = true := by simpa [takesAnyReset, hc] using h
    exact ⟨_, exec_floorReset_taken hf, s.released.floorReset_asReset,
      fun he => absurd he hc, fun _ => rfl⟩

/-! ## The DCU after a reset (R19) -/

theorem lineOf_dcuAfterReset (d : Dcu) (st : Option BayState) (j : Option Nat) (line : Line) :
    lineOf { dcuAfterReset d st with join := j } line =
      { current := (lineOf d line).current, lastTaken := (lineOf d line).current, changed := false } := by
  cases line <;> rfl

/-! ## What follows a floor reset taken once the read has ended -/

/-- The bay state a floor reset leaves: UNCONFIGURED stays, and any other state gives LISTEN (R19, R179). -/
theorem State.floorReset_bay {s : State} (h : s.reading = false) :
    s.floorReset.dcu.bayState = (if s.inState .unconfigured then some .unconfigured else some .listen) ∧
      .bayStateChange ∈ s.floorReset.handed := by
  cases hb : s.dcu.bayState with
  | none => simp [State.reading, hb] at h
  | some st =>
    rw [State.inState_of_eq hb]
    by_cases hu : st = .unconfigured
    · subst hu
      rw [State.floorReset_unconfigured hb]
      exact ⟨rfl, by simp⟩
    · rw [State.floorReset_configured hb hu]
      simp [hu, State.enterListen]

/-- In LISTEN the join deadline is set and the record's lanes are present (R8, R146). -/
theorem State.floorReset_listen {s : State} (h : s.reading = false) (hu : s.inState .unconfigured = false) :
    s.floorReset.dcu.join = some (2 * s.scu.config.advertPeriod) ∧
      s.floorReset.mlu.lanes = lanesFor [] s.scu.config.laneCount := by
  cases hb : s.dcu.bayState with
  | none => simp [State.reading, hb] at h
  | some st =>
    have hu : st ≠ .unconfigured := by simpa [State.inState, hb] using hu
    rw [State.floorReset_configured hb hu]
    exact ⟨congrArg some (Nat.zero_add _), rfl⟩

theorem State.floorReset_scu (s : State) : s.floorReset.scu = scuAfterFloorReset s.scu := by
  unfold State.floorReset
  split <;> rfl

theorem State.floorReset_resetLine (s : State) : s.floorReset.resetLine = s.resetLine := by
  unfold State.floorReset
  split <;> rfl

/-- A commit makes its indication current; the channels alone follow it. -/
theorem State.commit_current (s : State) (ind : Indication) (r : Option IndicationRequest) :
    (s.commit ind r).gdu.current = ind := by
  suffices ∀ (l : List Nat) (u : State), (l.foldl State.driveChannel u).gdu.current = u.gdu.current from this _ _
  intro l
  induction l with
  | nil => exact fun _ => rfl
  | cons k l ih => exact fun u => ih (u.driveChannel k)

/-- The GDU takes the bay state that a reset leaves as HOLDING (R151). -/
theorem exec_bayStateChange_holding {s : State} (hl : s.resetLine = false) (hr : s.gdu.request = none)
    (hb : s.dcu.bayState = some .listen ∨ s.dcu.bayState = some .unconfigured) :
    ∃ u, exec .bayStateChange s = .next u ∧ u.gdu.current = indicationOf s.own .holding := by
  have hi : idleIndication s.dcu.bayState s.dcu.suspended = .holding := by
    obtain hb | hb := hb <;> rw [hb] <;> rfl
  refine ⟨(s.drop .bayStateChange).commitIdle, ?_, ?_⟩
  · rw [exec, execBayStateChange, taken_running hl]
    simp [hr]
  · rw [State.commitIdle, State.commit_current]
    exact congrArg _ hi

/-! ## The power-on read (R8, R9) -/

theorem lineOf_takenNow (d : Dcu) (line : Line) :
    (lineOf (takenNow d) line).lastTaken = (lineOf d line).current := by
  cases line <;> rfl

/-- Settles O20: both resets by their common shape, then what a floor reset keeps, then the read. -/
theorem blocksAfterReset : Obligations.BlocksAfterReset := by
  refine ⟨fun st s => ⟨s.inState_iff st, s.reading_iff⟩, fun c s h => ?_, fun c s h => ?_, fun image s h => ?_⟩
  · obtain ⟨t, ht, has, hp, hf⟩ := exec_anyReset h
    obtain ⟨st, j, hd⟩ := has.dcu
    refine ⟨t, ht, by rw [hd]; rfl, by rw [hd]; rfl, by rw [hd]; rfl, by rw [hd]; rfl, by rw [hd]; rfl,
      by rw [hd]; rfl, by rw [hd]; rfl, by rw [hd]; rfl, fun line => by rw [hd, lineOf_dcuAfterReset],
      by rw [has.lpu]; rfl, by rw [has.fbi]; rfl, fun hc => by rw [hp hc]; rfl, fun hc hr => ?_⟩
    refine ⟨by rw [hf hc]; exact (State.floorReset_bay (s := s.released) hr).1,
      fun hu => by rw [hf hc]; exact (State.floorReset_listen (s := s.released) hr hu).1,
      fun line => by rw [hd, lineOf_dcuAfterReset]; exact ⟨rfl, rfl⟩, by rw [hd]; rfl⟩
  · obtain ⟨t, ht, has, hp, hf⟩ := exec_anyReset h
    obtain ⟨c', b, p, hs⟩ := has.scu
    refine ⟨t, ht, fun i => by rw [has.pdr, entryAt_resetPdr], fun b => by rw [has.pdr, slotOf_resetPdr],
      State.slotAt_of_resetDsu has.dsu, by rw [has.dsu]; rfl, fun n hn => by simp [has.dsu, resetDsu, hn],
      has.owed, fun l hl => ?_, by rw [has.gdu]; rfl, by rw [has.gdu]; rfl, by rw [has.gdu]; rfl,
      by rw [has.gdu]; rfl, by rw [has.gdu]; rfl, by rw [has.gdu]; rfl, by rw [has.gdu]; rfl, by rw [has.gdu]; rfl,
      fun k => by rw [has.gdu]; exact channelPattern_dark 0 k, fun x hx => ?_,
      pendingFlag_of_none (by rw [hs]; rfl), by rw [hs]; rfl, by rw [hs]; rfl, by rw [hs]; rfl,
      fun hc => by rw [hp hc]; exact ⟨rfl, rfl⟩, fun hc => ?_⟩
    · have e := has.lanes l hl
      exact ⟨e, by rw [e]; exact ⟨rfl, rfl, rfl, rfl, rfl, rfl, rfl, rfl⟩⟩
    · rw [has.gdu] at hx
      rw [mem_resetGdu_channels hx]
      exact ⟨rfl, rfl, rfl⟩
    · rw [hf hc] at has ⊢
      have hscu := s.released.floorReset_scu
      refine ⟨by rw [hscu]; rfl, by rw [hscu]; rfl, fun hr => ?_, fun hr hu => ?_⟩
      · obtain ⟨hb, hh⟩ := State.floorReset_bay (s := s.released) hr
        refine ⟨hh, ?_⟩
        have hown : s.released.floorReset.own = s.own := by
          rw [State.own, hscu]
          rfl
        rw [← hown]
        refine exec_bayStateChange_holding (State.floorReset_resetLine _) (by rw [has.gdu]; rfl) ?_
        rw [hb]
        split
        · exact .inr rfl
        · exact .inl rfl
      · exact (State.floorReset_listen (s := s.released) hr hu).2
  · refine ⟨s.afterRead (readPlug image), by simp [exec, execConfigurationReadEnd, h], ?_, ?_, ?_⟩
    all_goals unfold State.afterRead; dsimp only; split
    · exact .inr rfl
    · exact .inl ⟨rfl, rfl⟩
    · exact lineOf_takenNow s.dcu
    · exact lineOf_takenNow s.dcu
    · rfl
    · rfl

end Sys2Proof.Machine
end

section
/-! PROOFS. What the FBI keeps under every step: blocks' frames offered to the transmit queue, and the FBI's own
events. -/

namespace Sys2Proof.Machine

/-! ## Operations that leave the FBI -/

/-- Every part of the state but one. -/
def allBut (x y : Part) : Bool := decide (y.ctorIdx ≠ x.ctorIdx)

@[simp] theorem allBut_fbi_dsu : allBut .fbi .dsu = true := by decide
@[simp] theorem allBut_fbi_lpu : allBut .fbi .lpu = true := by decide
@[simp] theorem allBut_fbi_mlu : allBut .fbi .mlu = true := by decide

theorem Only.fbi_eq {s t : State} (h : Only (allBut .fbi) s t) : t.fbi = s.fbi := h .fbi rfl

section
variable (s : State)

@[simp] theorem State.raiseIf_fbi (b : Bool) (k : NoticeKind) : (s.raiseIf b k).fbi = s.fbi :=
  Only.fbi_eq (by simp)

@[simp] theorem State.dsuOwe_fbi (o : OwedRelease) : (s.dsuOwe o).fbi = s.fbi :=
  Only.fbi_eq (by simp)

@[simp] theorem State.lpuOwe_fbi (f : OwnedFrame) : (s.lpuOwe f).fbi = s.fbi :=
  Only.fbi_eq (by simp)

@[simp] theorem State.lpuOweClose_fbi (f : OwnedFrame) : (s.lpuOweClose f).fbi = s.fbi :=
  Only.fbi_eq (by simp)

@[simp] theorem State.mluOwe_fbi (f : OwnedFrame) : (s.mluOwe f).fbi = s.fbi :=
  Only.fbi_eq (by simp)

@[simp] theorem State.freeRecord_fbi (i : Nat) (r : PalletRecord) : (s.freeRecord i r).fbi = s.fbi := rfl

@[simp] theorem State.freeWithSelfCancel_fbi (i : Nat) (r : PalletRecord) :
    (s.freeWithSelfCancel i r).fbi = s.fbi := rfl

@[simp] theorem State.showRecord_fbi (i : Nat) (r : PalletRecord) (n : IndicationName) :
    (s.showRecord i r n).fbi = s.fbi := rfl

@[simp] theorem State.searchAt_fbi (i : Nat) (r : PalletRecord) (st : Option SearchStep) :
    (s.searchAt i r st).fbi = s.fbi := by
  cases st <;> rfl

@[simp] theorem State.askUnanswered_fbi (i : Nat) (r : PalletRecord) : (s.askUnanswered i r).fbi = s.fbi :=
  Only.fbi_eq (by simp)

@[simp] theorem State.storePlan_fbi (p : Plan) : (s.storePlan p).fbi = s.fbi := by simp [State.storePlan]

@[simp] theorem State.reportIfEmpty_fbi : s.reportIfEmpty.fbi = s.fbi := Only.fbi_eq (by simp)

@[simp] theorem State.mismatchRead_fbi : s.mismatchRead.fbi = s.fbi := rfl

@[simp] theorem State.refuseWalkin_fbi : s.refuseWalkin.fbi = s.fbi := rfl

@[simp] theorem State.judgeLane_fbi (k : Nat) : (s.judgeLane k).fbi = s.fbi := (s.judgeLane_only k).fbi

@[simp] theorem State.mluEnd_fbi : s.mluEnd.fbi = s.fbi := s.mluEnd_only.fbi

@[simp] theorem State.drainSearchAgain_fbi (k : Nat) : (s.drainSearchAgain k).fbi = s.fbi :=
  Only.fbi_eq (by simp)

@[simp] theorem State.clearDrain_fbi (k : Nat) : (s.clearDrain k).fbi = s.fbi :=
  Only.fbi_eq (by simp)

@[simp] theorem State.removePut_fbi (k pallet : Nat) : (s.removePut k pallet).fbi = s.fbi :=
  Only.fbi_eq (by simp)

@[simp] theorem State.addPut_fbi (k dest : Nat) (x : Put) : (s.addPut k dest x).fbi = s.fbi :=
  Only.fbi_eq (by simp)

@[simp] theorem State.dropHead_fbi (k pallet : Nat) : (s.dropHead k pallet).fbi = s.fbi := rfl

@[simp] theorem State.grantDrain_fbi (k bay : Nat) (x : Place) (n : Nat) : (s.grantDrain k bay x n).fbi = s.fbi :=
  rfl

@[simp] theorem State.mluGrantFailed_fbi (b : GrantBody) : (s.mluGrantFailed b).fbi = s.fbi :=
  Only.fbi_eq (by simp)

@[simp] theorem State.dsuAskFailed_fbi (a : AskBody) : (s.dsuAskFailed a).fbi = s.fbi :=
  Only.fbi_eq (only_onRecord _ _ fun i r => by split <;> simp)

@[simp] theorem State.mluAskFailed_fbi (a : AskBody) : (s.mluAskFailed a).fbi = s.fbi := by
  unfold State.mluAskFailed
  split <;> simp

@[simp] theorem State.askFailed_fbi (o : Owner) (a : AskBody) : (s.askFailed o a).fbi = s.fbi := by
  cases o <;> simp [State.askFailed]

@[simp] theorem State.oweAgain_fbi (f : OwnedFrame) : (s.oweAgain f).fbi = s.fbi := by
  unfold State.oweAgain
  repeat' split
  all_goals simp

@[simp] theorem State.noLongerOwed_fbi (f : OwnedFrame) : (s.noLongerOwed f).fbi = s.fbi := by
  unfold State.noLongerOwed
  cases f.owner <;> rfl

@[simp] theorem State.noteAsk_fbi (b : Body) : (s.noteAsk b).fbi = s.fbi := by
  cases b <;> rfl

@[simp] theorem State.enter_fbi (st : BayState) : (s.enter st).fbi = s.fbi := rfl

end

/-! ## Blocks' frames placed (R32) -/

/-- A block's frame at the tail of the queue, and the transmitter put in DEFER (R20). -/
def framePlaced (f : Fbi) (x : OwnedFrame) : Fbi :=
  { f with
    tx := f.tx ++ [.owned x]
    transmitter := if f.transmitter = .idle then .deferring else f.transmitter }

@[simp] theorem State.placeFrame_fbi (s : State) (x : OwnedFrame) :
    (s.placeFrame (.owned x)).fbi = framePlaced s.fbi x := rfl

/-- A frame is placed only in a free place of a queue that is not muted. -/
theorem State.offerResult_placed {s : State} (h : s.offerResult = .placed) :
    s.fbi.mute = false ∧ s.fbi.tx.length < 12 := by
  unfold State.offerResult at h
  split at h
  · cases h
  · split at h
    · cases h
    · rename_i hm hr
      simp only [Bool.or_eq_true, decide_eq_true_eq, not_or] at hr
      exact ⟨by simpa using hm, Nat.lt_of_not_le hr.2⟩

/-- A property of the FBI that a block's frame, placed in a free place, neither gives nor takes. -/
def OfferStable (I : Fbi → Prop) : Prop :=
  ∀ (f : Fbi) (x : OwnedFrame), f.mute = false → f.tx.length < 12 → (I (framePlaced f x) ↔ I f)

/-- The FBI has a property; the name under which `simp` follows the property through a chain of operations. -/
def Meets (I : Fbi → Prop) (f : Fbi) : Prop := I f

section
variable {I : Fbi → Prop} (hI : OfferStable I) (s : State)
include hI

theorem meets_framePlaced (h : s.offerResult = .placed) (x : OwnedFrame) :
    Meets I (framePlaced s.fbi x) ↔ Meets I s.fbi := by
  obtain ⟨hm, hl⟩ := State.offerResult_placed h
  exact hI s.fbi x hm hl

@[simp] theorem meets_offerAnswer (o : Owner) (n : Nat) (b : Body) :
    Meets I (s.offerAnswer o n b).fbi ↔ Meets I s.fbi := by
  obtain ⟨h, e⟩ | ⟨-, e⟩ := s.offerAnswer_cases o n b <;> rw [e]
  exact meets_framePlaced hI s h _

@[simp] theorem meets_lpuOffer (n : Nat) (b : Body) : Meets I (s.lpuOffer n b).fbi ↔ Meets I s.fbi := by
  obtain ⟨h, e⟩ | ⟨-, e⟩ | ⟨-, e⟩ := s.lpuOffer_cases n b <;> rw [e]
  · exact meets_framePlaced hI s h _
  · simp

@[simp] theorem meets_lpuOfferClose (b : CloseBody) : Meets I (s.lpuOfferClose b).fbi ↔ Meets I s.fbi := by
  obtain ⟨h, e⟩ | ⟨-, e⟩ | ⟨-, e⟩ := s.lpuOfferClose_cases b <;> rw [e]
  · exact meets_framePlaced hI s h _
  · simp

@[simp] theorem meets_mluOffer (n : Nat) (b : Body) : Meets I (s.mluOffer n b).fbi ↔ Meets I s.fbi := by
  obtain ⟨h, e⟩ | ⟨-, e⟩ | ⟨-, e⟩ := s.mluOffer_cases n b <;> rw [e]
  · exact meets_framePlaced hI s h _
  · simp

@[simp] theorem meets_dsuOffer (n : Nat) (b : ReleaseBody) : Meets I (s.dsuOffer n b).fbi ↔ Meets I s.fbi := by
  obtain ⟨h, e⟩ | ⟨-, e⟩ | ⟨-, e⟩ := s.dsuOffer_cases n b <;> rw [e]
  · exact meets_framePlaced hI s h _
  · simp

/-! ### The DSU -/

@[simp] theorem meets_freeWithCancel (i : Nat) (r : PalletRecord) :
    Meets I (s.freeWithCancel i r).fbi ↔ Meets I s.fbi := by
  simp [State.freeWithCancel, hI]

@[simp] theorem meets_takeBack (i : Nat) (r : PalletRecord) : Meets I (s.takeBack i r).fbi ↔ Meets I s.fbi := by
  unfold State.takeBack
  repeat' split
  all_goals simp [hI]

@[simp] theorem meets_makeAsk (i : Nat) (r : PalletRecord) (n : Nat) (k : PlaceKind) :
    Meets I (s.makeAsk i r n k).fbi ↔ Meets I s.fbi := by
  unfold State.makeAsk
  cases h : s.offerResult
  case placed => exact meets_framePlaced hI s h _
  all_goals simp

@[simp] theorem meets_lateGrant (n : Nat) (b : GrantBody) : Meets I (s.lateGrant n b).fbi ↔ Meets I s.fbi := by
  unfold State.lateGrant
  dsimp only
  repeat' split
  all_goals simp [hI]

@[simp] theorem meets_recordPlaced (i : Nat) (r : PalletRecord) (n : Nat) (x : Place) :
    Meets I (s.recordPlaced i r n x).fbi ↔ Meets I s.fbi := by
  unfold State.recordPlaced
  repeat' split
  all_goals simp [hI]

/-! ### The LPU -/

@[simp] theorem meets_giveUp (x : ReleaseReason) (r : Reservation) :
    Meets I (s.giveUp x r).fbi ↔ Meets I s.fbi := by
  unfold State.giveUp
  split <;> simp [hI]

@[simp] theorem meets_giveUpAll (x : ReleaseReason) (l : List Reservation) :
    Meets I (s.giveUpAll x l).fbi ↔ Meets I s.fbi := by
  induction l generalizing s with
  | nil => rfl
  | cons r l ih => exact (ih (s.giveUp x r)).trans (meets_giveUp hI s x r)

/-- A change of contents keeps what its answer keeps. -/
theorem meets_changePlan (p : Plan) (f : State → State) (hf : ∀ u : State, Meets I (f u).fbi ↔ Meets I u.fbi)
    (l : List Reservation) : Meets I (s.changePlan p f l).fbi ↔ Meets I s.fbi := by
  simp [State.changePlan, hI, hf]

@[simp] theorem meets_removeReservation (row : Nat) (sd : Side) (f : State → State)
    (hf : ∀ u : State, Meets I (f u).fbi ↔ Meets I u.fbi) :
    Meets I (s.removeReservation row sd f).fbi ↔ Meets I s.fbi := meets_changePlan hI s _ f hf _

@[simp] theorem meets_announcePlaced (a b c : Nat) (sd : Side) (d : Nat) :
    Meets I (s.announcePlaced a b c sd d).fbi ↔ Meets I s.fbi := by
  simp [State.announcePlaced, hI]

@[simp] theorem meets_land (r : PalletRead) (n : Nat) (sd : Side) (m : Nat) (x : Reservation) :
    Meets I (s.land r n sd m x).fbi ↔ Meets I s.fbi := by
  simp [State.land, meets_changePlan, hI]

@[simp] theorem meets_walkin (r : PalletRead) : Meets I (s.walkin r).fbi ↔ Meets I s.fbi := by
  unfold State.walkin State.judgeWalkin
  repeat' split
  all_goals simp [State.landWalkin, meets_changePlan, hI]

@[simp] theorem meets_removeLanded (x : Standing) (l : Landed) :
    Meets I (s.removeLanded x l).fbi ↔ Meets I s.fbi := by
  unfold State.removeLanded
  dsimp only
  repeat' split
  all_goals simp [meets_changePlan, hI]

@[simp] theorem meets_formClosing (b : Bool) : Meets I (s.formClosing b).fbi ↔ Meets I s.fbi := by
  simp [State.formClosing, hI]

@[simp] theorem meets_releaseEvery (x : ReleaseReason) : Meets I (s.releaseEvery x).fbi ↔ Meets I s.fbi := by
  unfold State.releaseEvery
  generalize allReservations s.plan = l
  induction l generalizing s with
  | nil => rfl
  | cons r l ih => exact (ih _).trans (meets_removeReservation hI s _ _ _ fun u => meets_giveUp hI u _ _)

@[simp] theorem meets_lpuGrantFailed (b : GrantBody) : Meets I (s.lpuGrantFailed b).fbi ↔ Meets I s.fbi := by
  unfold State.lpuGrantFailed
  repeat' split
  all_goals simp [hI]

/-! ### The MLU -/

@[simp] theorem meets_cancelDrainPlace (d : Drain) : Meets I (s.cancelDrainPlace d).fbi ↔ Meets I s.fbi := by
  unfold State.cancelDrainPlace
  repeat' split
  all_goals simp [hI]

@[simp] theorem meets_giveUpPut (x : ReleaseReason) (y : Put) : Meets I (s.giveUpPut x y).fbi ↔ Meets I s.fbi := by
  unfold State.giveUpPut
  split <;> simp [hI]

@[simp] theorem meets_announcePut (a b c : Nat) (d : Bool) :
    Meets I (s.announcePut a b c d).fbi ↔ Meets I s.fbi := by
  cases d <;> simp [State.announcePut, hI]

@[simp] theorem meets_strandNewest (k : Nat) : Meets I (s.strandNewest k).fbi ↔ Meets I s.fbi := by
  unfold State.strandNewest
  repeat' split
  all_goals simp [hI]

@[simp] theorem meets_guidedPut (r : LanePut) (k : Nat) (x : Put) :
    Meets I (s.guidedPut r k x).fbi ↔ Meets I s.fbi := by
  unfold State.guidedPut
  dsimp only
  split <;> simp [hI]

@[simp] theorem meets_unguidedPut (r : LanePut) : Meets I (s.unguidedPut r).fbi ↔ Meets I s.fbi := by
  simp [State.unguidedPut, hI]

@[simp] theorem meets_offerDrainAsk (l : Lane) (a : Item) (n m : Nat) :
    Meets I (s.offerDrainAsk l a n m).fbi ↔ Meets I s.fbi := by
  unfold State.offerDrainAsk
  cases h : s.offerResult
  case placed => exact meets_framePlaced hI s h _
  all_goals simp

@[simp] theorem meets_lateDrainGrant (n : Nat) (b : GrantBody) :
    Meets I (s.lateDrainGrant n b).fbi ↔ Meets I s.fbi := by
  unfold State.lateDrainGrant
  repeat' split
  all_goals simp [hI]

@[simp] theorem meets_drainPlaced (k : Nat) (d : Drain) (n : Nat) (x : Place) :
    Meets I (s.drainPlaced k d n x).fbi ↔ Meets I s.fbi := by
  unfold State.drainPlaced
  cases d.state <;> dsimp only
  case seeking => rfl
  case asked => simp
  all_goals split <;> simp [hI]

omit hI in
/-- An action on drains keeps what it keeps at each drain. -/
theorem meets_eachDrain (q : Drain → Bool) (f : State → Nat → Drain → State)
    (hf : ∀ u k d, Meets I (f u k d).fbi ↔ Meets I u.fbi) :
    Meets I (s.eachDrain q f).fbi ↔ Meets I s.fbi :=
  s.eachDrain_induct (P := fun u => Meets I u.fbi ↔ Meets I s.fbi) q f
    (fun u k d hu _ _ => (hf u k d).trans hu) Iff.rfl

/-! ### Owners told -/

@[simp] theorem meets_grantFailed (o : Owner) (g : GrantBody) :
    Meets I (s.grantFailed o g).fbi ↔ Meets I s.fbi := by
  cases o <;> simp [State.grantFailed, hI]

@[simp] theorem meets_tellFailed (o : Outgoing) : Meets I (s.tellFailed o).fbi ↔ Meets I s.fbi := by
  unfold State.tellFailed State.toldFailed
  repeat' split
  all_goals simp [hI]

@[simp] theorem meets_tellMuted (o : Outgoing) : Meets I (s.tellMuted o).fbi ↔ Meets I s.fbi := by
  unfold State.tellMuted State.toldMuted
  repeat' split
  all_goals simp [hI]

end

end Sys2Proof.Machine
end

section
/-! PROOFS. What every step keeps of the FBI (O7, O8): a property that blocks' offers neither give nor take, and that
each event of the FBI's own keeps. -/

namespace Sys2Proof.Machine

/-! ## Commands of the blocks that offer frames -/

/-- Whatever state a command answers, its FBI has a property exactly where the FBI before it has. -/
def OffersOnly (I : Fbi → Prop) (s : State) (o : Host.Outcome State Fault Refusal) : Prop :=
  ∀ t, o = .next t → (Meets I t.fbi ↔ Meets I s.fbi)

section
variable {I : Fbi → Prop} {s : State} {f : State → State}

theorem offersOnly_taken {c : Instr} (hf : ∀ u : State, Meets I (f u).fbi ↔ Meets I u.fbi) :
    OffersOnly I s (taken c s f) := by
  rintro t ⟨⟩
  split
  · rfl
  · exact hf _

theorem offersOnly_request (hf : ∀ u : State, Meets I (f u).fbi ↔ Meets I u.fbi) :
    OffersOnly I s (request s f) := by
  rintro t ⟨⟩
  split
  · rfl
  · exact hf _

/-- What is done to the record of a pallet. -/
theorem meets_onRecord (pallet : Nat) (f : Nat → PalletRecord → State)
    (hf : ∀ i r, Meets I (f i r).fbi ↔ Meets I s.fbi) :
    Meets I (s.onRecord pallet f).fbi ↔ Meets I s.fbi := by
  unfold State.onRecord
  split
  · rfl
  · split
    · exact hf _ _
    · rfl

end

/-- The commands that change the FBI as its own events: those of the FBI, the entry from LISTEN and the resets. -/
def fbiEvent (c : Instr) : Bool :=
  takesReset c ||
    match c with
    | .advertDebtRise | .joinDeadlineExpiry | .attemptStart | .frameSent | .collision | .backoffEnd
    | .frameArrival _ | .frameTaking => true
    | _ => false

/-- A command that is no event of the FBI changes it by frames offered alone. -/
theorem exec_offersOnly {I : Fbi → Prop} (hI : OfferStable I) {c : Instr} (hc : fbiEvent c = false) (s : State) :
    OffersOnly I s (exec c s) := by
  by_cases hw : writesFbi c = false
  · intro t h
    rw [show t.fbi = s.fbi from exec_leaves c s t h .fbi hw]
  cases c with
  | dsuDoorReadInto _ | trailerCandidatesAnswer _ _ _ | laneCandidatesAnswer _ _ _ | dsuPlaced _ _
  | placedNote _ _ _ =>
    simp only [exec, execDsuDoorReadInto, execTrailerCandidatesAnswer, execLaneCandidatesAnswer, execDsuPlaced,
      execPlacedNote]
    refine offersOnly_taken fun u => meets_onRecord _ _ fun i r => ?_
    repeat' split
    all_goals simp [hI]
  | dsuGrant _ _ =>
    simp only [exec, execDsuGrant]
    refine offersOnly_taken fun u => ?_
    repeat' split
    all_goals simp [hI]
  | removeRecord _ =>
    simp only [exec, execRemoveRecord]
    refine offersOnly_request fun u => ?_
    repeat' split
    all_goals simp [hI]
  | ownTrailerAsk _ =>
    simp only [exec, execOwnTrailerAsk]
    refine offersOnly_taken fun u => ?_
    split
    case h_3 =>
      refine meets_changePlan hI u _ _ ?_ _
      exact fun _ => Iff.rfl
    all_goals rfl
  | lpuAsk _ _ =>
    simp only [exec, execLpuAsk]
    refine offersOnly_taken fun u => ?_
    repeat' split
    all_goals simp [hI, meets_changePlan]
  | reservationExpiry _ | lpuRelease _ _ | ownDrainRelease _ _ | lpuDoorReadInto _
  | lpuDoorReadOut _ | closeRequestClosed | abortRequest =>
    simp only [exec, execReservationExpiry, execLpuRelease, execOwnDrainRelease, execLpuDoorReadInto,
      execLpuDoorReadOut, execCloseRequestClosed, execAbortRequest]
    refine offersOnly_taken fun u => ?_
    repeat' split
    all_goals simp [hI]
  | mluAsk _ _ | mluLaneRead _ | askSequenceReturn _ _ _ _ | mluGrant _ _ | mluPlaced _ _ =>
    simp only [exec, execMluAsk, execMluLaneRead, execAskSequenceReturn, execMluGrant, execMluPlaced]
    refine offersOnly_taken fun u => ?_
    rw [State.mluEnd_fbi]
    repeat' split
    all_goals simp [hI, meets_eachDrain]
  | putExpiry _ =>
    simp only [exec, execPutExpiry]
    refine offersOnly_taken fun u => ?_
    split <;> simp [hI]
  | _ => first | exact absurd rfl hw | exact nomatch hc

/-! ## The FBI's own events -/

/-- R31: the FBI as MUTE leaves it. -/
def mutedFbi (f : Fbi) : Fbi :=
  { f with
    mute := true, tx := [], transmitter := .idle, inHand := false, collisions := 0, debt := 0, owedAdvert := false
    lineOut := if f.transmitter = .sending then .jam else f.lineOut }

/-- The first ADVERT at the head (R37). -/
def firstAdvertPlaced (f : Fbi) : Fbi :=
  awake { f with tx := advertAtHead f.inHand f.tx, owedAdvert := false }

/-- The owed ADVERT in a free place (R34). -/
def owedAdvertPlaced (f : Fbi) : Fbi :=
  awake { f with
    owedAdvert := false
    tx := if f.debt = 4 then advertAtHead f.inHand f.tx else f.tx ++ [.advert] }

/-- A property of the FBI that holds after a reset, that blocks' offers neither give nor take, and that each event of the
FBI keeps. -/
structure FbiInvariant (I : Fbi → Prop) : Prop where
  reset : I resetFbi
  offers : OfferStable I
  debt : ∀ f, I f → f.mute = false → I (debtRisen f)
  firstAdvert : ∀ f, I f → f.mute = false → .advert ∉ f.tx → f.tx.length < 12 → I (firstAdvertPlaced f)
  owedAdvert : ∀ f, I f → f.mute = false → f.owedAdvert = true → f.tx.length < 12 → I (owedAdvertPlaced f)
  turn : ∀ f o, I f → I { f with turn := o }
  attempt : ∀ f n l, I f → f.transmitter = .deferring →
    I { f with transmitter := .sending, inHand := true, sentAs := n, lineOut := l }
  sent : ∀ f o rest, I f → f.transmitter = .sending → f.tx = o :: rest → I (withoutHead (sentWhole o f))
  collided : ∀ f n l, I f → f.transmitter = .sending → f.collisions < 15 →
    I { f with collisions := f.collisions + 1, transmitter := .backoff n, lineOut := l }
  discarded : ∀ f o rest l, I f → f.transmitter = .sending → f.tx = o :: rest →
    I (withoutHead { f with lineOut := l })
  backoff : ∀ f n, I f → f.transmitter = .backoff n → I { f with transmitter := .deferring }
  arrival : ∀ f x, I f → f.rx.length < 16 → I { f with rx := f.rx ++ [x] }
  taking : ∀ f x rest, I f → f.rx = x :: rest → I { f with rx := rest }
  heard : ∀ f v, I f → I { f with lastHeard := v }
  muted : ∀ f, I f → I (mutedFbi f)

section
variable {I : Fbi → Prop} (hI : FbiInvariant I) {s : State} (h : I s.fbi)
include hI h

theorem FbiInvariant.placeFirstAdvert : I s.placeFirstAdvert.fbi := by
  unfold State.placeFirstAdvert
  split
  · exact h
  · rename_i hn
    simp only [Bool.or_eq_true, decide_eq_true_eq, not_or, standsAdvert, List.contains_iff_mem] at hn
    obtain ⟨⟨hm, ha⟩, hl⟩ := hn
    exact hI.firstAdvert s.fbi h (by simpa using hm) ha (Nat.lt_of_not_le hl)

theorem FbiInvariant.placeOwedAdvert (hm : s.fbi.mute = false) : I s.placeOwedAdvert.fbi := by
  unfold State.placeOwedAdvert
  split
  · rename_i ho
    rw [Bool.and_eq_true, decide_eq_true_eq] at ho
    exact hI.owedAdvert s.fbi h hm ho.1 ho.2
  · exact h

theorem FbiInvariant.serveFrame (hm : s.fbi.mute = false) (hl : s.fbi.tx.length < 12) (x : OwnedFrame) :
    I (s.serveFrame x).fbi := by
  refine hI.turn _ _ ?_
  rw [State.noteAsk_fbi, State.placeFrame_fbi, State.noLongerOwed_fbi]
  exact (hI.offers s.fbi x hm hl).mpr h

end

theorem State.serveFrame_mute (s : State) (x : OwnedFrame) : (s.serveFrame x).fbi.mute = s.fbi.mute := by
  simp only [State.serveFrame, State.setFbi_fbi, State.noteAsk_fbi, State.placeFrame_fbi, State.noLongerOwed_fbi]
  rfl

theorem State.placeOwedAdvert_mute (s : State) : s.placeOwedAdvert.fbi.mute = s.fbi.mute := by
  unfold State.placeOwedAdvert awake
  repeat' split
  all_goals rfl

section
variable {I : Fbi → Prop} (hI : FbiInvariant I)
include hI

theorem FbiInvariant.serveOwed (n : Nat) {s : State} (h : I s.fbi) (hm : s.fbi.mute = false) :
    I (State.serveOwed n s).fbi := by
  induction n generalizing s with
  | zero => exact h
  | succ n ih =>
    unfold State.serveOwed
    split
    · split
      · exact ih (hI.serveFrame h hm ‹_› _) (by rw [State.serveFrame_mute, hm])
      · exact h
    · exact h

theorem FbiInvariant.spaceEvent {s : State} (h : I s.fbi) : I s.spaceEvent.fbi := by
  unfold State.spaceEvent
  split
  · exact h
  · rename_i hn
    have hm : s.fbi.mute = false := by
      simp only [Bool.or_eq_true, not_or] at hn
      simpa using hn.1.1.1
    split
    · exact h
    · exact hI.serveOwed _ (hI.placeOwedAdvert h hm) (by rw [State.placeOwedAdvert_mute, hm])

theorem FbiInvariant.setMute {s : State} (h : I s.fbi) : I s.setMute.fbi := by
  suffices ∀ (l : List Outgoing) (u : State), I u.fbi → I (l.foldl State.tellMuted u).fbi from
    this _ _ (hI.muted s.fbi h)
  intro l
  induction l with
  | nil => exact fun _ hu => hu
  | cons o l ih => exact fun u hu => ih _ ((meets_tellMuted hI.offers u o).mpr hu)

theorem FbiInvariant.compareSequence {s : State} (h : I s.fbi) (f : Frame) : I (s.compareSequence f).fbi := by
  have hset : I (s.setLastHeard f.sender f.seq).fbi := by
    unfold State.setLastHeard
    split
    · exact h
    · exact hI.heard _ _ h
  unfold State.compareSequence
  dsimp only
  split <;> exact hset

theorem FbiInvariant.takeFrame {s : State} (h : I s.fbi) (f : Frame) : I (s.takeFrame f).fbi := by
  unfold State.takeFrame State.bayClash
  split
  · split
    · exact h
    · exact hI.setMute h
  · exact hI.compareSequence h f

theorem FbiInvariant.arrive {s : State} (h : I s.fbi) (bytes : List Byte) : I (s.arrive bytes).fbi := by
  unfold State.arrive
  repeat' split
  case h_2.isTrue => exact hI.arrival _ _ h ‹_›
  all_goals exact h

end

/-! ## Every step -/

/-- Either way an event is taken, what it keeps of the FBI stands. -/
theorem event_keeps {I : Fbi → Prop} {s t : State} {f : State → State} (h : I s.fbi)
    (hf : I (f s).fbi) (he : event s f = .next t) : I t.fbi := by
  cases he
  split
  · exact h
  · exact hf

theorem taken_keeps {I : Fbi → Prop} {c : Instr} {s t : State} {f : State → State} (h : I s.fbi)
    (hf : I (f (s.drop c)).fbi) (he : taken c s f = .next t) : I t.fbi := by
  cases he
  split
  · exact h
  · exact hf

/-- What every step keeps of the FBI: each command is an event of the FBI's own, or changes it by offers alone. -/
theorem FbiInvariant.exec_keeps {I : Fbi → Prop} (hI : FbiInvariant I) {c : Instr} {s t : State} (h : I s.fbi)
    (he : exec c s = .next t) : I t.fbi := by
  by_cases hc : fbiEvent c = false
  · exact (exec_offersOnly hI.offers hc s t he).mpr h
  have reset (u : State) : I u.floorReset.fbi := u.floorReset_asReset.fbi ▸ hI.reset
  cases c with
  | powerOnReset =>
    cases he
    exact hI.reset
  | resetLineReleased =>
    cases he
    split
    · exact reset _
    · exact h
  | floorResetTaken =>
    rw [exec, execFloorResetTaken] at he
    exact event_keeps h (reset s) he
  | serviceAnswerSent =>
    rw [exec, execServiceAnswerSent] at he
    refine event_keeps h ?_ he
    split
    · exact h
    · split
      · exact reset s
      · exact h
  | advertDebtRise =>
    rw [exec, execAdvertDebtRise] at he
    refine taken_keeps h ?_ he
    split
    · exact h
    · rename_i hn
      split
      · exact hI.placeFirstAdvert h
      · simp only [Bool.or_eq_true, not_or] at hn
        exact hI.debt _ h (by simpa using hn.1.1.1)
  | joinDeadlineExpiry =>
    rw [exec, execJoinDeadlineExpiry] at he
    refine taken_keeps h ?_ he
    dsimp only
    split
    · exact hI.placeFirstAdvert (s := State.setDcu _ _) h
    · exact h
  | attemptStart =>
    rw [exec, execAttemptStart] at he
    refine event_keeps h ?_ he
    split
    · exact hI.attempt _ _ _ h ‹_›
    · exact h
  | frameSent =>
    rw [exec, execFrameSent] at he
    refine event_keeps h ?_ he
    split
    · exact hI.spaceEvent (s := State.setFbi _ _) (hI.sent _ _ _ h ‹_› ‹_›)
    · exact h
  | collision =>
    rw [exec, execCollision] at he
    refine event_keeps h ?_ he
    split
    · dsimp only
      split
      · rename_i hk
        exact hI.collided _ _ _ h ‹_› (by unfold collisionLimit at hk; omega)
      · exact hI.spaceEvent ((meets_tellFailed hI.offers _ _).mpr (hI.discarded _ _ _ _ h ‹_› ‹_›))
    · exact h
  | backoffEnd =>
    rw [exec, execBackoffEnd] at he
    refine event_keeps h ?_ he
    split
    · exact hI.backoff _ _ h ‹_›
    · exact h
  | frameArrival bytes =>
    rw [exec, execFrameArrival] at he
    exact event_keeps h (hI.arrive h bytes) he
  | frameTaking =>
    rw [exec, execFrameTaking] at he
    refine event_keeps h ?_ he
    split
    · exact hI.takeFrame (s := State.setFbi _ _) (hI.taking _ _ _ h ‹_›) _
    · exact h
  | _ => exact absurd rfl hc

theorem FbiInvariant.step_keeps {I : Fbi → Prop} (hI : FbiInvariant I) {s t : State} (h : I s.fbi)
    (hs : step s = .next t) : I t.fbi := by
  unfold step at hs
  split at hs
  · refine hI.exec_keeps ?_ hs
    exact h
  · exact hI.exec_keeps h hs
  · cases hs
    unfold State.idle
    split <;> exact h

end Sys2Proof.Machine
end

section
/-! PROOFS. The bounds of the FBI's queues and counters (R20, R21, R28, R32, R35), and what MUTE leaves standing
(R31). -/

namespace Sys2Proof.Machine

/-! ## Places for the ADVERT -/

@[simp] theorem awake_tx (f : Fbi) : (awake f).tx = f.tx := by unfold awake; split <;> rfl
@[simp] theorem awake_rx (f : Fbi) : (awake f).rx = f.rx := by unfold awake; split <;> rfl
@[simp] theorem awake_owedAdvert (f : Fbi) : (awake f).owedAdvert = f.owedAdvert := by unfold awake; split <;> rfl
@[simp] theorem awake_debt (f : Fbi) : (awake f).debt = f.debt := by unfold awake; split <;> rfl
@[simp] theorem awake_seq (f : Fbi) : (awake f).seq = f.seq := by unfold awake; split <;> rfl
@[simp] theorem awake_collisions (f : Fbi) : (awake f).collisions = f.collisions := by unfold awake; split <;> rfl
@[simp] theorem awake_mute (f : Fbi) : (awake f).mute = f.mute := by unfold awake; split <;> rfl

/-- One ADVERT more stands, and the other frames keep their order. -/
theorem advertAtHead_perm (b : Bool) (l : List Outgoing) : (advertAtHead b l).Perm (.advert :: l) := by
  cases l with
  | nil => rfl
  | cons o l =>
    cases b
    · rfl
    · exact .swap _ _ _

theorem advertAtHead_length (b : Bool) (l : List Outgoing) : (advertAtHead b l).length = l.length + 1 :=
  (advertAtHead_perm b l).length_eq

theorem advertAtHead_count (b : Bool) (l : List Outgoing) :
    (advertAtHead b l).count .advert = l.count .advert + 1 := by
  rw [(advertAtHead_perm b l).count_eq, List.count_cons_self]

/-- A move of the standing ADVERT neither adds nor takes a frame. -/
theorem advertMoved_perm (b : Bool) {l : List Outgoing} (h : .advert ∈ l) : (advertMoved b l).Perm l := by
  unfold advertMoved
  split
  · rfl
  · exact (advertAtHead_perm b _).trans (List.perm_cons_erase h).symm

theorem standsAdvert_iff (l : List Outgoing) : standsAdvert l = true ↔ .advert ∈ l := by
  simp [standsAdvert]

/-! ## The bounds (O7) -/

theorem FbiBounds.count_of_owed {f : Fbi} (h : FbiBounds f) (hs : .advert ∈ f.tx) : f.owedAdvert = false := by
  by_contra ho
  exact absurd (List.count_pos_iff.mpr hs) (by rw [h.owedApart (by simpa using ho)]; omega)

/-- The places of the queue and the counters, from the parts that the bounds speak of. -/
theorem FbiBounds.of_queue {f g : Fbi} (h : FbiBounds f) (hl : g.tx.length ≤ 12)
    (hc : g.tx.count .advert ≤ 1) (ho : g.owedAdvert = true → g.tx.count .advert = 0) (hr : g.rx = f.rx)
    (hd : g.debt ≤ 4) (hs : g.seq = f.seq) (hk : g.collisions = f.collisions) : FbiBounds g where
  queue := hl
  oneAdvert := hc
  owedApart := ho
  received := hr ▸ h.received
  debt := hd
  sequence := hs ▸ h.sequence
  collisions := hk ▸ h.collisions

theorem count_advert_owned (l : List Outgoing) (x : OwnedFrame) :
    List.count .advert (l ++ [Outgoing.owned x]) = l.count .advert := by
  simp [List.count_append]

theorem fbiBounds_framePlaced : OfferStable FbiBounds := by
  refine fun f x _ hl => ⟨fun h => ?_, fun h => ?_⟩
  all_goals
    have hc := count_advert_owned f.tx x
    refine h.of_queue ?_ ?_ ?_ rfl h.debt rfl rfl
  · exact hl.le
  · exact hc ▸ h.oneAdvert
  · exact fun ho => hc ▸ h.owedApart ho
  · simp [framePlaced]
    omega
  · exact hc.trans_le h.oneAdvert
  · exact fun ho => hc.trans (h.owedApart ho)

theorem raisedDebt_le (f : Fbi) : raisedDebt f ≤ 4 := Nat.min_le_right _ _

theorem FbiBounds.debtRisen {f : Fbi} (h : FbiBounds f) : FbiBounds (debtRisen f) := by
  unfold Machine.debtRisen
  dsimp only
  split
  · rename_i hs
    have hs := (standsAdvert_iff _).mp hs
    have hp : (if raisedDebt f = 4 then advertMoved f.inHand f.tx else f.tx).Perm f.tx := by
      split
      · exact advertMoved_perm _ hs
      · rfl
    refine h.of_queue ?_ ?_ ?_ rfl (raisedDebt_le f) rfl rfl
    · exact hp.length_eq.trans_le h.queue
    · exact (hp.count_eq _).trans_le h.oneAdvert
    · exact fun ho => absurd ho (by simp [h.count_of_owed hs])
  · rename_i hs
    have h0 : f.tx.count .advert = 0 := List.count_eq_zero.mpr fun hm => hs ((standsAdvert_iff _).mpr hm)
    split
    · exact h.of_queue h.queue h.oneAdvert h.owedApart rfl (raisedDebt_le f) rfl rfl
    · rename_i ho
      split
      · rename_i hl
        have hp : (if raisedDebt f = 4 then advertAtHead f.inHand f.tx else f.tx ++ [.advert]).Perm
            (.advert :: f.tx) := by
          split
          · exact advertAtHead_perm _ _
          · exact List.perm_append_singleton _ _
        refine h.of_queue ?_ ?_ ?_ (awake_rx _) ?_ (awake_seq _) (awake_collisions _)
        · rw [awake_tx, hp.length_eq]
          exact hl
        · rw [awake_tx, hp.count_eq, List.count_cons_self, h0]
        · simp [ho]
        · rw [awake_debt]
          exact raisedDebt_le f
      · exact h.of_queue h.queue h.oneAdvert (fun _ => h0) rfl (raisedDebt_le f) rfl rfl

theorem FbiBounds.firstAdvertPlaced {f : Fbi} (h : FbiBounds f) (ha : .advert ∉ f.tx) (hl : f.tx.length < 12) :
    FbiBounds (firstAdvertPlaced f) := by
  unfold Machine.firstAdvertPlaced
  refine h.of_queue ?_ ?_ ?_ (awake_rx _) ?_ (awake_seq _) (awake_collisions _)
  · rw [awake_tx, advertAtHead_length]
    exact hl
  · rw [awake_tx, advertAtHead_count, List.count_eq_zero.mpr ha]
  · simp
  · rw [awake_debt]
    exact h.debt

theorem FbiBounds.owedAdvertPlaced {f : Fbi} (h : FbiBounds f) (ho : f.owedAdvert = true)
    (hl : f.tx.length < 12) : FbiBounds (owedAdvertPlaced f) := by
  have hp : (if f.debt = 4 then advertAtHead f.inHand f.tx else f.tx ++ [.advert]).Perm (.advert :: f.tx) := by
    split
    · exact advertAtHead_perm _ _
    · exact List.perm_append_singleton _ _
  unfold Machine.owedAdvertPlaced
  refine h.of_queue ?_ ?_ ?_ (awake_rx _) ?_ (awake_seq _) (awake_collisions _)
  · rw [awake_tx, hp.length_eq]
    exact hl
  · rw [awake_tx, hp.count_eq, List.count_cons_self, h.owedApart ho]
  · simp
  · rw [awake_debt]
    exact h.debt

/-- With its head gone, the queue has one frame fewer and no ADVERT more. -/
theorem FbiBounds.withoutHead {f : Fbi} (h : FbiBounds f) : FbiBounds (withoutHead f) where
  queue := f.tx.tail_sublist.length_le.trans h.queue
  oneAdvert := (f.tx.tail_sublist.count_le _).trans h.oneAdvert
  owedApart ho := Nat.le_zero.mp (h.owedApart ho ▸ f.tx.tail_sublist.count_le _)
  received := h.received
  debt := h.debt
  sequence := h.sequence
  collisions := Nat.zero_le _

theorem FbiBounds.sentWhole {f : Fbi} (h : FbiBounds f) (o : Outgoing) : FbiBounds (sentWhole o f) := by
  have hseq : (f.seq + 1) % 256 ≤ 255 := by omega
  cases o
  · exact ⟨h.queue, h.oneAdvert, h.owedApart, h.received, Nat.zero_le _, hseq, h.collisions⟩
  · exact ⟨h.queue, h.oneAdvert, h.owedApart, h.received, h.debt, hseq, h.collisions⟩

theorem fbiBounds_invariant : FbiInvariant FbiBounds where
  reset := by constructor <;> simp [resetFbi]
  offers := fbiBounds_framePlaced
  debt _ h _ := h.debtRisen
  firstAdvert _ h _ ha hl := h.firstAdvertPlaced ha hl
  owedAdvert _ h _ ho hl := h.owedAdvertPlaced ho hl
  turn _ _ h := ⟨h.queue, h.oneAdvert, h.owedApart, h.received, h.debt, h.sequence, h.collisions⟩
  attempt _ _ _ h _ := ⟨h.queue, h.oneAdvert, h.owedApart, h.received, h.debt, h.sequence, h.collisions⟩
  sent _ o _ h _ _ := (h.sentWhole o).withoutHead
  collided _ _ _ h _ hk := ⟨h.queue, h.oneAdvert, h.owedApart, h.received, h.debt, h.sequence, hk⟩
  discarded _ _ _ _ h _ _ := FbiBounds.withoutHead
    ⟨h.queue, h.oneAdvert, h.owedApart, h.received, h.debt, h.sequence, h.collisions⟩
  backoff _ _ h _ := ⟨h.queue, h.oneAdvert, h.owedApart, h.received, h.debt, h.sequence, h.collisions⟩
  arrival _ _ h hl := ⟨h.queue, h.oneAdvert, h.owedApart, by simpa using hl, h.debt, h.sequence, h.collisions⟩
  taking _ _ _ h hr := ⟨h.queue, h.oneAdvert, h.owedApart,
    (Nat.le_succ _).trans (by simpa [hr] using h.received), h.debt, h.sequence, h.collisions⟩
  heard _ _ h := ⟨h.queue, h.oneAdvert, h.owedApart, h.received, h.debt, h.sequence, h.collisions⟩
  muted _ h := ⟨Nat.zero_le _, Nat.zero_le _, fun _ => rfl, h.received, Nat.zero_le _, h.sequence, Nat.zero_le _⟩

/-- Settles O7: the bounds are an invariant of the FBI. -/
theorem fbiBoundsKept : Obligations.FbiBoundsKept := fun _ _ h hs => fbiBounds_invariant.step_keeps h hs

/-! ## MUTE (O8) -/

theorem mutedQuiet_of_unmuted {f : Fbi} (h : f.mute = false) : MutedQuiet f := fun hm => by simp [h] at hm

/-- A transmitter that is not idle is not muted. -/
theorem MutedQuiet.unmuted {f : Fbi} (h : MutedQuiet f) (ht : f.transmitter ≠ .idle) : f.mute = false := by
  by_contra hm
  exact ht (h (by simpa using hm)).1

theorem mutedQuiet_invariant : FbiInvariant MutedQuiet where
  reset := mutedQuiet_of_unmuted rfl
  offers _ _ hm _ := iff_of_true (mutedQuiet_of_unmuted hm) (mutedQuiet_of_unmuted hm)
  debt f _ hm := mutedQuiet_of_unmuted (by
    rw [← hm]
    unfold debtRisen
    dsimp only
    repeat' split
    all_goals simp)
  firstAdvert f _ hm _ _ := mutedQuiet_of_unmuted ((awake_mute _).trans hm)
  owedAdvert f _ hm _ _ := mutedQuiet_of_unmuted ((awake_mute _).trans hm)
  turn _ _ h := h
  attempt _ _ _ h ht := mutedQuiet_of_unmuted (h.unmuted (by simp [ht]))
  sent f o _ h ht _ := mutedQuiet_of_unmuted (by
    cases o <;> exact h.unmuted (by simp [ht]))
  collided _ _ _ h ht _ := mutedQuiet_of_unmuted (h.unmuted (by simp [ht]))
  discarded _ _ _ _ h ht _ := mutedQuiet_of_unmuted (h.unmuted (by simp [ht]))
  backoff _ _ h ht := mutedQuiet_of_unmuted (h.unmuted (by simp [ht]))
  arrival _ _ h _ := h
  taking _ _ _ h _ := h
  heard _ _ h := h
  muted _ _ _ := ⟨rfl, rfl, rfl, rfl⟩

/-- Settles O8: what MUTE leaves standing is an invariant of the FBI. -/
theorem mutedBayStaysQuiet : Obligations.MutedBayStaysQuiet := fun _ _ h hs => mutedQuiet_invariant.step_keeps h hs

end Sys2Proof.Machine
end

section
/-! PROOFS. The state after a reset meets the invariants (O13), and the FBI's table of R38 (O18). -/

namespace Sys2Proof.Machine

theorem stackAt_absentPlan (row : Nat) (sd : Side) : stackAt absentPlan row sd = [] := by
  unfold stackAt
  by_cases h : stackIndex row sd < 26 <;> simp [absentPlan, h]

theorem planFits_absentPlan : PlanFits absentPlan where
  stacked st h := by
    have e : st = [] := by simpa [absentPlan] using h
    subst e
    exact ⟨Nat.zero_le _, fun _ ht => nomatch ht⟩
  payload := by decide
  face := by decide
  band row sd r _ _ h := by simp [stackAt_absentPlan] at h

theorem pdrFits_resetPdr : PdrFits resetPdr where
  inSets i e h := by simp [entryAt_resetPdr] at h
  once i j e f h := by simp [entryAt_resetPdr] at h

theorem askTableFits_resetDsu : AskTableFits resetDsu where
  once i j r q h := by
    have h := (State.slotAt_record State.reset i r).mpr h
    rw [State.slotAt_of_resetDsu rfl] at h
    cases h
  records r h := by simp [resetDsu] at h
  sequence := Nat.zero_le _

/-- Settles O13: the FBI's two are invariants that hold after a reset; the others by the reset values read. -/
theorem resetMeetsInvariants : Obligations.ResetMeetsInvariants :=
  ⟨fbiBounds_invariant.reset, mutedQuiet_invariant.reset, rfl, ⟨List.nodup_nil, fun _ h => nomatch h⟩,
    List.Pairwise.nil, planFits_absentPlan, pdrFits_resetPdr, fun _ => rfl, fun _ => rfl, askTableFits_resetDsu⟩

/-- Settles O18: either reset leaves the FBI's reset values. -/
theorem fbiAfterReset : Obligations.FbiAfterReset := by
  intro c s h
  obtain ⟨t, ht, has, -⟩ := exec_anyReset h
  refine ⟨t, ht, ?_⟩
  rw [has.fbi]
  exact ⟨rfl, rfl, rfl, rfl, rfl, fun b hb => by simp [resetFbi, hb], rfl, rfl, rfl, rfl, rfl⟩

end Sys2Proof.Machine
end

section
/-! PROOFS. The advert debt (R35 to R37): what a tick does to the queue and to the ADVERT owed. -/

namespace Sys2Proof.Machine

/-! ## Where a bay takes ticks and space events -/

/-- R33, R35: whether the FBI lets ticks and space events pass, during the read, in LISTEN, in UNCONFIGURED and muted. -/
theorem State.quiet_iff {s : State} (hl : s.resetLine = false) :
    (s.fbi.mute || s.reading || s.inState .listen || s.inState .unconfigured) = true ↔
      s.working = false ∨ s.fbi.mute = true := by
  unfold State.working
  rw [hl]
  cases s.fbi.mute <;> cases s.reading <;> cases s.inState .listen <;> cases s.inState .unconfigured <;> simp

theorem State.acts_of_working {s : State} (hw : s.working = true) (hm : s.fbi.mute = false) :
    (s.fbi.mute || s.reading || s.inState .listen || s.inState .unconfigured) = false := by
  simp only [State.working, Bool.and_eq_true, Bool.not_eq_true'] at hw
  obtain ⟨⟨⟨-, hr⟩, hl⟩, hu⟩ := hw
  rw [hm, hr, hl, hu]
  rfl

/-! ## The ADVERT's place (R36) -/

/-- The other frames keep their order around an ADVERT at the head. -/
theorem advertAtHead_others (b : Bool) (l : List Outgoing) :
    (advertAtHead b l).filter (fun o => decide (o ≠ .advert)) = l.filter (fun o => decide (o ≠ .advert)) := by
  cases l <;> cases b <;> simp [advertAtHead, List.filter_cons]

theorem erase_advert_others (l : List Outgoing) :
    (l.erase .advert).filter (fun o => decide (o ≠ .advert)) = l.filter (fun o => decide (o ≠ .advert)) := by
  induction l with
  | nil => rfl
  | cons o l ih =>
    by_cases h : o = .advert
    · simp [h]
    · rw [List.erase_cons_tail (by simpa using h), List.filter_cons, List.filter_cons, ih]

theorem advertMoved_others (b : Bool) (l : List Outgoing) :
    (advertMoved b l).filter (fun o => decide (o ≠ .advert)) = l.filter (fun o => decide (o ≠ .advert)) := by
  unfold advertMoved
  split
  · rfl
  · rw [advertAtHead_others, erase_advert_others]

/-- An ADVERT is at the head of a queue, or directly behind the frame in hand, the head of the queue before. -/
def AdvertLeads (inHand : Bool) (before after : List Outgoing) : Prop :=
  after.head? = some .advert ∨ (inHand = true ∧ after[1]? = some .advert ∧ after.head? = before.head?)

theorem advertAtHead_leads (b : Bool) (l : List Outgoing) : AdvertLeads b l (advertAtHead b l) := by
  cases l with
  | nil => exact .inl rfl
  | cons o l =>
    cases b
    · exact .inl rfl
    · exact .inr ⟨rfl, rfl, rfl⟩

theorem advertMoved_leads (b : Bool) (l : List Outgoing) : AdvertLeads b l (advertMoved b l) := by
  unfold advertMoved
  split
  · rename_i h
    exact .inl h.2
  · rename_i h
    refine (advertAtHead_leads b (l.erase .advert)).imp id fun ⟨hb, h1, h0⟩ => ⟨hb, h1, h0.trans ?_⟩
    cases l with
    | nil => rfl
    | cons o l =>
      have ho : o ≠ .advert := fun e => h ⟨hb, by rw [e]; rfl⟩
      rw [List.erase_cons_tail (by simpa using ho)]
      rfl

/-! ## The tick (R35, R36) -/

/-- What a tick does to the debt, the queue and the ADVERT owed, from a queue within its bounds. -/
structure DebtRisen (f g : Fbi) : Prop where
  debt : g.debt = min (f.debt + 1) 4
  one : g.tx.count .advert = 1 ∧ g.owedAdvert = false ∨ g.tx.count .advert = 0 ∧ g.owedAdvert = true
  others : g.tx.filter (fun o => decide (o ≠ .advert)) = f.tx.filter (fun o => decide (o ≠ .advert))
  leads : g.debt = 4 → .advert ∈ g.tx → AdvertLeads f.inHand f.tx g.tx
  stands : g.debt < 4 → .advert ∈ f.tx → g.tx = f.tx
  joins : f.debt < 3 → .advert ∉ f.tx → f.owedAdvert = false → f.tx.length < 12 → g.tx = f.tx ++ [.advert]
  owes : .advert ∉ f.tx → f.owedAdvert = false → 12 ≤ f.tx.length → g.tx = f.tx ∧ g.owedAdvert = true

theorem debtRisen_of_standing {f : Fbi} (h : FbiBounds f) (hs : .advert ∈ f.tx) : DebtRisen f (debtRisen f) := by
  have e : debtRisen f = { f with
      debt := raisedDebt f, tx := if raisedDebt f = 4 then advertMoved f.inHand f.tx else f.tx } := by
    simp [debtRisen, standsAdvert, hs]
  rw [e]
  refine ⟨rfl, .inl ⟨?_, h.count_of_owed hs⟩, ?_, fun hd _ => ?_, fun hd _ => ?_, fun _ hn => absurd hs hn,
    fun hn => absurd hs hn⟩
  · have h1 : f.tx.count .advert = 1 := Nat.le_antisymm h.oneAdvert (List.count_pos_iff.mpr hs)
    dsimp only
    split
    · rw [(advertMoved_perm _ hs).count_eq, h1]
    · exact h1
  · dsimp only
    split
    · exact advertMoved_others _ _
    · rfl
  · have hd : raisedDebt f = 4 := hd
    rw [if_pos hd]
    exact advertMoved_leads _ _
  · have hd : raisedDebt f < 4 := hd
    exact if_neg hd.ne

theorem debtRisen_of_owed {f : Fbi} (hs : .advert ∉ f.tx) (ho : f.owedAdvert = true) :
    DebtRisen f (debtRisen f) := by
  have e : debtRisen f = { f with debt := raisedDebt f } := by
    simp [debtRisen, standsAdvert, hs, ho]
  rw [e]
  exact ⟨rfl, .inr ⟨List.count_eq_zero.mpr hs, ho⟩, rfl, fun _ hm => absurd hm hs, fun _ _ => rfl,
    fun _ _ hn => by simp [ho] at hn, fun _ hn => by simp [ho] at hn⟩

theorem debtRisen_of_room {f : Fbi} (hs : .advert ∉ f.tx) (ho : f.owedAdvert = false) (hl : f.tx.length < 12) :
    DebtRisen f (debtRisen f) := by
  have e : debtRisen f = awake { f with
      debt := raisedDebt f
      tx := if raisedDebt f = 4 then advertAtHead f.inHand f.tx else f.tx ++ [.advert] } := by
    simp [debtRisen, standsAdvert, hs, ho, txCapacity, hl]
  have h0 : f.tx.count .advert = 0 := List.count_eq_zero.mpr hs
  rw [e]
  constructor
  all_goals simp only [awake_tx, awake_owedAdvert, awake_debt]
  case debt => rfl
  case one =>
    refine .inl ⟨?_, ho⟩
    split
    · rw [advertAtHead_count, h0]
    · rw [List.count_append, h0]
      rfl
  case others =>
    split
    · exact advertAtHead_others _ _
    · simp
  case leads =>
    intro hd _
    rw [if_pos hd]
    exact advertAtHead_leads _ _
  case stands => exact fun _ hm => absurd hm hs
  case joins =>
    intro hd _ _ _
    exact if_neg (by unfold raisedDebt; omega)
  case owes => exact fun _ _ hn => absurd hl (Nat.not_lt.mpr hn)

theorem debtRisen_of_full {f : Fbi} (hs : .advert ∉ f.tx) (ho : f.owedAdvert = false) (hl : 12 ≤ f.tx.length) :
    DebtRisen f (debtRisen f) := by
  have e : debtRisen f = { f with debt := raisedDebt f, owedAdvert := true } := by
    simp [debtRisen, standsAdvert, hs, ho, txCapacity, Nat.not_lt.mpr hl]
  rw [e]
  exact ⟨rfl, .inr ⟨List.count_eq_zero.mpr hs, rfl⟩, rfl, fun _ hm => absurd hm hs, fun _ _ => rfl,
    fun _ _ _ hn => absurd hn (Nat.not_lt.mpr hl), fun _ _ _ => ⟨rfl, rfl⟩⟩

theorem debtRisen_spec {f : Fbi} (h : FbiBounds f) : DebtRisen f (debtRisen f) := by
  by_cases hs : .advert ∈ f.tx
  · exact debtRisen_of_standing h hs
  · cases ho : f.owedAdvert with
    | true => exact debtRisen_of_owed hs ho
    | false =>
      by_cases hl : f.tx.length < 12
      · exact debtRisen_of_room hs ho hl
      · exact debtRisen_of_full hs ho (Nat.le_of_not_lt hl)

/-! ## The command -/

theorem exec_advertDebtRise_quiet {s : State} (hl : s.resetLine = false)
    (hq : s.working = false ∨ s.fbi.mute = true) :
    exec .advertDebtRise s = .next (s.drop .advertDebtRise) := by
  rw [exec, execAdvertDebtRise, taken_running hl]
  exact congrArg _ (if_pos ((State.quiet_iff (s := s.drop .advertDebtRise) hl).mpr hq))

theorem exec_advertDebtRise_acts {s : State} (hl : s.resetLine = false) (hw : s.working = true)
    (hm : s.fbi.mute = false) : exec .advertDebtRise s = .next
      (if s.fbi.restartMark then (s.drop .advertDebtRise).placeFirstAdvert
        else (s.drop .advertDebtRise).setFbi (debtRisen s.fbi)) := by
  have hq := State.acts_of_working (s := s.drop .advertDebtRise) hw hm
  rw [exec, execAdvertDebtRise, taken_running hl, hq]
  rfl

/-- R37: a standing ADVERT is not doubled. -/
theorem State.placeFirstAdvert_standing {s : State} (h : .advert ∈ s.fbi.tx) : s.placeFirstAdvert = s := by
  simp [State.placeFirstAdvert, standsAdvert, h]

/-- Settles O36: a tick does nothing where the FBI is quiet, places the first ADVERT while the restart mark is set, and
raises the debt otherwise. -/
theorem advertDebtRises : Obligations.AdvertDebtRises := by
  refine ⟨fun s hl hw hr ha => ?_, fun s hl hw hm hr hb => ?_, fun s hl hw hm hr ht => ?_,
    fun s hl hq => exec_advertDebtRise_quiet hl hq⟩
  · cases hm : s.fbi.mute with
    | true => exact exec_advertDebtRise_quiet hl (.inr hm)
    | false =>
      rw [exec_advertDebtRise_acts hl hw hm, if_pos hr]
      exact congrArg _ (State.placeFirstAdvert_standing (s := s.drop .advertDebtRise) ha)
  · have d := debtRisen_spec hb
    exact ⟨_, (exec_advertDebtRise_acts hl hw hm).trans (congrArg _ (if_neg (by simp [hr]))), d.debt, d.one,
      d.others, d.leads, d.stands, d.joins, d.owes⟩
  · obtain ⟨htx, hd, hmark, hseq⟩ := State.placeFirstAdvert_empty (s := s.drop .advertDebtRise) ht hm
    exact ⟨_, (exec_advertDebtRise_acts hl hw hm).trans (congrArg _ (if_pos hr)), htx, hd, hmark.trans hr, hseq⟩

end Sys2Proof.Machine
end

section
/-! PROOFS. Frames taken from the receive queue (R28 to R31): the sequence compared, the blocks that take a frame, and a
bay clash. -/

namespace Sys2Proof.Machine

/-! ## Taking the head of the receive queue (R28) -/

theorem exec_frameTaking_nil {s : State} (hl : s.resetLine = false) (h : s.fbi.rx = []) :
    exec .frameTaking s = .next s := by
  rw [exec, execFrameTaking, event_running hl]
  simp only [h]

/-- The state with the rest of the receive queue. -/
def State.withRx (s : State) (rest : List Frame) : State := s.setFbi { s.fbi with rx := rest }

theorem exec_frameTaking_cons {s : State} {f : Frame} {rest : List Frame} (hl : s.resetLine = false)
    (h : s.fbi.rx = f :: rest) : exec .frameTaking s = .next ((s.withRx rest).takeFrame f) := by
  rw [exec, execFrameTaking, event_running hl]
  simp only [h]
  rfl

theorem State.isOwn_iff (s : State) (b : Nat) : s.isOwn b = true ↔ b = s.own ∧ s.own ≠ 0 := by
  unfold State.isOwn
  by_cases h : b = s.own <;> simp [h]

/-! ## The sequence compared (R29) -/

/-- What a gap in the sequence asks for: doubt of the sender's entries, and LOSS. -/
def gapDoubt (s : State) (f : Frame) : List Instr :=
  if showsGap f (lastHeardOf s f.sender) then [.doubtSender f.sender, .noticeRaise .loss] else []

theorem State.compareSequence_eq (s : State) (f : Frame) (h : 1 ≤ f.sender) :
    s.compareSequence f = { s.handAll (gapDoubt s f) with
      fbi := { s.fbi with lastHeard := s.fbi.lastHeard.setIfInBounds (f.sender - 1) (some f.seq) } } := by
  have h0 : f.sender ≠ 0 := by omega
  unfold State.compareSequence gapDoubt
  cases showsGap f (lastHeardOf s f.sender) <;>
    simp [State.setLastHeard, h0, State.setFbi, State.handAll, State.hand, State.raiseNotice]

theorem lastHeardOf_eq {s : State} {b : Nat} (h : 1 ≤ b) {e : Option Nat}
    (he : s.fbi.lastHeard[b - 1]? = some e) : lastHeardOf s b = e := by
  rw [lastHeardOf, if_neg (by omega), he]
  rfl

theorem gapDoubt_nil {s : State} {f : Frame} (h : showsGap f (lastHeardOf s f.sender) = false) :
    gapDoubt s f = [] := by
  rw [gapDoubt, h]
  rfl

/-! ## The blocks that take a frame (R30) -/

/-- The takers go by the bay's number and MUTE alone. -/
theorem takers_congr {s t : State} (ho : t.own = s.own) (hm : t.fbi.mute = s.fbi.mute) (f : Frame) :
    takers t f = takers s f := by
  have hi : t.isOwn = s.isOwn := by
    funext b
    rw [State.isOwn, State.isOwn, ho]
  unfold takers
  rw [hi, hm]

theorem takers_ask_own {s : State} {f : Frame} {a : AskBody} (hb : f.body = .ask a) (ht : a.target = s.own)
    (ho : s.own ≠ 0) (hm : s.fbi.mute = false) : takers s f =
      [.pdrAsk f.sender a, if a.kind = .trailer then .lpuAsk f.sender a else .mluAsk f.sender a] := by
  have hi := (s.isOwn_iff a.target).mpr ⟨ht, ho⟩
  unfold takers
  rw [hb]
  cases hk : a.kind <;> simp [hi, hm, hk]

theorem takers_ask_other {s : State} {f : Frame} {a : AskBody} (hb : f.body = .ask a)
    (h : a.target ≠ s.own ∨ s.own = 0 ∨ s.fbi.mute = true) : takers s f = [.pdrAsk f.sender a] := by
  have hn : ¬ (s.isOwn a.target = true ∧ (!s.fbi.mute) = true) := by
    rw [State.isOwn_iff]
    rintro ⟨⟨ht, ho⟩, hm⟩
    obtain h | h | h := h
    · exact h ht
    · exact ho h
    · simp [h] at hm
  unfold takers
  rw [hb]
  exact congrArg _ (if_neg hn)

theorem takers_grant {s : State} {f : Frame} {x : GrantBody} (hb : f.body = .grant x) :
    takers s f = .pdrGrant f.sender x ::
      if x.asker = s.own ∧ s.own ≠ 0 then [.dsuGrant f.sender x, .mluGrant f.sender x] else [] := by
  simp only [takers, hb, State.isOwn_iff]

theorem takers_refuse {s : State} {f : Frame} {x : RefuseBody} (hb : f.body = .refuse x) :
    takers s f = .pdrRefuse f.sender x ::
      if x.asker = s.own ∧ s.own ≠ 0 then [.dsuRefuse f.sender x, .mluRefuse f.sender x] else [] := by
  simp only [takers, hb, State.isOwn_iff]

theorem granterReason_iff (r : ReleaseReason) : granterReason r = true ↔ r ≠ .late ∧ r ≠ .cancel := by
  cases r <;> decide

theorem takers_release {s : State} {f : Frame} {x : ReleaseBody} (hb : f.body = .release x) :
    takers s f = if x.reason ≠ .late ∧ x.reason ≠ .cancel then
      if x.asker = s.own ∧ s.own ≠ 0 then [.dsuRelease f.sender x, .mluRelease f.sender x] else []
    else [.lpuRelease f.sender x, .mluRelease f.sender x] := by
  simp only [takers, hb, State.isOwn_iff, granterReason_iff]

/-- A frame of another bay: compared, and handed to its takers. -/
theorem exec_frameTaking_other {s : State} {f : Frame} {rest : List Frame} (hl : s.resetLine = false)
    (h : s.fbi.rx = f :: rest) (hn : f.sender ≠ s.own) (h1 : 1 ≤ f.sender) :
    exec .frameTaking s = .next { s.handAll (gapDoubt s f ++ takers s f) with
      fbi := { s.fbi with
        rx := rest, lastHeard := s.fbi.lastHeard.setIfInBounds (f.sender - 1) (some f.seq) } } := by
  have hown : ¬ (s.withRx rest).isOwn f.sender = true := fun hi => hn ((State.isOwn_iff _ _).mp hi).1
  rw [exec_frameTaking_cons hl h, State.takeFrame, if_neg hown]
  dsimp only
  rw [State.compareSequence_eq _ f h1, takers_congr (s := s) rfl rfl]
  refine congrArg Host.Outcome.next ?_
  unfold State.handAll
  rw [← List.append_assoc]
  rfl

/-! ## A bay clash (R31) -/

/-- What a muted queue's owners are told leaves the FBI. -/
theorem foldl_tellMuted_fbi (l : List Outgoing) {u : State} (hm : u.fbi.mute = true) :
    (l.foldl State.tellMuted u).fbi = u.fbi := by
  have stable : OfferStable (· = u.fbi) := fun f x hf _ =>
    iff_of_false (fun e => by simp [← e, framePlaced, hf] at hm) (fun e => by simp [← e, hf] at hm)
  suffices ∀ (l : List Outgoing) (v : State), v.fbi = u.fbi → (l.foldl State.tellMuted v).fbi = u.fbi from
    this l u rfl
  intro l
  induction l with
  | nil => exact fun _ hv => hv
  | cons o l ih => exact fun v hv => ih _ ((meets_tellMuted stable v o).mpr hv)

theorem foldl_tellMuted_pdr (l : List Outgoing) (u : State) : (l.foldl State.tellMuted u).pdr = u.pdr := by
  have marked : OwnersMarked (allBut .pdr) := ⟨by decide, by decide, by decide, by decide⟩
  have only : Only (allBut .pdr) u (l.foldl State.tellMuted u) :=
    (only_foldl l _ fun v o => (only_tellMuted marked o).mpr (.refl _ v)).mpr (.refl _ u)
  exact only .pdr (by decide)

theorem State.bayClash_of_muted {s : State} (h : s.fbi.mute = true) : s.bayClash = s.raiseNotice .bayClash := by
  rw [State.bayClash, if_pos h]

theorem State.bayClash_of_unmuted {s : State} (h : s.fbi.mute = false) :
    s.bayClash = (s.fbi.tx.foldl State.tellMuted (s.setFbi (mutedFbi s.fbi))).raiseNotice .bayClash := by
  rw [State.bayClash, if_neg (by simp [h])]
  rfl

theorem exec_frameTaking_own {s : State} {f : Frame} {rest : List Frame} (hl : s.resetLine = false)
    (h : s.fbi.rx = f :: rest) (ho : f.sender = s.own) (h0 : f.sender ≠ 0) :
    exec .frameTaking s = .next (s.withRx rest).bayClash := by
  have hown := (State.isOwn_iff (s.withRx rest) f.sender).mpr ⟨ho, ho ▸ h0⟩
  rw [exec_frameTaking_cons hl h, State.takeFrame, if_pos hown]

/-- Settles O35: a frame of another bay is compared and routed; one of the own number is a bay clash. -/
theorem framesAreTaken : Obligations.FramesAreTaken := by
  refine ⟨fun s hl h => exec_frameTaking_nil hl h, fun f rest s hl h hn h1 _ => ?_, fun f rest s hl h ho h0 hm => ?_,
    fun f rest s hl h ho h0 hm => ?_, fun s f => ⟨rfl, rfl⟩⟩
  · refine ⟨gapDoubt s f, takers s f, exec_frameTaking_other hl h hn h1, fun a hb => ?_,
      fun a hb ht ho hm => takers_ask_own hb ht ho hm, fun a hb hx => takers_ask_other hb hx, fun x => takers_grant,
      fun x => takers_refuse, fun x hb => ?_, fun x hb hl hc => ?_, fun x hb hx => ?_, fun x hb => ?_, fun hr => ?_,
      fun he => ?_, fun e he hs => ?_, fun e hr he hs => ?_⟩
    · simp only [takers, hb]
    · simp only [takers, hb]
    · rw [takers_release hb, if_pos ⟨hl, hc⟩]
    · rw [takers_release hb, if_neg (by tauto)]
    · simp only [takers, hb]
    · refine gapDoubt_nil ?_
      cases lastHeardOf s f.sender <;> simp [showsGap, hr]
    · exact gapDoubt_nil (by rw [lastHeardOf_eq h1 he]; rfl)
    · exact gapDoubt_nil (by rw [lastHeardOf_eq h1 he]; simp [showsGap, hs])
    · rw [gapDoubt, lastHeardOf_eq h1 he]
      simp [showsGap, hr, hs]
  · exact (exec_frameTaking_own hl h ho h0).trans (congrArg _ (State.bayClash_of_muted (s := s.withRx rest) hm))
  · have hfbi := foldl_tellMuted_fbi s.fbi.tx (u := (s.withRx rest).setFbi (mutedFbi (s.withRx rest).fbi)) rfl
    refine ⟨_, (exec_frameTaking_own hl h ho h0).trans (congrArg _ (State.bayClash_of_unmuted (s := s.withRx rest) hm)),
      ?_⟩
    have e : (s.withRx rest).fbi.tx = s.fbi.tx := rfl
    rw [State.raiseNotice_fbi, e, hfbi]
    refine ⟨rfl, rfl, rfl, rfl, rfl, rfl, rfl, foldl_tellMuted_pdr _ _, by simp, fun ht => if_pos ht, rfl⟩

end Sys2Proof.Machine
end

section
/-! PROOFS. Numbers and codes of a frame as bytes, and read back from bytes (sections 2.4.1 and 2.4.2). -/

namespace Sys2Proof.Machine

/-! ## Bytes -/

/-- The byte at a place of a run of bytes, 0 behind its end. -/
def octet (l : List Byte) (i : Nat) : Byte := l[i]?.getD 0

@[simp] theorem octet_zero (b : Byte) (l : List Byte) : octet (b :: l) 0 = b := rfl
@[simp] theorem octet_succ (b : Byte) (l : List Byte) (i : Nat) : octet (b :: l) (i + 1) = octet l i := rfl

/-- A run of bytes is its bytes in order. -/
theorem map_octet {l : List Byte} {n : Nat} (h : l.length = n) : (List.range n).map (octet l) = l := by
  subst h
  refine List.ext_getElem (by simp) fun i h1 h2 => ?_
  simp [octet, h2]

theorem drop_eq_octet_cons {l : List Byte} {o : Nat} (h : o < l.length) :
    l.drop o = octet l o :: l.drop (o + 1) := by
  rw [List.drop_eq_getElem_cons h, octet, List.getElem?_eq_getElem h]
  rfl

/-- The two, four and five bytes of a number, as R27 weighs them. -/
def word2 (a b : Byte) : Nat := a.toNat * 256 + b.toNat
def word4 (a b c d : Byte) : Nat := word2 a b * 65536 + word2 c d
def word5 (a b c d e : Byte) : Nat := a.toNat * 4294967296 + word4 b c d e

theorem part_one (l : List Byte) (o : Nat) : part l o 1 = (octet l o).toNat := by
  by_cases h : o < l.length
  · rw [part, drop_eq_octet_cons h]
    simp [bigEndian]
  · have h := Nat.le_of_not_lt h
    rw [part, List.drop_eq_nil_of_le h, octet, List.getElem?_eq_none h]
    rfl

theorem part_two {l : List Byte} {o : Nat} (h : o + 2 ≤ l.length) :
    part l o 2 = word2 (octet l o) (octet l (o + 1)) := by
  rw [part, drop_eq_octet_cons (by omega), drop_eq_octet_cons (by omega)]
  simp [bigEndian, word2]

theorem part_four {l : List Byte} {o : Nat} (h : o + 4 ≤ l.length) :
    part l o 4 = word4 (octet l o) (octet l (o + 1)) (octet l (o + 2)) (octet l (o + 3)) := by
  rw [part, drop_eq_octet_cons (by omega), drop_eq_octet_cons (by omega), drop_eq_octet_cons (by omega),
    drop_eq_octet_cons (by omega)]
  simp [bigEndian, word4, word2, Nat.add_assoc]
  omega

theorem part_five {l : List Byte} {o : Nat} (h : o + 5 ≤ l.length) :
    part l o 5 =
      word5 (octet l o) (octet l (o + 1)) (octet l (o + 2)) (octet l (o + 3)) (octet l (o + 4)) := by
  rw [part, drop_eq_octet_cons (by omega), drop_eq_octet_cons (by omega), drop_eq_octet_cons (by omega),
    drop_eq_octet_cons (by omega), drop_eq_octet_cons (by omega)]
  simp [bigEndian, word5, word4, word2, Nat.add_assoc]
  omega

theorem part_append_right {a l : List Byte} {o : Nat} (h : a.length ≤ o) (n : Nat) :
    part (a ++ l) o n = part l (o - a.length) n := by
  rw [part, List.drop_append, List.drop_eq_nil_of_le h]
  rfl

/-! ## Numbers sent and read back -/

theorem toNat_byteOf (n : Nat) : (byteOf n).toNat = n % 256 := BitVec.toNat_ofNat n 8

theorem toNat_byteOf_of_le {n : Nat} (h : n ≤ 255) : (byteOf n).toNat = n := by
  rw [toNat_byteOf, Nat.mod_eq_of_lt (by omega)]

@[simp] theorem byteOf_toNat (b : Byte) : byteOf b.toNat = b :=
  BitVec.eq_of_toNat_eq (by rw [toNat_byteOf, Nat.mod_eq_of_lt b.isLt])

theorem byteOf_of_mod {n : Nat} {b : Byte} (h : n % 256 = b.toNat) : byteOf n = b :=
  BitVec.eq_of_toNat_eq (by rw [toNat_byteOf, h])

theorem word2_lt (a b : Byte) : word2 a b < 65536 := by
  have ha := a.isLt
  have hb := b.isLt
  unfold word2
  omega

theorem word4_lt (a b c d : Byte) : word4 a b c d < 4294967296 := by
  have h := word2_lt a b
  have h' := word2_lt c d
  unfold word4
  omega

@[simp] theorem bytes2_word2 (a b : Byte) : bytes2 (word2 a b) = [a, b] := by
  have ha := a.isLt
  have hb := b.isLt
  unfold bytes2 word2
  rw [byteOf_of_mod (b := a) (by omega), byteOf_of_mod (b := b) (by omega)]

@[simp] theorem bytes4_word4 (a b c d : Byte) : bytes4 (word4 a b c d) = [a, b, c, d] := by
  have ha := a.isLt
  have hb := b.isLt
  have hc := c.isLt
  have hd := d.isLt
  unfold bytes4 word4 word2
  rw [byteOf_of_mod (b := a) (by omega), byteOf_of_mod (b := b) (by omega), byteOf_of_mod (b := c) (by omega),
    byteOf_of_mod (b := d) (by omega)]

@[simp] theorem bytes5_word5 (a b c d e : Byte) : bytes5 (word5 a b c d e) = [a, b, c, d, e] := by
  have ha := a.isLt
  have hb := b.isLt
  have hc := c.isLt
  have hd := d.isLt
  have he := e.isLt
  unfold bytes5 bytes4 word5 word4 word2
  rw [byteOf_of_mod (b := a) (by omega), byteOf_of_mod (b := b) (by omega), byteOf_of_mod (b := c) (by omega),
    byteOf_of_mod (b := d) (by omega), byteOf_of_mod (b := e) (by omega)]

theorem word2_bytes {n : Nat} (h : n ≤ 65535) : word2 (byteOf (n / 256)) (byteOf n) = n := by
  unfold word2
  rw [toNat_byteOf, toNat_byteOf]
  omega

theorem word4_bytes {n : Nat} (h : n ≤ 4294967295) :
    word4 (byteOf (n / 16777216)) (byteOf (n / 65536)) (byteOf (n / 256)) (byteOf n) = n := by
  unfold word4 word2
  simp only [toNat_byteOf]
  omega

theorem word5_bytes {n : Nat} (h : n ≤ 999999999999) :
    word5 (byteOf (n / 4294967296)) (byteOf (n / 16777216)) (byteOf (n / 65536)) (byteOf (n / 256))
      (byteOf n) = n := by
  unfold word5 word4 word2
  simp only [toNat_byteOf]
  omega

/-! ## Codes sent and read back (section 2.4.1) -/

theorem stateOfCode_stateCode {st : BayState} (h : wfAdvertState st = true) :
    stateOfCode (byteOf (stateCode st)).toNat = some st := by
  cases st <;> first | rfl | exact nomatch h

theorem phaseOfCode_phaseCode (p : Option Phase) : phaseOfCode (byteOf (phaseCode p)).toNat = some p := by
  obtain _ | p := p
  · rfl
  · cases p <;> rfl

theorem assignmentOfCode_assignmentCode (a : Assignment) :
    assignmentOfCode (byteOf (assignmentCode a)).toNat = some a := by
  cases a <;> rfl

theorem heightOfFrame_heightCode (h : HeightClass) : heightOfFrame (byteOf (heightCode h)).toNat = some h := by
  cases h <;> rfl

theorem yesOfCode_yesCode (b : Bool) : yesOfCode (byteOf (yesCode b)).toNat = some b := by
  cases b <;> rfl

theorem placeKindOfCode_placeKindCode (k : PlaceKind) :
    placeKindOfCode (byteOf (placeKindCode k)).toNat = some k := by
  cases k <;> rfl

theorem sideOfCode_sideCode (sd : Side) : sideOfCode (byteOf (sideCode sd)).toNat = some sd := by
  cases sd <;> rfl

theorem refuseOfCode_refuseCode (r : RefuseReason) : refuseOfCode (byteOf (refuseCode r)).toNat = some r := by
  cases r <;> rfl

theorem releaseOfCode_releaseCode (r : ReleaseReason) :
    releaseOfCode (byteOf (releaseCode r)).toNat = some r := by
  cases r <;> rfl

/-! ### Codes read, and sent again -/

theorem stateCode_of_some {n : Nat} {st : BayState} (h : stateOfCode n = some st) :
    stateCode st = n ∧ wfAdvertState st = true := by
  unfold stateOfCode at h
  split at h <;> cases h <;> exact ⟨rfl, rfl⟩

theorem phaseCode_of_some {n : Nat} {p : Option Phase} (h : phaseOfCode n = some p) : phaseCode p = n := by
  unfold phaseOfCode at h
  split at h <;> cases h <;> rfl

theorem assignmentCode_of_some {n : Nat} {a : Assignment} (h : assignmentOfCode n = some a) :
    assignmentCode a = n := by
  unfold assignmentOfCode at h
  split at h <;> cases h <;> rfl

theorem heightCode_of_some {n : Nat} {c : HeightClass} (h : heightOfFrame n = some c) : heightCode c = n := by
  unfold heightOfFrame at h
  split at h <;> cases h <;> rfl

theorem yesCode_of_some {n : Nat} {b : Bool} (h : yesOfCode n = some b) : yesCode b = n := by
  unfold yesOfCode at h
  split at h <;> cases h <;> rfl

theorem placeKindCode_of_some {n : Nat} {k : PlaceKind} (h : placeKindOfCode n = some k) :
    placeKindCode k = n := by
  unfold placeKindOfCode at h
  split at h <;> cases h <;> rfl

theorem sideCode_of_some {n : Nat} {sd : Side} (h : sideOfCode n = some sd) : sideCode sd = n := by
  unfold sideOfCode at h
  split at h <;> cases h <;> rfl

theorem refuseCode_of_some {n : Nat} {r : RefuseReason} (h : refuseOfCode n = some r) : refuseCode r = n := by
  unfold refuseOfCode at h
  split at h <;> cases h <;> rfl

theorem releaseCode_of_some {n : Nat} {r : ReleaseReason} (h : releaseOfCode n = some r) : releaseCode r = n := by
  unfold releaseOfCode at h
  split at h <;> cases h <;> rfl

theorem keepIf_eq_some {α : Type} {b : Bool} {x y : α} : keepIf b x = some y ↔ b = true ∧ x = y := by
  cases b <;> simp [keepIf]

end Sys2Proof.Machine
end

section
/-! PROOFS. Bodies of frames, kind by kind: each that is well formed is read back from the bytes it is sent as, and each
that is read is well formed and sent as the bytes it was read from (section 2.4.2, R24). -/

namespace Sys2Proof.Machine

/-! ## Places -/

theorem placeBytes_length (p : Place) : (placeBytes p).length = 5 := by cases p <;> rfl

/-- A place goes as five bytes, from which it is read back. -/
theorem placeBytes_read {p : Place} (h : wfPlace p = true) : ∃ a b c d e : Byte,
    placeBytes p = [a, b, c, d, e] ∧ placeOf a.toNat b.toNat c.toNat d.toNat e.toNat = some p := by
  cases p with
  | trailer row sd tier =>
    simp only [wfPlace, Bool.and_eq_true, decide_eq_true_eq] at h
    obtain ⟨⟨⟨h1, h2⟩, h3⟩, h4⟩ := h
    refine ⟨_, _, _, _, _, rfl, ?_⟩
    rw [toNat_byteOf_of_le (n := row) (by omega), toNat_byteOf_of_le (n := tier) (by omega)]
    have hk : placeKindOfCode (byteOf 1).toNat = some .trailer := rfl
    have h0 : (byteOf 0).toNat = 0 := rfl
    rw [placeOf, hk, h0]
    simp only [sideOfCode_sideCode, Option.bind_some]
    simp [keepIf, h1, h2, h3, h4]
  | lane k =>
    simp only [wfPlace, wfLane, Bool.and_eq_true, decide_eq_true_eq] at h
    refine ⟨_, _, _, _, _, rfl, ?_⟩
    rw [toNat_byteOf_of_le (n := k) (by omega)]
    have hk : placeKindOfCode (byteOf 2).toNat = some .lane := rfl
    have h0 : (byteOf 0).toNat = 0 := rfl
    rw [placeOf, hk, h0]
    simp [keepIf, h.1, h.2]

/-- A place read from five bytes is well formed, and goes as those bytes. -/
theorem placeOf_sent {p : Place} {a b c d e : Byte}
    (h : placeOf a.toNat b.toNat c.toNat d.toNat e.toNat = some p) :
    wfPlace p = true ∧ placeBytes p = [a, b, c, d, e] := by
  have zero {x : Byte} (hx : x.toNat = 0) : byteOf 0 = x := by rw [← hx, byteOf_toNat]
  unfold placeOf at h
  split at h
  · rename_i hk
    simp only [Option.bind_eq_some_iff, keepIf_eq_some, Bool.and_eq_true, decide_eq_true_eq] at h
    obtain ⟨sd, hsd, ⟨⟨⟨⟨h1, h2⟩, h3⟩, h4⟩, h0⟩, rfl⟩ := h
    have hk : 1 = a.toNat := placeKindCode_of_some hk
    have hsd := sideCode_of_some hsd
    refine ⟨by simp [wfPlace, h1, h2, h3, h4], ?_⟩
    rw [placeBytes, hk, hsd, zero h0]
    simp only [byteOf_toNat]
  · rename_i hk
    simp only [keepIf_eq_some, Bool.and_eq_true, decide_eq_true_eq] at h
    obtain ⟨⟨⟨⟨⟨hb, hc⟩, hd⟩, h1⟩, h4⟩, rfl⟩ := h
    have hk : 2 = a.toNat := placeKindCode_of_some hk
    refine ⟨by simp [wfPlace, wfLane, h1, h4], ?_⟩
    obtain rfl : byteOf 0 = b := zero hb
    obtain rfl : byteOf 0 = c := zero hc
    obtain rfl : byteOf 0 = d := zero hd
    rw [placeBytes, hk, byteOf_toNat, byteOf_toNat]
  · cases h

/-! ## Bodies sent are read back -/

theorem askBodyOf_askBytes {a : AskBody} (h : wfAsk a = true) : askBodyOf (askBytes a) = some a := by
  simp only [wfAsk, wfSeq, wfBayField, wfPallet, wfWord, Bool.and_eq_true, decide_eq_true_eq] at h
  obtain ⟨⟨⟨⟨hs, ht⟩, hp1, hp2⟩, hd⟩, hw⟩ := h
  have hlen : (askBytes a).length = 14 := rfl
  unfold askBodyOf
  simp (disch := omega) only [part_one, part_two, part_five]
  simp (disch := omega) only [askBytes, bytes5, bytes4, bytes2, List.cons_append, List.nil_append, octet_succ,
    octet_zero, word2_bytes, word5_bytes, toNat_byteOf_of_le, placeKindOfCode_placeKindCode,
    heightOfFrame_heightCode, yesOfCode_yesCode, Option.bind_some]
  simp [keepIf, goodPallet, goodBay, maxPallet, hp1, hp2, ht]

theorem grantOf_grantBytes {g : GrantBody} (h : wfGrant g = true) : grantOf (grantBytes g) = some g := by
  simp only [wfGrant, wfSeq, wfBayField, wfPallet, wfWord, Bool.and_eq_true, decide_eq_true_eq] at h
  obtain ⟨⟨⟨⟨⟨ha, hs⟩, hp1, hp2⟩, hpl⟩, hh⟩, hm⟩ := h
  obtain ⟨a, b, c, d, e, hb, hread⟩ := placeBytes_read hpl
  have hlen : (grantBytes g).length = 16 := by simp [grantBytes, bytes5, bytes4, bytes2, hb]
  unfold grantOf placeAt
  simp (disch := omega) only [part_one, part_two, part_five]
  simp (disch := omega) only [grantBytes, hb, bytes5, bytes4, bytes2, List.cons_append, List.nil_append, octet_succ,
    octet_zero, hread, word2_bytes, word5_bytes, toNat_byteOf_of_le, Option.bind_some]
  simp [keepIf, goodPallet, goodBay, maxPallet, hp1, hp2, ha]

theorem refuseOf_refuseBytes {r : RefuseBody} (h : wfRefuse r = true) : refuseOf (refuseBytes r) = some r := by
  simp only [wfRefuse, wfSeq, wfBayField, wfPallet, Bool.and_eq_true, decide_eq_true_eq] at h
  obtain ⟨⟨ha, hs⟩, hp1, hp2⟩ := h
  have hlen : (refuseBytes r).length = 8 := rfl
  unfold refuseOf
  simp (disch := omega) only [part_one, part_five]
  simp (disch := omega) only [refuseBytes, bytes5, bytes4, List.cons_append, List.nil_append, octet_succ,
    octet_zero, refuseOfCode_refuseCode, word5_bytes, toNat_byteOf_of_le, Option.bind_some]
  simp [keepIf, goodPallet, goodBay, maxPallet, hp1, hp2, ha]

theorem placedOf_placedBytes {p : PlacedBody} (h : wfPlaced p = true) : placedOf (placedBytes p) = some p := by
  simp only [wfPlaced, wfBayField, wfPallet, wfWord, Bool.and_eq_true, decide_eq_true_eq] at h
  obtain ⟨⟨⟨⟨hp1, hp2⟩, ha⟩, hpl⟩, hm⟩ := h
  obtain ⟨a, b, c, d, e, hb, hread⟩ := placeBytes_read hpl
  have hlen : (placedBytes p).length = 13 := by simp [placedBytes, bytes5, bytes4, bytes2, hb]
  unfold placedOf placeAt
  simp (disch := omega) only [part_one, part_two, part_five]
  simp (disch := omega) only [placedBytes, hb, bytes5, bytes4, bytes2, List.cons_append, List.nil_append,
    octet_succ, octet_zero, hread, word2_bytes, word5_bytes, toNat_byteOf_of_le, Option.bind_some]
  simp [keepIf, goodPallet, goodBay, maxPallet, hp1, hp2, ha]

theorem releaseOf_releaseBytes {r : ReleaseBody} (h : wfRelease r = true) :
    releaseOf (releaseBytes r) = some r := by
  simp only [wfRelease, wfSeq, wfBayField, wfPallet, Bool.and_eq_true, decide_eq_true_eq] at h
  obtain ⟨⟨⟨hp1, hp2⟩, ha⟩, hs⟩ := h
  have hlen : (releaseBytes r).length = 8 := rfl
  unfold releaseOf
  simp (disch := omega) only [part_one, part_five]
  simp (disch := omega) only [releaseBytes, bytes5, bytes4, List.cons_append, List.nil_append, octet_succ,
    octet_zero, releaseOfCode_releaseCode, word5_bytes, toNat_byteOf_of_le, Option.bind_some]
  simp [keepIf, goodPallet, goodBay, maxPallet, hp1, hp2, ha]

/-! ### The ADVERT -/

theorem laneOf_laneBytes {x : LaneAdvert} (h : wfLaneAdvert x = true) : laneOf (laneBytes x) = some x := by
  simp only [wfLaneAdvert, wfByte, wfWord, Bool.and_eq_true, decide_eq_true_eq] at h
  obtain ⟨⟨hn, hd⟩, hf⟩ := h
  have hlen : (laneBytes x).length = 6 := rfl
  unfold laneOf
  simp (disch := omega) only [part_one, part_two]
  simp (disch := omega) only [laneBytes, bytes2, List.cons_append, List.nil_append, octet_succ, octet_zero,
    assignmentOfCode_assignmentCode, yesOfCode_yesCode, word2_bytes, toNat_byteOf_of_le, Option.bind_some,
    Option.map_some]

theorem lanesOf_flatMap (l : List LaneAdvert) (h : ∀ x ∈ l, wfLaneAdvert x = true) :
    lanesOf l.length (l.flatMap laneBytes) = some l := by
  induction l with
  | nil => rfl
  | cons x l ih =>
    obtain ⟨hx, hl⟩ := List.forall_mem_cons.mp h
    have hlen : (laneBytes x).length = 6 := rfl
    rw [List.length_cons, lanesOf, List.flatMap_cons, List.take_left' hlen, List.drop_left' hlen,
      laneOf_laneBytes hx, Option.bind_some, ih hl, Option.map_some]

theorem flatMap_laneBytes_length (l : List LaneAdvert) : (l.flatMap laneBytes).length = 6 * l.length := by
  induction l with
  | nil => rfl
  | cons x l ih =>
    rw [List.flatMap_cons, List.length_append, ih, List.length_cons, show (laneBytes x).length = 6 from rfl]
    omega

/-- The thirteen bytes of an ADVERT before its lanes. -/
def advertHead (a : AdvertBody) : List Byte :=
  [byteOf (stateCode a.state), byteOf (phaseCode a.phase)] ++ bytes2 a.accepting ++ bytes2 a.cutOff ++
    bytes2 a.margin ++ openingBytes a.openings ++ [byteOf a.lanes.length]

theorem advertBytes_eq (a : AdvertBody) : advertBytes a = advertHead a ++ a.lanes.flatMap laneBytes := rfl

theorem advertHead_length (a : AdvertBody) : (advertHead a).length = 13 := rfl

theorem advertBytes_length (a : AdvertBody) : (advertBytes a).length = 13 + 6 * a.lanes.length := by
  rw [advertBytes_eq, List.length_append, flatMap_laneBytes_length, advertHead_length]

theorem advertOf_advertBytes {a : AdvertBody} (h : wfAdvert a = true) : advertOf (advertBytes a) = some a := by
  simp only [wfAdvert, wfOpenings, wfByte, wfWord, Bool.and_eq_true, decide_eq_true_eq, List.all_eq_true] at h
  obtain ⟨⟨⟨⟨⟨⟨hst, hac⟩, hcu⟩, hma⟩, ⟨⟨⟨h0, h1⟩, h2⟩, h3⟩⟩, hn⟩, hl⟩ := h
  have hlen := advertBytes_length a
  unfold advertOf
  rw [show (advertBytes a).drop 13 = a.lanes.flatMap laneBytes from rfl]
  simp (disch := omega) only [part_one, part_two]
  simp (disch := omega) only [advertBytes, openingBytes, bytes2, List.cons_append, List.nil_append, octet_succ,
    octet_zero, stateOfCode_stateCode hst, phaseOfCode_phaseCode, word2_bytes, toNat_byteOf_of_le,
    lanesOf_flatMap _ hl, Option.bind_some, Option.map_some]

/-! ### The CLOSE -/

theorem signedBytes4_nat (n : Nat) (h : n ≤ 4294967295) : signedBytes4 n = bytes4 n := by
  rw [signedBytes4, BitVec.ofInt_natCast, BitVec.toNat_ofNat, Nat.mod_eq_of_lt (by omega)]

/-- A signed number's four bytes give the number back. -/
theorem signed_read {v : Int} (h : wfSigned v = true) :
    (BitVec.ofNat 32 (BitVec.ofInt 32 v).toNat).toInt = v := by
  simp only [wfSigned, Bool.and_eq_true, decide_eq_true_eq] at h
  rw [BitVec.ofNat_toNat, BitVec.setWidth_eq, BitVec.toInt_ofInt]
  exact Int.bmod_eq_of_le (by omega) (by omega)

/-- A character whose top bit is 0 goes as it is. -/
theorem characterByte_eq {b : Byte} (h : b.toNat < 128) : characterByte b = b := by
  refine BitVec.eq_of_toNat_eq ?_
  rw [characterByte, BitVec.toNat_and]
  exact (Nat.and_two_pow_sub_one_eq_mod b.toNat 7).trans (Nat.mod_eq_of_lt h)

theorem closeMarks_read (c : CloseBody) : (byteOf (closeMarks c)).toNat ≤ 7 ∧
    (byteOf (closeMarks c)).toNat.testBit 0 = c.aborted ∧ (byteOf (closeMarks c)).toNat.testBit 1 = c.overLimit ∧
      (byteOf (closeMarks c)).toNat.testBit 2 = c.lightNose := by
  unfold closeMarks
  cases c.aborted <;> cases c.overLimit <;> cases c.lightNose <;> decide

/-- The eight bytes of the trailer ID, and the twenty-four bytes behind them. -/
def idBytes (c : CloseBody) : List Byte := c.trailerId.toList.map characterByte

def closeTail (c : CloseBody) : List Byte :=
  [byteOf c.cls] ++ bytes2 c.near ++ bytes2 c.far ++ [byteOf c.landedNear, byteOf c.landedFar] ++
    signedBytes4 c.payload ++ signedBytes4 c.gross ++ signedBytes4 c.kingpin ++ signedBytes4 c.bogie ++
    [byteOf (closeMarks c)]

theorem closeBytes_eq (c : CloseBody) : closeBytes c = idBytes c ++ closeTail c := by
  simp only [closeBytes, idBytes, closeTail, List.append_assoc]

theorem idBytes_length (c : CloseBody) : (idBytes c).length = 8 := by simp [idBytes]

theorem closeTail_length (c : CloseBody) : (closeTail c).length = 24 := rfl

theorem eightBytes_idBytes {c : CloseBody} (h : wfTrailerId c.trailerId = true) (l : List Byte) :
    eightBytes (idBytes c ++ l) = c.trailerId := by
  refine Vector.ext fun i hi => ?_
  have hb : (c.trailerId[i]).toNat < 128 := by
    simp only [wfTrailerId, List.all_eq_true, decide_eq_true_eq] at h
    exact h _ (by simp)
  have hl : i < (idBytes c).length := by rw [idBytes_length]; exact hi
  rw [eightBytes, Vector.getElem_ofFn, List.getElem?_append_left hl]
  simp [idBytes, hi, characterByte_eq hb]

theorem closeOf_closeBytes {c : CloseBody} (h : wfClose c = true) : closeOf (closeBytes c) = some c := by
  simp only [wfClose, wfByte, wfWord, Bool.and_eq_true, decide_eq_true_eq] at h
  obtain ⟨⟨⟨⟨⟨⟨⟨⟨⟨⟨hid, hcls⟩, hn⟩, hf⟩, hln⟩, hlf⟩, hp0⟩, hp⟩, hg⟩, hk⟩, hb⟩ := h
  have hi := idBytes_length c
  have hlen := closeTail_length c
  obtain ⟨hm, hm0, hm1, hm2⟩ := closeMarks_read c
  have hpay : ((BitVec.ofInt 32 c.payload).toNat : Int) = c.payload := by
    rw [← Int.toNat_of_nonneg hp0, BitVec.ofInt_natCast, BitVec.toNat_ofNat, Nat.mod_eq_of_lt (by omega)]
  unfold closeOf signedPart
  rw [closeBytes_eq, eightBytes_idBytes hid]
  simp (disch := omega) only [part_append_right, hi, Nat.reduceSub]
  simp (disch := omega) only [part_one, part_two, part_four]
  simp (disch := omega) only [closeTail, signedBytes4, bytes4, bytes2, List.cons_append, List.nil_append,
    octet_succ, octet_zero, word2_bytes, word4_bytes, toNat_byteOf_of_le]
  rw [hm0, hm1, hm2, hpay, signed_read hg, signed_read hk, signed_read hb]
  exact keepIf_eq_some.mpr ⟨decide_eq_true hm, rfl⟩

/-! ### Bodies of every kind -/

/-- A well-formed body has the length its kind requires, within one byte, and is read back (R24 checks 3, 6 to 8). -/
theorem bodyOf_bodyBytes {b : Body} (h : wfBody b = true) : lengthFits (kindCode b) (bodyBytes b) = true ∧
    (bodyBytes b).length ≤ 255 ∧ bodyOf (kindCode b) (bodyBytes b) = some b := by
  cases b with
  | advert a =>
    have h : wfAdvert a = true := h
    have hlen : (bodyBytes (.advert a)).length = 13 + 6 * a.lanes.length := advertBytes_length a
    have hn : a.lanes.length ≤ 4 := by
      simp only [wfAdvert, Bool.and_eq_true, decide_eq_true_eq] at h
      exact h.1.2
    have hcount : part (bodyBytes (.advert a)) 12 1 = a.lanes.length :=
      (part_one _ _).trans (toNat_byteOf_of_le (by omega))
    refine ⟨?_, by omega, congrArg (Option.map Body.advert) (advertOf_advertBytes h)⟩
    simp [lengthFits, kindCode, hcount, hlen, hn]
  | ask a =>
    have hlen : (bodyBytes (.ask a)).length = 14 := rfl
    exact ⟨rfl, by omega, congrArg (Option.map Body.ask) (askBodyOf_askBytes h)⟩
  | grant g =>
    have hlen : (bodyBytes (.grant g)).length = 16 := by
      simp [bodyBytes, grantBytes, bytes5, bytes4, bytes2, placeBytes_length]
    exact ⟨by simp [lengthFits, kindCode, hlen], by omega, congrArg (Option.map Body.grant) (grantOf_grantBytes h)⟩
  | refuse r =>
    have hlen : (bodyBytes (.refuse r)).length = 8 := rfl
    exact ⟨rfl, by omega, congrArg (Option.map Body.refuse) (refuseOf_refuseBytes h)⟩
  | placed p =>
    have hlen : (bodyBytes (.placed p)).length = 13 := by
      simp [bodyBytes, placedBytes, bytes5, bytes4, bytes2, placeBytes_length]
    exact ⟨by simp [lengthFits, kindCode, hlen], by omega,
      congrArg (Option.map Body.placed) (placedOf_placedBytes h)⟩
  | release r =>
    have hlen : (bodyBytes (.release r)).length = 8 := rfl
    exact ⟨rfl, by omega, congrArg (Option.map Body.release) (releaseOf_releaseBytes h)⟩
  | close c =>
    have hlen : (bodyBytes (.close c)).length = 32 := by
      rw [bodyBytes, closeBytes_eq, List.length_append, idBytes_length, closeTail_length]
    exact ⟨by simp [lengthFits, kindCode, hlen], by omega, congrArg (Option.map Body.close) (closeOf_closeBytes h)⟩

end Sys2Proof.Machine
end

section
/-! PROOFS. Bodies that come are read as well-formed bodies, which go out as the bytes they came as (section 2.4.2,
R24). -/

namespace Sys2Proof.Machine

theorem part_one_le (l : List Byte) (o : Nat) : part l o 1 ≤ 255 := by
  have h := (octet l o).isLt
  rw [part_one]
  omega

theorem part_two_le {l : List Byte} {o : Nat} (h : o + 2 ≤ l.length) : part l o 2 ≤ 65535 := by
  have h2 := word2_lt (octet l o) (octet l (o + 1))
  rw [part_two h]
  omega

theorem part_four_le {l : List Byte} {o : Nat} (h : o + 4 ≤ l.length) : part l o 4 ≤ 4294967295 := by
  have h4 := word4_lt (octet l o) (octet l (o + 1)) (octet l (o + 2)) (octet l (o + 3))
  rw [part_four h]
  omega

/-- A place read goes as the five bytes it was read from. -/
theorem placeAt_sent {l : List Byte} {o : Nat} {p : Place} (h : placeAt l o = some p) : wfPlace p = true ∧
    placeBytes p = [octet l o, octet l (o + 1), octet l (o + 2), octet l (o + 3), octet l (o + 4)] := by
  unfold placeAt at h
  simp only [part_one] at h
  exact placeOf_sent h

theorem askBytes_of_some {l : List Byte} {a : AskBody} (hl : l.length = 14) (h : askBodyOf l = some a) :
    wfAsk a = true ∧ askBytes a = l := by
  unfold askBodyOf at h
  simp only [Option.bind_eq_some_iff, keepIf_eq_some, Bool.and_eq_true] at h
  obtain ⟨k, hk, c, hc, st, hst, ⟨hp, ht⟩, rfl⟩ := h
  constructor
  · simp only [wfAsk, wfSeq, wfWord, Bool.and_eq_true, decide_eq_true_eq]
    exact ⟨⟨⟨⟨part_one_le .., ht⟩, hp⟩, part_two_le (by omega)⟩, part_two_le (by omega)⟩
  · refine Eq.trans ?_ (map_octet hl)
    rw [askBytes, placeKindCode_of_some hk, heightCode_of_some hc, yesCode_of_some hst]
    simp (disch := omega) only [part_one, part_two, part_five, byteOf_toNat, bytes2_word2, bytes5_word5]
    rfl

theorem grantBytes_of_some {l : List Byte} {g : GrantBody} (hl : l.length = 16) (h : grantOf l = some g) :
    wfGrant g = true ∧ grantBytes g = l := by
  unfold grantOf at h
  simp only [Option.bind_eq_some_iff, keepIf_eq_some, Bool.and_eq_true] at h
  obtain ⟨place, hpl, ⟨hp, ha⟩, rfl⟩ := h
  obtain ⟨hwf, hbytes⟩ := placeAt_sent hpl
  constructor
  · simp only [wfGrant, wfSeq, wfWord, Bool.and_eq_true, decide_eq_true_eq]
    exact ⟨⟨⟨⟨⟨ha, part_one_le ..⟩, hp⟩, hwf⟩, part_two_le (by omega)⟩, part_two_le (by omega)⟩
  · refine Eq.trans ?_ (map_octet hl)
    rw [grantBytes, hbytes]
    simp (disch := omega) only [part_one, part_two, part_five, byteOf_toNat, bytes2_word2, bytes5_word5]
    rfl

theorem refuseBytes_of_some {l : List Byte} {r : RefuseBody} (hl : l.length = 8) (h : refuseOf l = some r) :
    wfRefuse r = true ∧ refuseBytes r = l := by
  unfold refuseOf at h
  simp only [Option.bind_eq_some_iff, keepIf_eq_some, Bool.and_eq_true] at h
  obtain ⟨reason, hr, ⟨hp, ha⟩, rfl⟩ := h
  constructor
  · simp only [wfRefuse, wfSeq, Bool.and_eq_true, decide_eq_true_eq]
    exact ⟨⟨ha, part_one_le ..⟩, hp⟩
  · refine Eq.trans ?_ (map_octet hl)
    rw [refuseBytes, refuseCode_of_some hr]
    simp (disch := omega) only [part_one, part_five, byteOf_toNat, bytes5_word5]
    rfl

theorem placedBytes_of_some {l : List Byte} {p : PlacedBody} (hl : l.length = 13) (h : placedOf l = some p) :
    wfPlaced p = true ∧ placedBytes p = l := by
  unfold placedOf at h
  simp only [Option.bind_eq_some_iff, keepIf_eq_some, Bool.and_eq_true] at h
  obtain ⟨place, hpl, ⟨hp, ha⟩, rfl⟩ := h
  obtain ⟨hwf, hbytes⟩ := placeAt_sent hpl
  constructor
  · simp only [wfPlaced, wfWord, Bool.and_eq_true, decide_eq_true_eq]
    exact ⟨⟨⟨hp, ha⟩, hwf⟩, part_two_le (by omega)⟩
  · refine Eq.trans ?_ (map_octet hl)
    rw [placedBytes, hbytes]
    simp (disch := omega) only [part_one, part_two, part_five, byteOf_toNat, bytes2_word2, bytes5_word5]
    rfl

theorem releaseBytes_of_some {l : List Byte} {r : ReleaseBody} (hl : l.length = 8) (h : releaseOf l = some r) :
    wfRelease r = true ∧ releaseBytes r = l := by
  unfold releaseOf at h
  simp only [Option.bind_eq_some_iff, keepIf_eq_some, Bool.and_eq_true] at h
  obtain ⟨reason, hr, ⟨hp, ha⟩, rfl⟩ := h
  constructor
  · simp only [wfRelease, wfSeq, Bool.and_eq_true, decide_eq_true_eq]
    exact ⟨⟨hp, ha⟩, part_one_le ..⟩
  · refine Eq.trans ?_ (map_octet hl)
    rw [releaseBytes, releaseCode_of_some hr]
    simp (disch := omega) only [part_one, part_five, byteOf_toNat, bytes5_word5]
    rfl

/-! ## The ADVERT -/

theorem laneBytes_of_some {l : List Byte} {x : LaneAdvert} (hl : l.length = 6) (h : laneOf l = some x) :
    wfLaneAdvert x = true ∧ laneBytes x = l := by
  unfold laneOf at h
  simp only [Option.bind_eq_some_iff, Option.map_eq_some_iff] at h
  obtain ⟨a, ha, high, hh, rfl⟩ := h
  constructor
  · simp only [wfLaneAdvert, wfByte, wfWord, Bool.and_eq_true, decide_eq_true_eq]
    exact ⟨⟨part_one_le .., part_two_le (by omega)⟩, part_one_le ..⟩
  · refine Eq.trans ?_ (map_octet hl)
    rw [laneBytes, assignmentCode_of_some ha, yesCode_of_some hh]
    simp (disch := omega) only [part_one, part_two, byteOf_toNat, bytes2_word2]
    rfl

/-- The lane entries read are as many as were asked for, each well formed, and go as the bytes they came as. -/
theorem lanesOf_sent {n : Nat} {l : List Byte} {lanes : List LaneAdvert} (hl : l.length = 6 * n)
    (h : lanesOf n l = some lanes) :
    lanes.length = n ∧ lanes.all wfLaneAdvert = true ∧ lanes.flatMap laneBytes = l := by
  induction n generalizing l lanes with
  | zero =>
    obtain rfl := List.eq_nil_of_length_eq_zero hl
    cases h
    exact ⟨rfl, rfl, rfl⟩
  | succ n ih =>
    simp only [lanesOf, Option.bind_eq_some_iff, Option.map_eq_some_iff] at h
    obtain ⟨x, hx, rest, hrest, rfl⟩ := h
    obtain ⟨hwf, hbytes⟩ := laneBytes_of_some (by rw [List.length_take]; omega) hx
    obtain ⟨hn, hall, hflat⟩ := ih (by rw [List.length_drop]; omega) hrest
    refine ⟨by rw [List.length_cons, hn], by rw [List.all_cons, hwf, hall]; rfl, ?_⟩
    rw [List.flatMap_cons, hbytes, hflat, List.take_append_drop]

theorem advertBytes_of_some {l : List Byte} {a : AdvertBody} (hn : part l 12 1 ≤ 4)
    (hl : l.length = 13 + 6 * part l 12 1) (h : advertOf l = some a) : wfAdvert a = true ∧ advertBytes a = l := by
  unfold advertOf at h
  simp only [Option.bind_eq_some_iff, Option.map_eq_some_iff] at h
  obtain ⟨st, hst, ph, hph, lanes, hlanes, rfl⟩ := h
  obtain ⟨hst, hwf⟩ := stateCode_of_some hst
  obtain ⟨hcount, hall, hflat⟩ := lanesOf_sent (by rw [List.length_drop]; omega) hlanes
  constructor
  · simp only [wfAdvert, wfOpenings, wfByte, wfWord, Bool.and_eq_true, decide_eq_true_eq]
    exact ⟨⟨⟨⟨⟨⟨hwf, part_two_le (by omega)⟩, part_two_le (by omega)⟩, part_two_le (by omega)⟩,
      ⟨⟨⟨part_one_le .., part_one_le ..⟩, part_one_le ..⟩, part_one_le ..⟩⟩, by omega⟩, hall⟩
  · have hhead : (l.take 13).length = 13 := by rw [List.length_take]; omega
    rw [advertBytes_eq, hflat]
    refine Eq.trans ?_ (List.take_append_drop 13 l)
    refine congrArg (· ++ l.drop 13) (Eq.trans ?_ (map_octet hhead))
    rw [advertHead, hst, phaseCode_of_some hph, hcount, openingBytes]
    simp (disch := omega) only [part_one, part_two, byteOf_toNat, bytes2_word2]
    refine Eq.trans ?_ (List.map_congr_left fun i hi => ?_) (b := (List.range 13).map (octet l))
    · rfl
    · rw [octet, octet, List.getElem?_take_of_lt (List.mem_range.mp hi)]

/-! ## The CLOSE -/

theorem signedPart_wf (l : List Byte) (o : Nat) : wfSigned (signedPart l o) = true := by
  have h1 := BitVec.two_mul_toInt_lt (x := BitVec.ofNat 32 (part l o 4))
  have h2 := BitVec.le_two_mul_toInt (x := BitVec.ofNat 32 (part l o 4))
  rw [wfSigned, Bool.and_eq_true, decide_eq_true_eq, decide_eq_true_eq, signedPart]
  omega

theorem signedBytes4_signedPart {l : List Byte} {o : Nat} (h : o + 4 ≤ l.length) :
    signedBytes4 (signedPart l o) = bytes4 (part l o 4) := by
  have hle := part_four_le h
  rw [signedBytes4, signedPart, BitVec.ofInt_toInt, BitVec.toNat_ofNat, Nat.mod_eq_of_lt (by omega)]

theorem closeMarks_of_testBit {n : Nat} (h : n ≤ 7) :
    yesCode (n.testBit 0) + 2 * yesCode (n.testBit 1) + 4 * yesCode (n.testBit 2) = n := by
  interval_cases n <;> decide

theorem idBytes_of_some {l : List Byte} (hl : 8 ≤ l.length) (h : wfTrailerId (eightBytes l) = true) :
    (eightBytes l).toList.map characterByte = l.take 8 := by
  simp only [wfTrailerId, List.all_eq_true, decide_eq_true_eq] at h
  refine (List.map_congr_left fun b hb => characterByte_eq (h b hb)).trans ((List.map_id' _).trans ?_)
  refine List.ext_getElem (by simp; omega) fun i h1 h2 => ?_
  simp only [List.length_take] at h2
  simp [eightBytes, show i < l.length by omega]

theorem closeBytes_of_some {l : List Byte} {c : CloseBody} (hl : l.length = 32) (h : closeOf l = some c) :
    wfClose { c with trailerId := Vector.replicate 8 0 } = true ∧
      (wfTrailerId c.trailerId = true → closeBytes c = l) := by
  simp only [closeOf, keepIf_eq_some, decide_eq_true_eq] at h
  obtain ⟨hm, rfl⟩ := h
  constructor
  · simp only [wfClose, wfByte, wfWord, signedPart_wf, Bool.and_eq_true, decide_eq_true_eq]
    have hid : wfTrailerId (Vector.replicate 8 0) = true := by decide
    have h4 : part l 15 4 ≤ 4294967295 := part_four_le (by omega)
    exact ⟨⟨⟨⟨⟨⟨⟨⟨⟨⟨hid, part_one_le ..⟩, part_two_le (by omega)⟩, part_two_le (by omega)⟩, part_one_le ..⟩,
      part_one_le ..⟩, by omega⟩, by omega⟩, trivial⟩, trivial⟩, trivial⟩
  · intro hid
    have h4 : part l 15 4 ≤ 4294967295 := part_four_le (by omega)
    have htail : (l.drop 8).length = 24 := by rw [List.length_drop]; omega
    rw [closeBytes_eq, idBytes, idBytes_of_some (by omega) hid]
    refine Eq.trans ?_ (List.take_append_drop 8 l)
    refine congrArg (l.take 8 ++ ·) (Eq.trans ?_ (map_octet htail))
    rw [closeTail, closeMarks, closeMarks_of_testBit hm, signedBytes4_nat _ h4]
    simp (disch := omega) only [signedBytes4_signedPart]
    simp (disch := omega) only [part_one, part_two, part_four, byteOf_toNat, bytes2_word2, bytes4_word4]
    refine Eq.trans ?_ (List.map_congr_left fun i _ => ?_) (b := (List.range 24).map fun i => octet l (8 + i))
    · rfl
    · rw [octet, octet, List.getElem?_drop]

/-! ## Bodies of every kind -/

/-- A body read is one that R24 accepts, and of the kind it was read as; one that is well formed goes as the bytes it
came as. -/
theorem bodyOf_sent {kind : Nat} {l : List Byte} {b : Body} (hl : lengthFits kind l = true)
    (h : bodyOf kind l = some b) :
    kindCode b = kind ∧ receivedBody b = true ∧ (wfBody b = true → bodyBytes b = l) := by
  unfold bodyOf at h
  split at h
  all_goals simp only [Option.map_eq_some_iff, lengthFits, Bool.and_eq_true, decide_eq_true_eq, reduceCtorEq] at h hl
  · obtain ⟨a, ha, rfl⟩ := h
    obtain ⟨⟨_, hn⟩, hl⟩ := hl
    obtain ⟨hwf, hb⟩ := advertBytes_of_some hn hl ha
    exact ⟨rfl, hwf, fun _ => hb⟩
  · obtain ⟨a, ha, rfl⟩ := h
    obtain ⟨hwf, hb⟩ := askBytes_of_some hl ha
    exact ⟨rfl, hwf, fun _ => hb⟩
  · obtain ⟨g, hg, rfl⟩ := h
    obtain ⟨hwf, hb⟩ := grantBytes_of_some hl hg
    exact ⟨rfl, hwf, fun _ => hb⟩
  · obtain ⟨r, hr, rfl⟩ := h
    obtain ⟨hwf, hb⟩ := refuseBytes_of_some hl hr
    exact ⟨rfl, hwf, fun _ => hb⟩
  · obtain ⟨p, hp, rfl⟩ := h
    obtain ⟨hwf, hb⟩ := placedBytes_of_some hl hp
    exact ⟨rfl, hwf, fun _ => hb⟩
  · obtain ⟨r, hr, rfl⟩ := h
    obtain ⟨hwf, hb⟩ := releaseBytes_of_some hl hr
    exact ⟨rfl, hwf, fun _ => hb⟩
  · obtain ⟨c, hc, rfl⟩ := h
    obtain ⟨hwf, hb⟩ := closeBytes_of_some hl hc
    refine ⟨rfl, hwf, fun hbody => hb ?_⟩
    simp only [wfBody, wfClose, Bool.and_eq_true] at hbody
    exact hbody.1.1.1.1.1.1.1.1.1.1

end Sys2Proof.Machine
end

section
/-! PROOFS. Whole frames: what is sent is read back, what is read was sent, and the arrival of bytes (sections 2.2, 2.4
and 2.5). -/

namespace Sys2Proof.Machine

/-! ## A frame sent -/

theorem crcBytes_length (l : List Byte) : (crcBytes l).length = 2 := rfl

theorem byteOf_yesCode (b : Bool) : byteOf (yesCode b) = if b then 1 else 0 := by cases b <;> rfl

theorem headerBytes_length (f : Frame) : (headerBytes f).length = 5 := rfl

/-- The header of a frame sent gives the place of its check, where the body fits one byte's length. -/
theorem coveredLength_frameBytes {f : Frame} (h : (bodyBytes f.body).length ≤ 255) :
    coveredLength (frameBytes f) = (headerBytes f ++ bodyBytes f.body).length := by
  have h4 : part (frameBytes f) 4 1 = (byteOf (bodyBytes f.body).length).toNat := part_one _ 4
  rw [coveredLength, h4, toNat_byteOf_of_le h, List.length_append, headerBytes_length]

theorem checkFits_frameBytes {f : Frame} (h : (bodyBytes f.body).length ≤ 255) :
    checkFits (frameBytes f) = true := by
  have hc := coveredLength_frameBytes h
  have htake : (frameBytes f).take (coveredLength (frameBytes f)) = headerBytes f ++ bodyBytes f.body :=
    List.take_left' hc.symm
  have hdrop : (frameBytes f).drop (coveredLength (frameBytes f)) = crcBytes (headerBytes f ++ bodyBytes f.body) :=
    List.drop_left' hc.symm
  rw [checkFits, htake, hdrop, List.take_of_length_le (crcBytes_length _).le]
  exact decide_eq_true rfl

theorem wfRestart_iff (f : Frame) : wfRestart f = true ↔ (f.restart = true → kindCode f.body = 1) := by
  unfold wfRestart
  cases f.body <;> simp [kindCode]

theorem flagsFit_iff (kind flags : Nat) : flagsFit kind flags = true ↔ flags = 0 ∨ flags = 1 ∧ kind = 1 := by
  simp [flagsFit]

/-- The flags byte of a well-formed frame fits its kind, and says the restart mark. -/
theorem flags_of_wfRestart {f : Frame} (h : wfRestart f = true) :
    flagsFit (kindCode f.body) (byteOf (yesCode f.restart)).toNat = true ∧
      decide ((byteOf (yesCode f.restart)).toNat = 1) = f.restart := by
  rw [wfRestart_iff] at h
  cases hr : f.restart
  · exact ⟨rfl, rfl⟩
  · exact ⟨(flagsFit_iff ..).mpr (.inr ⟨rfl, h hr⟩), rfl⟩

theorem kindCode_le (b : Body) : kindCode b ≤ 7 := by cases b <;> simp [kindCode]

theorem frameOf_frameBytes {f : Frame} (h : wfFrame f = true) : frameOf (frameBytes f) = some f := by
  simp only [wfFrame, wfBay, wfSeq, Bool.and_eq_true, decide_eq_true_eq] at h
  obtain ⟨⟨⟨⟨hb1, hb2⟩, hseq⟩, hr⟩, hbody⟩ := h
  obtain ⟨hfits, hlen, hread⟩ := bodyOf_bodyBytes hbody
  obtain ⟨hflags, hrestart⟩ := flags_of_wfRestart hr
  have hc := coveredLength_frameBytes hlen
  have htake : (frameBytes f).take (coveredLength (frameBytes f)) = headerBytes f ++ bodyBytes f.body :=
    List.take_left' hc.symm
  have hdrop : (headerBytes f ++ bodyBytes f.body).drop 5 = bodyBytes f.body := rfl
  have hend : (frameBytes f).length = coveredLength (frameBytes f) + 2 := by
    rw [hc, frameBytes, List.length_append (bs := crcBytes _), crcBytes_length]
  have h0 : part (frameBytes f) 0 1 = kindCode f.body := by
    have hk := kindCode_le f.body
    exact (part_one _ 0).trans (toNat_byteOf_of_le (by omega))
  have h1 : part (frameBytes f) 1 1 = f.sender := (part_one _ 1).trans (toNat_byteOf_of_le (by omega))
  have h2 : part (frameBytes f) 2 1 = f.seq := (part_one _ 2).trans (toNat_byteOf_of_le hseq)
  have h3 : part (frameBytes f) 3 1 = (byteOf (yesCode f.restart)).toNat := part_one _ 3
  unfold frameOf
  rw [htake, hdrop, h0, h1, h2, h3]
  simp [hread, hrestart, hend, hfits, hb1, hb2, hflags]

theorem iterate_crcBit (r : BitVec 16) (b : Byte) :
    crcByte r b = Nat.iterate crcBit 8 (r ^^^ (b.setWidth 16 <<< 8)) := rfl

theorem flatMap_laneBytes (l : List LaneAdvert) : l.flatMap laneBytes = (l.map fun x =>
    [byteOf x.number, byteOf (assignmentCode x.assignment), byteOf (yesCode x.high)] ++ bytes2 x.dest ++
      [byteOf x.fill]).flatten := rfl

/-- Settles O16: the layouts are those of the model's tables by definition; the reading back is put together from the
codes, the numbers and the bodies of each kind. -/
theorem framesReadBack : Obligations.FramesReadBack := by
  unfold Obligations.FramesReadBack
  refine ⟨⟨rfl, fun l b => ?_, fun _ => rfl, fun _ => rfl⟩, fun _ _ => ⟨rfl, rfl, rfl, rfl, rfl⟩, fun f => ?_,
    ⟨rfl, rfl, rfl, rfl, rfl, rfl, rfl, rfl, fun _ _ _ => ⟨rfl, rfl, rfl⟩⟩, fun f h => ?_⟩
  · rw [crc16, List.foldl_append]
    exact iterate_crcBit ..
  · refine ⟨[byteOf (kindCode f.body)], bodyBytes f.body, ?_, ?_⟩
    · rw [← byteOf_yesCode]
      rfl
    · refine ⟨?_, ?_, ?_, ?_, ?_, ?_, ?_⟩
      · rintro a ha
        rw [ha]
        refine ⟨rfl, ?_⟩
        simp only [bodyBytes, advertBytes, openingBytes, flatMap_laneBytes, List.append_assoc, List.cons_append,
          List.nil_append]
      all_goals
        rintro x hx
        rw [hx]
        exact ⟨rfl, rfl⟩
  · have hb : wfBody f.body = true := by
      simp only [wfFrame, Bool.and_eq_true] at h
      exact h.2
    obtain ⟨_, hlen, _⟩ := bodyOf_bodyBytes hb
    exact ⟨checkFits_frameBytes hlen, frameOf_frameBytes h⟩

/-! ## A frame read -/

/-- The frame of a header and a body read. -/
def frameRead (bytes : List Byte) (b : Body) : Frame :=
  { sender := part bytes 1 1, seq := part bytes 2 1, restart := decide (part bytes 3 1 = 1), body := b }

/-- What `frameOf` reads: the checks 2 to 8 of R24 that the bytes pass, and the fields. -/
theorem frameOf_some {bytes : List Byte} {f : Frame} (h : frameOf bytes = some f) :
    bytes.length = coveredLength bytes + 2 ∧ 1 ≤ part bytes 1 1 ∧ part bytes 1 1 ≤ 63 ∧
      lengthFits (part bytes 0 1) ((bytes.take (coveredLength bytes)).drop 5) = true ∧
        flagsFit (part bytes 0 1) (part bytes 3 1) = true ∧
          ∃ b, bodyOf (part bytes 0 1) ((bytes.take (coveredLength bytes)).drop 5) = some b ∧
            f = frameRead bytes b := by
  unfold frameOf at h
  dsimp only at h
  split at h
  · rename_i hchecks
    simp only [Bool.and_eq_true, decide_eq_true_eq] at hchecks
    obtain ⟨⟨⟨⟨hend, hfits⟩, h1⟩, h63⟩, hflags⟩ := hchecks
    obtain ⟨b, hb, rfl⟩ := Option.map_eq_some_iff.mp h
    exact ⟨hend, h1, h63, hfits, hflags, b, hb, rfl⟩
  · cases h

theorem receivedFrame_of_frameOf {bytes : List Byte} {f : Frame} (h : frameOf bytes = some f) :
    receivedFrame f = true := by
  obtain ⟨_, h1, h63, hfits, hflags, b, hb, rfl⟩ := frameOf_some h
  obtain ⟨hkind, hrec, _⟩ := bodyOf_sent hfits hb
  have hr : wfRestart (frameRead bytes b) = true := by
    rw [wfRestart_iff]
    intro hr
    have hr : part bytes 3 1 = 1 := of_decide_eq_true hr
    obtain h0 | ⟨_, hk⟩ := (flagsFit_iff ..).mp hflags
    · omega
    · exact hkind.trans hk
  simp only [receivedFrame, wfBay, wfSeq, Bool.and_eq_true, decide_eq_true_eq]
  exact ⟨⟨⟨⟨h1, h63⟩, part_one_le ..⟩, hr⟩, hrec⟩

/-- A frame read from bytes whose check is correct goes out as those bytes, where its trailer ID's characters do. -/
theorem frameBytes_of_frameOf {bytes : List Byte} {f : Frame} (h : frameOf bytes = some f)
    (hcheck : checkFits bytes = true) (hwf : wfFrame f = true) : frameBytes f = bytes := by
  obtain ⟨hend, h1, h63, hfits, hflags, b, hb, rfl⟩ := frameOf_some h
  obtain ⟨hkind, _, hsent⟩ := bodyOf_sent hfits hb
  have hcov : 5 ≤ coveredLength bytes := Nat.le_add_right ..
  have hbody : bodyBytes b = (bytes.take (coveredLength bytes)).drop 5 := by
    simp only [wfFrame, Bool.and_eq_true] at hwf
    exact hsent hwf.2
  have hlen : (bodyBytes b).length = part bytes 4 1 := by
    rw [hbody, List.length_drop, List.length_take, Nat.min_eq_left (by omega), coveredLength]
    omega
  have hyes : byteOf (yesCode (decide (part bytes 3 1 = 1))) = octet bytes 3 := by
    have hcode : yesCode (decide (part bytes 3 1 = 1)) = part bytes 3 1 := by
      obtain h0 | ⟨h0, _⟩ := (flagsFit_iff ..).mp hflags <;> rw [h0] <;> rfl
    rw [hcode, part_one, byteOf_toNat]
  have hheader : headerBytes (frameRead bytes b) = bytes.take 5 := by
    have h5 : (bytes.take 5).length = 5 := by rw [List.length_take]; omega
    refine Eq.trans ?_ (map_octet h5)
    have hoctet : (List.range 5).map (octet (bytes.take 5)) = (List.range 5).map (octet bytes) :=
      List.map_congr_left fun i hi => by rw [octet, octet, List.getElem?_take_of_lt (List.mem_range.mp hi)]
    rw [hoctet, headerBytes]
    simp only [frameRead, hkind, hyes, hlen]
    simp only [part_one, byteOf_toNat]
    rfl
  have hcovered : headerBytes (frameRead bytes b) ++ bodyBytes b = bytes.take (coveredLength bytes) := by
    have h5 : bytes.take 5 = (bytes.take (coveredLength bytes)).take 5 := by
      rw [List.take_take, Nat.min_eq_left hcov]
    rw [hheader, hbody, h5, List.take_append_drop]
  have hcrc : crcBytes (bytes.take (coveredLength bytes)) = bytes.drop (coveredLength bytes) := by
    have h2 : (bytes.drop (coveredLength bytes)).length ≤ 2 := by rw [List.length_drop]; omega
    rw [of_decide_eq_true hcheck, List.take_of_length_le h2]
  rw [frameBytes, show (frameRead bytes b).body = b from rfl, hcovered, hcrc, List.take_append_drop]

/-- Bytes that end before the two of the check fail it. -/
theorem checkFits_of_short {bytes : List Byte} (h : bytes.length < coveredLength bytes + 2) :
    checkFits bytes = false := by
  refine decide_eq_false fun heq => ?_
  have hlen := congrArg List.length heq
  rw [crcBytes_length, List.length_take, List.length_drop] at hlen
  omega

theorem frameOf_of_long {bytes : List Byte} (h : coveredLength bytes + 2 < bytes.length) :
    frameOf bytes = none := by
  cases hf : frameOf bytes with
  | none => rfl
  | some f =>
    obtain ⟨hend, _⟩ := frameOf_some hf
    omega

/-! ## An arrival -/

theorem State.arrive_reading {s : State} (bytes : List Byte) (h : s.reading = true) : s.arrive bytes = s := by
  simp [State.arrive, h]

theorem State.arrive_checkFails {s : State} {bytes : List Byte} (hr : s.reading = false)
    (h : checkFits bytes = false) : s.arrive bytes = s.handAll [.doubtAll, .noticeRaise .loss] := by
  simp [State.arrive, hr, h, State.handAll, State.hand, State.raiseNotice]

theorem State.arrive_discarded {s : State} {bytes : List Byte} (hr : s.reading = false)
    (hc : checkFits bytes = true) (h : frameOf bytes = none) : s.arrive bytes = s := by
  simp [State.arrive, hr, hc, h]

theorem State.arrive_accepted {s : State} {bytes : List Byte} {f : Frame} (hr : s.reading = false)
    (hc : checkFits bytes = true) (h : frameOf bytes = some f) : s.arrive bytes =
      if s.fbi.rx.length < 16 then s.setFbi { s.fbi with rx := s.fbi.rx ++ [f] } else s := by
  simp [State.arrive, hr, hc, h]
  rfl

/-- A full receive queue loses any bytes whose check is correct (R28). -/
theorem State.arrive_full {s : State} {bytes : List Byte} (hc : checkFits bytes = true)
    (hfull : 16 ≤ s.fbi.rx.length) : s.arrive bytes = s := by
  cases hr : s.reading with
  | true => exact State.arrive_reading bytes hr
  | false =>
    cases hf : frameOf bytes with
    | none => exact State.arrive_discarded hr hc hf
    | some f => rw [State.arrive_accepted hr hc hf, if_neg (by omega)]

theorem exec_frameArrival {s : State} (bytes : List Byte) (h : s.resetLine = false) :
    exec (.frameArrival bytes) s = .next (s.arrive bytes) :=
  event_running (f := fun s => s.arrive bytes) h

/-- Settles O34: the arrival case by case, and what a frame read says of its bytes. -/
theorem arrivalsAreJudged : Obligations.ArrivalsAreJudged := by
  unfold Obligations.ArrivalsAreJudged
  refine ⟨fun bytes => ⟨?_, decide_eq_true_iff⟩, fun bytes s h0 => ?_⟩
  · rw [part_one, octet]
    cases bytes[4]? <;> rfl
  rw [exec_frameArrival bytes h0]
  have hcov : coveredLength bytes + 2 = 7 + part bytes 4 1 := by rw [coveredLength]; omega
  refine ⟨fun hr hc => ?_, fun hr hc hf => ?_, fun f hr hc hf hlt => ?_, fun hfull hc => ?_, fun hr => ?_,
    fun f hf => ⟨receivedFrame_of_frameOf hf, frameBytes_of_frameOf hf⟩, fun h => ?_, fun h => ?_⟩
  · rw [State.arrive_checkFails hr hc]
  · rw [State.arrive_discarded hr hc hf]
  · rw [State.arrive_accepted hr hc hf, if_pos hlt]
    rfl
  · rw [State.arrive_full hc hfull]
  · rw [State.arrive_reading bytes hr]
  · exact checkFits_of_short (by omega)
  · exact frameOf_of_long (by omega)

end Sys2Proof.Machine
end

section
/-! PROOFS. Attempts, collisions and backoff (R20, R21), and the figures of an ADVERT (R25, R95, R97, R112, R113). -/

namespace Sys2Proof.Machine

/-! ## Attempts and collisions -/

theorem exec_attemptStart_cons {s : State} {o : Outgoing} {rest : List Outgoing} (hl : s.resetLine = false)
    (ht : s.fbi.transmitter = .deferring) (hq : s.fbi.tx = o :: rest) :
    exec .attemptStart s = .next (s.setFbi { s.fbi with
      transmitter := .sending, inHand := true, sentAs := s.own
      lineOut := .attempt (frameBytes (frameFor s o)) }) := by
  rw [exec, execAttemptStart, event_running hl]
  simp only [ht, hq]

theorem exec_attemptStart_idle {s : State} (hl : s.resetLine = false)
    (h : s.fbi.transmitter ≠ .deferring ∨ s.fbi.tx = []) : exec .attemptStart s = .next s := by
  rw [exec, execAttemptStart, event_running hl]
  obtain h | h := h
  · cases ht : s.fbi.transmitter <;> simp_all
  · cases ht : s.fbi.transmitter <;> simp [h]

theorem exec_backoffEnd_backoff {s : State} {n : Nat} (hl : s.resetLine = false)
    (ht : s.fbi.transmitter = .backoff n) :
    exec .backoffEnd s = .next (s.setFbi { s.fbi with transmitter := .deferring }) := by
  rw [exec, execBackoffEnd, event_running hl]
  simp only [ht]

theorem exec_backoffEnd_other {s : State} (hl : s.resetLine = false) (h : ∀ n, s.fbi.transmitter ≠ .backoff n) :
    exec .backoffEnd s = .next s := by
  rw [exec, execBackoffEnd, event_running hl]
  cases ht : s.fbi.transmitter <;> simp_all

/-- A collision below the sixteenth keeps the frame and waits. -/
theorem exec_collision_below {s : State} {o : Outgoing} {rest : List Outgoing} (hl : s.resetLine = false)
    (ht : s.fbi.transmitter = .sending) (hq : s.fbi.tx = o :: rest) (hk : s.fbi.collisions < 15) :
    exec .collision s = .next (s.setFbi { s.fbi with
      collisions := s.fbi.collisions + 1, lineOut := .jam
      transmitter := .backoff (s.fbi.sentAs + 64 * s.fbi.collisions) }) := by
  have hk : s.fbi.collisions + 1 < collisionLimit := Nat.succ_lt_succ hk
  rw [exec, execCollision, event_running hl]
  simp only [ht, hq, if_pos hk, backoffSlots, Nat.add_sub_cancel]

theorem exec_collision_last {s : State} {o : Outgoing} {rest : List Outgoing} (hl : s.resetLine = false)
    (ht : s.fbi.transmitter = .sending) (hq : s.fbi.tx = o :: rest) (hk : 15 ≤ s.fbi.collisions) :
    exec .collision s = .next (s.discardHead o) := by
  have hk : ¬ s.fbi.collisions + 1 < collisionLimit := Nat.not_lt.mpr (Nat.succ_le_succ hk)
  rw [exec, execCollision, event_running hl]
  simp only [ht, hq, if_neg hk]

theorem exec_fragmentReceived (s : State) : exec .fragmentReceived s = .next s := by
  cases hl : s.resetLine with
  | false => exact event_running (f := id) hl
  | true => exact event_held (f := id) hl

/-! ## The figures told -/

theorem formAdvert_state (s : State) : some (formAdvert s).state = s.dcu.bayState.or (some .listen) := by
  unfold formAdvert
  cases s.dcu.bayState <;> rfl

theorem openingsFor_openingsOf (f : HeightClass → Nat) (h : HeightClass) : openingsFor (openingsOf f) h = f h := by
  cases h <;> rfl

theorem laneEntry_suspect {l : Lane} (h : l.assignment = .suspect) : laneEntry l =
    { number := l.number, assignment := l.assignment, high := l.high, dest := 0, fill := 0 } := by
  rw [laneEntry, if_pos h, h]

theorem laneEntry_known {l : Lane} (h : l.assignment ≠ .suspect) : laneEntry l =
    { number := l.number, assignment := l.assignment, high := l.high, dest := l.dest.getD 0,
      fill := l.items.length + l.puts.length } := by
  rw [laneEntry, if_neg h, laneFill]

/-- R113: the states of bay and plan in which a cut-off is told. -/
theorem tellsCutOff_iff (s : State) :
    ((s.inState .outbound && planOpen s) || (s.inState .closing && planOpen s) ||
        (s.inState .closed && decide (s.plan.state = .final))) = true ↔
      (s.dcu.bayState = some .outbound ∨ s.dcu.bayState = some .closing) ∧ s.plan.state = .opened ∨
        s.dcu.bayState = some .closed ∧ s.plan.state = .final := by
  simp only [Bool.or_eq_true, Bool.and_eq_true, State.inState_iff, planOpen, decide_eq_true_eq, or_and_right]

theorem outboundOpen_iff (s : State) : (s.inState .outbound && planOpen s) = true ↔
    s.dcu.bayState = some .outbound ∧ s.plan.state = .opened := by
  simp only [Bool.and_eq_true, State.inState_iff, planOpen, decide_eq_true_eq]

theorem State.cutOffFigure_le (s : State) : s.cutOffFigure ≤ 600 := by
  unfold State.cutOffFigure
  split
  · split
    · exact Nat.min_le_right ..
    · exact Nat.min_le_right ..
  · exact Nat.zero_le _

/-- Settles O32: the commands case by case, then the fields of the ADVERT by the definitions they are formed with. -/
theorem attemptsAndCollisions : Obligations.AttemptsAndCollisions := by
  unfold Obligations.AttemptsAndCollisions
  refine ⟨fun _ => rfl, fun s hl => ⟨exec_attemptStart_idle hl, exec_backoffEnd_other hl⟩,
    fun o rest s hl ht hq => ?_, fun o rest s hl ht hq hk => exec_collision_below hl ht hq hk,
    fun n s hl ht => exec_backoffEnd_backoff hl ht, exec_fragmentReceived, fun p f => ?_,
    fun c p h => openingsFor_openingsOf .., fun o h => ⟨by cases h <;> rfl, rfl, rfl, rfl, rfl⟩, fun c payload => ?_,
    fun l => ?_, fun s => ⟨rfl, fun c hc => ?_⟩, fun s => ⟨?_, ?_, rfl, s.cutOffFigure_le, fun h b hb => ?_,
      fun h => ?_⟩⟩
  · refine ⟨frameFor s o, exec_attemptStart_cons hl ht hq, rfl, rfl, ?_, ?_⟩
    · rintro x rfl
      exact ⟨rfl, rfl⟩
    · rintro rfl
      exact ⟨rfl, formAdvert s, rfl, formAdvert_state s, rfl, rfl, rfl, rfl, rfl, rfl⟩
  · refine ⟨fun hp hf => ?_, fun hp => ?_, fun hp => ?_⟩
    · simp [acceptingDest, hp, hf]
    · simp [acceptingDest, hp]
    · simp [acceptingDest, hp]
  · unfold grossMargin
    omega
  · by_cases h : l.assignment = .suspect
    · rw [laneEntry_suspect h]
      exact ⟨rfl, rfl, rfl, fun _ => ⟨rfl, rfl⟩, fun hn => absurd h hn⟩
    · rw [laneEntry_known h]
      exact ⟨rfl, rfl, rfl, fun hs => absurd hs h, fun _ => ⟨rfl, rfl⟩⟩
  · rw [State.planClass, State.trailerClass, hc]
    rfl
  · simp only [State.acceptingFigure, outboundOpen_iff]
  · simp only [State.openingsFigure, outboundOpen_iff]
  · rw [State.cutOffFigure, if_pos ((tellsCutOff_iff s).mpr h), hb]
    rfl
  · rw [State.cutOffFigure, if_neg (mt (tellsCutOff_iff s).mp h)]

end Sys2Proof.Machine
end

section
/-! PROOFS. What owners add to the transmit queue when they are told that a frame did not go: their own frames at the
tail, and events handed on behind those that wait (R22, R32). -/

namespace Sys2Proof.Machine

/-- Blocks' frames placed one after the other. -/
def framesPlaced (f : Fbi) (l : List OwnedFrame) : Fbi := l.foldl framePlaced f

theorem framesPlaced_eq (f : Fbi) (l : List OwnedFrame) : framesPlaced f l = { f with
    tx := f.tx ++ l.map .owned
    transmitter := if f.transmitter = .idle ∧ l ≠ [] then .deferring else f.transmitter } := by
  induction l generalizing f with
  | nil => simp [framesPlaced]
  | cons x l ih =>
    refine (ih (framePlaced f x)).trans ?_
    by_cases h : f.transmitter = .idle <;> simp [framePlaced, h]

theorem framesPlaced_append (f : Fbi) (l m : List OwnedFrame) :
    framesPlaced f (l ++ m) = framesPlaced (framesPlaced f l) m := List.foldl_append

theorem framesPlaced_turn (f : Fbi) (l : List OwnedFrame) (o : Owner) :
    framesPlaced { f with turn := o } l = { framesPlaced f l with turn := o } := by
  rw [framesPlaced_eq, framesPlaced_eq]

/-- From one state to the next the FBI takes blocks' frames at its queue's tail, the turn may pass on, and events may be
handed on behind those that wait. -/
structure FramesAdded (s t : State) : Prop where
  fbi : ∃ l o, t.fbi = { framesPlaced s.fbi l with turn := o }
  handed : s.handed <+: t.handed

theorem FramesAdded.of_fbi {s t : State} (h : t.fbi = s.fbi) (hh : s.handed <+: t.handed) : FramesAdded s t :=
  ⟨⟨[], s.fbi.turn, h⟩, hh⟩

theorem FramesAdded.refl (s : State) : FramesAdded s s := .of_fbi rfl (List.prefix_refl _)

theorem FramesAdded.trans {s t u : State} (h : FramesAdded s t) (g : FramesAdded t u) : FramesAdded s u := by
  obtain ⟨l, o, hl⟩ := h.fbi
  obtain ⟨m, p, hm⟩ := g.fbi
  refine ⟨⟨l ++ m, p, ?_⟩, h.handed.trans g.handed⟩
  rw [hm, hl, framesPlaced_append, framesPlaced_turn]

theorem OnlyLanes.framesAdded {s t : State} (h : OnlyLanes s t) : FramesAdded s t := by
  obtain ⟨l, hl⟩ := h.handed
  exact .of_fbi h.fbi ⟨l, hl.symm⟩

section
variable (s : State)

theorem State.hand_framesAdded (c : Instr) : FramesAdded s (s.hand c) := .of_fbi rfl (List.prefix_append ..)

theorem State.raiseIf_framesAdded (b : Bool) (k : NoticeKind) : FramesAdded s (s.raiseIf b k) :=
  (s.raiseIf_only b k).framesAdded

theorem State.placeFrame_framesAdded (x : OwnedFrame) : FramesAdded s (s.placeFrame (.owned x)) :=
  ⟨⟨[x], s.fbi.turn, rfl⟩, List.prefix_refl _⟩

/-! ## Frames owed -/

theorem State.lpuOwe_framesAdded (f : OwnedFrame) : FramesAdded s (s.lpuOwe f) := by
  obtain ⟨-, e⟩ | ⟨-, e⟩ := s.lpuOwe_cases f <;> rw [e] <;> exact .of_fbi rfl (List.prefix_refl _)

theorem State.mluOwe_framesAdded (f : OwnedFrame) : FramesAdded s (s.mluOwe f) := by
  obtain ⟨-, e⟩ | ⟨-, e⟩ := s.mluOwe_cases f <;> rw [e] <;> exact .of_fbi rfl (List.prefix_refl _)

theorem State.lpuOweClose_framesAdded (f : OwnedFrame) : FramesAdded s (s.lpuOweClose f) := by
  obtain e | ⟨_, -, -, e⟩ := s.lpuOweClose_cases f <;> rw [e] <;> exact .of_fbi rfl (List.prefix_refl _)

theorem State.dsuOwe_framesAdded (o : OwedRelease) : FramesAdded s (s.dsuOwe o) := by
  obtain ⟨_, _, -, -, e⟩ | ⟨_, -, e⟩ | e := s.dsuOwe_cases o <;> rw [e] <;> exact .of_fbi rfl (List.prefix_refl _)

theorem State.bump_framesAdded : FramesAdded s s.bump := .of_fbi rfl (List.prefix_refl _)

theorem State.oweAgain_framesAdded (f : OwnedFrame) : FramesAdded s (s.oweAgain f) := by
  unfold State.oweAgain
  split
  · split
    · exact s.lpuOweClose_framesAdded _
    · exact s.bump_framesAdded.trans (State.lpuOwe_framesAdded _ _)
  · exact s.bump_framesAdded.trans (State.mluOwe_framesAdded _ _)
  · split
    · exact s.bump_framesAdded.trans (State.dsuOwe_framesAdded _ _)
    · exact .refl s

/-! ## An ASK that did not go -/

theorem State.showRecord_framesAdded (i : Nat) (r : PalletRecord) (n : IndicationName) :
    FramesAdded s (s.showRecord i r n) := .of_fbi rfl (List.prefix_append ..)

theorem State.toException_framesAdded (i : Nat) (r : PalletRecord) : FramesAdded s (s.toException i r) :=
  (s.hand_framesAdded _).trans (State.showRecord_framesAdded _ _ _ _)

theorem State.searchAt_framesAdded (i : Nat) (r : PalletRecord) (st : Option SearchStep) :
    FramesAdded s (s.searchAt i r st) := by
  cases st with
  | none => exact s.toException_framesAdded i r
  | some st => exact .of_fbi rfl (List.prefix_append ..)

theorem State.askUnanswered_framesAdded (i : Nat) (r : PalletRecord) : FramesAdded s (s.askUnanswered i r) := by
  unfold State.askUnanswered State.beginSearch
  split
  · exact s.toException_framesAdded _ _
  · exact s.searchAt_framesAdded _ _ _

theorem State.dsuAskFailed_framesAdded (a : AskBody) : FramesAdded s (s.dsuAskFailed a) := by
  unfold State.dsuAskFailed State.onRecord
  split
  · exact .refl s
  · split
    · dsimp only
      split
      · exact s.askUnanswered_framesAdded _ _
      · exact .refl s
    · exact .refl s

theorem State.mluAskFailed_framesAdded (a : AskBody) : FramesAdded s (s.mluAskFailed a) := by
  unfold State.mluAskFailed
  split
  · exact (((s.updateLane_only _ _).trans (State.beginDrainSearch_only _ _)).trans (State.mluEnd_only _)).framesAdded
  · exact .refl s

theorem State.askFailed_framesAdded (o : Owner) (a : AskBody) : FramesAdded s (s.askFailed o a) := by
  cases o with
  | lpu => exact .refl s
  | mlu => exact s.mluAskFailed_framesAdded a
  | dsu => exact s.dsuAskFailed_framesAdded a

/-! ## A GRANT that did not go -/

theorem State.lpuOffer_framesAdded (n : Nat) (b : Body) : FramesAdded s (s.lpuOffer n b) := by
  obtain ⟨-, e⟩ | ⟨-, e⟩ | ⟨-, e⟩ := s.lpuOffer_cases n b <;> rw [e]
  · exact s.bump_framesAdded.trans (State.placeFrame_framesAdded _ _)
  · exact s.bump_framesAdded.trans (State.lpuOwe_framesAdded _ _)
  · exact .refl s

theorem State.giveUp_framesAdded (x : ReleaseReason) (r : Reservation) : FramesAdded s (s.giveUp x r) := by
  unfold State.giveUp
  split
  · exact s.hand_framesAdded _
  · exact s.lpuOffer_framesAdded _ _

theorem State.giveUpAll_framesAdded (x : ReleaseReason) (l : List Reservation) :
    FramesAdded s (s.giveUpAll x l) := by
  induction l generalizing s with
  | nil => exact .refl s
  | cons r l ih => exact (s.giveUp_framesAdded x r).trans (ih _)

theorem State.storePlan_framesAdded (p : Plan) : FramesAdded s (s.storePlan p) :=
  have hset : FramesAdded s (s.setPlan p) := .of_fbi rfl (List.prefix_refl _)
  hset.trans (State.raiseIf_framesAdded _ _ _)

theorem State.reportIfEmpty_framesAdded : FramesAdded s s.reportIfEmpty := by
  unfold State.reportIfEmpty
  split
  · exact s.hand_framesAdded _
  · exact .refl s

/-- A reservation taken away with no word to its asker: the reservations it strands are given up. -/
theorem State.removeReservation_framesAdded (row : Nat) (sd : Side) :
    FramesAdded s (s.removeReservation row sd id) :=
  (((s.storePlan_framesAdded _).trans (State.giveUpAll_framesAdded _ _ _)).trans
    (State.giveUpAll_framesAdded _ _ _)).trans (State.reportIfEmpty_framesAdded _)

theorem State.lpuGrantFailed_framesAdded (b : GrantBody) : FramesAdded s (s.lpuGrantFailed b) := by
  unfold State.lpuGrantFailed
  split
  · split
    · exact s.removeReservation_framesAdded _ _
    · exact .refl s
  · exact .refl s

theorem State.mluGrantFailed_framesAdded (b : GrantBody) : FramesAdded s (s.mluGrantFailed b) := by
  unfold State.mluGrantFailed
  split
  · exact (((s.updateLane_only _ _).trans (State.judgeLane_only _ _)).trans (State.mluEnd_only _)).framesAdded
  · exact .refl s

theorem State.grantFailed_framesAdded (o : Owner) (g : GrantBody) : FramesAdded s (s.grantFailed o g) := by
  cases o with
  | lpu => exact s.lpuGrantFailed_framesAdded g
  | mlu => exact s.mluGrantFailed_framesAdded g
  | dsu => exact .refl s

/-! ## The owner told (R22) -/

theorem State.tellFailed_framesAdded (o : Outgoing) : FramesAdded s (s.tellFailed o) := by
  cases o with
  | advert => exact .refl s
  | owned f =>
    unfold State.tellFailed State.toldFailed
    dsimp only
    split
    · exact s.askFailed_framesAdded _ _
    · exact s.grantFailed_framesAdded _ _
    · exact s.oweAgain_framesAdded f
    · exact s.oweAgain_framesAdded f
    · exact s.oweAgain_framesAdded f
    · exact .refl s
    · exact .refl s

end

end Sys2Proof.Machine
end

section
/-! PROOFS. Owed frames served at a space event (R34), and the frames that leave the queue (R20 to R22). -/

namespace Sys2Proof.Machine

/-! ## The oldest frame owed -/

theorem State.oldestOf_eq (s : State) (w : Owner) : s.oldestOf w = firstBest builtBefore (owedFrames s w) := by
  cases w <;> rfl

/-- A frame built before every other is the one named oldest. -/
theorem firstBest_of_oldest {l : List OwnedFrame} {f : OwnedFrame} (h : f ∈ l)
    (hold : ∀ g ∈ l, g ≠ f → f.built < g.built) : firstBest builtBefore l = some f := by
  induction l with
  | nil => cases h
  | cons a l ih =>
    obtain ⟨-, hl⟩ := List.forall_mem_cons.mp hold
    rw [firstBest]
    by_cases ha : a = f
    · subst ha
      cases hb : firstBest builtBefore l with
      | none => rfl
      | some b =>
        have hlate : ¬ b.built < a.built := by
          by_cases he : b = a
          · rw [he]
            exact lt_irrefl _
          · exact (hl b (firstBest_mem _ _ _ hb) he).not_gt
        simp [builtBefore, hlate]
    · have hf : f ∈ l := by simpa [Ne.symm ha] using h
      have hlt : f.built < a.built := hold a List.mem_cons_self ha
      simp [ih hf hl, builtBefore, hlt]

theorem mem_turnOrder (o w : Owner) : w ∈ turnOrder o := by cases o <;> cases w <;> decide

/-- A search along a list finds the first that answers. -/
theorem findSome_of_takeWhile {α : Type} {g : Owner → Option α} {w : Owner} {x : α} (hx : g w = some x)
    {l : List Owner} (hw : w ∈ l) (hnone : ∀ v ∈ l.takeWhile (fun v => decide (v ≠ w)), g v = none) :
    l.findSome? g = some x := by
  induction l with
  | nil => cases hw
  | cons v l ih =>
    by_cases hv : v = w
    · rw [List.findSome?_cons, hv, hx]
    · rw [List.takeWhile_cons_of_pos (by simpa using hv)] at hnone
      obtain ⟨h1, h2⟩ := List.forall_mem_cons.mp hnone
      rw [List.findSome?_cons, h1]
      exact ih (by simpa [Ne.symm hv] using hw) h2

/-! ## A block served -/

theorem laneOwedAsk_laneWithoutOwed (f : OwnedFrame) (l : Lane) :
    laneOwedAsk (laneWithoutOwed f l) = (laneOwedAsk l).filter fun g => decide (g ≠ f) := by
  unfold laneWithoutOwed
  split
  · rename_i h
    rw [h]
    cases l.drain <;> simp [laneOwedAsk, Option.filter]
  · rename_i h
    cases hg : laneOwedAsk l with
    | none => rfl
    | some g =>
      have hne : g ≠ f := fun e => h (by rw [hg, e])
      simp [Option.filter, hne]

theorem lanesWithoutOwed (f : OwnedFrame) (l : List Lane) :
    (l.map (laneWithoutOwed f)).filterMap laneOwedAsk =
      (l.filterMap laneOwedAsk).filter fun g => decide (g ≠ f) := by
  rw [List.filterMap_map, List.filter_filterMap]
  congr 1
  funext x
  exact laneOwedAsk_laneWithoutOwed f x

theorem toList_filter_map {α : Type} (o : Option α) (g : α → OwnedFrame) (f : OwnedFrame) :
    ((o.filter fun x => !decide (g x = f)).map g).toList =
      ((o.map g).toList).filter fun y => decide (y ≠ f) := by
  cases o with
  | none => rfl
  | some x => by_cases h : g x = f <;> simp [Option.filter, h]

theorem slotOwed_slotWithoutOwed (f : OwnedFrame) (x : Slot) :
    slotOwed (slotWithoutOwed f x) = (slotOwed x).filter fun g => decide (g ≠ f) := by
  cases x with
  | free => rfl
  | lone o => by_cases h : releaseFrame o = f <;> simp [slotWithoutOwed, slotOwed, h]
  | record r =>
    simp only [slotWithoutOwed, slotOwed, List.filter_append, toList_filter_map]

theorem slotsWithoutOwed (f : OwnedFrame) (l : List Slot) :
    (l.map (slotWithoutOwed f)).flatMap slotOwed = (l.flatMap slotOwed).filter fun g => decide (g ≠ f) := by
  induction l with
  | nil => rfl
  | cons x l ih => rw [List.map_cons, List.flatMap_cons, ih, slotOwed_slotWithoutOwed, List.flatMap_cons,
      List.filter_append]

theorem erase_eq_filter_ne {l : List OwnedFrame} (h : l.Nodup) (f : OwnedFrame) :
    l.erase f = l.filter fun g => decide (g ≠ f) := by
  rw [h.erase_eq_filter]
  refine List.filter_congr fun g _ => ?_
  by_cases hg : g = f <;> simp [hg]

/-- A frame owed no longer leaves its block's other frames. -/
theorem owedFrames_noLongerOwed {s : State} {f : OwnedFrame} (h : (owedFrames s f.owner).Nodup) :
    owedFrames (s.noLongerOwed f) f.owner = (owedFrames s f.owner).filter fun g => decide (g ≠ f) := by
  unfold State.noLongerOwed
  cases ho : f.owner with
  | lpu =>
    rw [ho] at h
    have hn := (List.nodup_append.mp h).1
    have hc := toList_filter_map s.lpu.owedClose id f
    simp only [Option.map_id_fun, id_eq] at hc
    simp only [owedFrames, List.filter_append, erase_eq_filter_ne hn, hc]
  | mlu =>
    rw [ho] at h
    have hn := (List.nodup_append.mp h).1
    simp only [owedFrames, List.filter_append, erase_eq_filter_ne hn, lanesWithoutOwed]
  | dsu => simp only [owedFrames, Vector.toList_map, slotsWithoutOwed]

theorem owedFrames_noLongerOwed_other {s : State} {f : OwnedFrame} {w : Owner} (h : w ≠ f.owner) :
    owedFrames (s.noLongerOwed f) w = owedFrames s w := by
  unfold State.noLongerOwed
  cases ho : f.owner <;> rw [ho] at h <;> cases w <;> first | rfl | exact absurd rfl h

theorem owedFrames_noteAsk (s : State) (b : Body) (w : Owner) : owedFrames (s.noteAsk b) w = owedFrames s w := by
  cases b <;> rfl

theorem owedFrames_serveFrame (s : State) (f : OwnedFrame) (w : Owner) :
    owedFrames (s.serveFrame f) w = owedFrames (s.noLongerOwed f) w :=
  owedFrames_noteAsk ((s.noLongerOwed f).placeFrame (.owned f)) f.body w

theorem State.serveFrame_fbi (s : State) (f : OwnedFrame) :
    (s.serveFrame f).fbi = { framePlaced s.fbi f with turn := nextOwner f.owner } := by
  simp only [State.serveFrame, State.setFbi_fbi, State.noteAsk_fbi, State.placeFrame_fbi, State.noLongerOwed_fbi]

/-- The note an ASK placed is handed on with. -/
def askNotes : Body → List Instr
  | .ask a => [.askNote a]
  | _ => []

theorem State.noteAsk_handed (s : State) (b : Body) : (s.noteAsk b).handed = s.handed ++ askNotes b := by
  cases b <;> simp [State.noteAsk, askNotes, State.hand]

theorem State.noLongerOwed_handed (s : State) (f : OwnedFrame) : (s.noLongerOwed f).handed = s.handed := by
  unfold State.noLongerOwed
  cases f.owner <;> rfl

theorem State.serveFrame_handed (s : State) (f : OwnedFrame) :
    (s.serveFrame f).handed = s.handed ++ askNotes f.body := by
  rw [State.serveFrame, State.setFbi_handed, State.noteAsk_handed, State.placeFrame_handed, State.noLongerOwed_handed]

theorem State.serveFrame_framesAdded (s : State) (f : OwnedFrame) : FramesAdded s (s.serveFrame f) :=
  ⟨⟨[f], _, s.serveFrame_fbi f⟩, s.serveFrame_handed f ▸ List.prefix_append ..⟩

/-! ## Serving -/

theorem State.serveOwed_framesAdded (n : Nat) (s : State) : FramesAdded s (State.serveOwed n s) := by
  induction n generalizing s with
  | zero => exact .refl s
  | succ n ih =>
    unfold State.serveOwed
    split
    · split
      · exact (s.serveFrame_framesAdded _).trans (ih _)
      · exact .refl s
    · exact .refl s

theorem State.serveOwed_full {s : State} (h : 12 ≤ s.fbi.tx.length) (n : Nat) : State.serveOwed n s = s := by
  cases n with
  | zero => rfl
  | succ n =>
    have h : ¬ s.fbi.tx.length < txCapacity := Nat.not_lt.mpr h
    rw [State.serveOwed, if_neg h]

theorem State.oldestOf_none {s : State} {o : Owner} (h : (turnOrder o).findSome? s.oldestOf = none) (w : Owner) :
    owedFrames s w = [] := by
  have hw := List.findSome?_eq_none_iff.mp h w (mem_turnOrder o w)
  rwa [State.oldestOf_eq, firstBest_none] at hw

/-- Serving ends with the queue full or nothing owed. -/
theorem State.serveOwed_ends (n : Nat) (s : State) (hl : s.fbi.tx.length ≤ 12) (hn : 12 ≤ s.fbi.tx.length + n) :
    (State.serveOwed n s).fbi.tx.length = 12 ∨ ∀ w, owedFrames (State.serveOwed n s) w = [] := by
  induction n generalizing s with
  | zero => exact .inl (Nat.le_antisymm hl hn)
  | succ n ih =>
    unfold State.serveOwed
    split
    · rename_i hlt
      have hlt : s.fbi.tx.length < 12 := hlt
      split
      · rename_i f _
        have hlen : (s.serveFrame f).fbi.tx.length = s.fbi.tx.length + 1 := by
          rw [State.serveFrame_fbi]
          exact List.length_append
        exact ih _ (by omega) (by omega)
      · exact .inr (State.oldestOf_none ‹_›)
    · exact .inl (Nat.le_antisymm hl (Nat.not_lt.mp ‹_›))

/-- One free place and a frame older than the rest of the first block that owes: it alone is served. -/
theorem State.serveOwed_one {s : State} {f : OwnedFrame} (hl : s.fbi.tx.length = 11)
    (hf : f ∈ owedFrames s f.owner) (hold : ∀ g ∈ owedFrames s f.owner, g ≠ f → f.built < g.built)
    (hturn : ∀ w ∈ (turnOrder s.fbi.turn).takeWhile (fun w => decide (w ≠ f.owner)), owedFrames s w = []) (n : Nat) :
    State.serveOwed (n + 1) s = s.serveFrame f := by
  have hnext : (turnOrder s.fbi.turn).findSome? s.oldestOf = some f := by
    refine findSome_of_takeWhile (w := f.owner) ?_ (mem_turnOrder ..) fun w hw => ?_
    · rw [State.oldestOf_eq, firstBest_of_oldest hf hold]
    · rw [State.oldestOf_eq, hturn w hw]
      rfl
  have hlen : (s.serveFrame f).fbi.tx.length = 12 := by
    rw [State.serveFrame_fbi]
    simp [framePlaced, hl]
  rw [State.serveOwed, if_pos (by rw [hl]; decide), hnext]
  exact State.serveOwed_full hlen.ge n

/-! ## A space event -/

theorem State.placeOwedAdvert_none {s : State} (h : s.fbi.owedAdvert = false) : s.placeOwedAdvert = s := by
  simp [State.placeOwedAdvert, h]

theorem State.placeOwedAdvert_owed {s : State} (h : s.fbi.owedAdvert = true) (hl : s.fbi.tx.length < 12) :
    s.placeOwedAdvert = s.setFbi (owedAdvertPlaced s.fbi) := by
  have hl : s.fbi.tx.length < txCapacity := hl
  simp [State.placeOwedAdvert, h, hl, owedAdvertPlaced]

theorem owedAdvertPlaced_tx (f : Fbi) : (owedAdvertPlaced f).tx =
    if f.debt = 4 then advertAtHead f.inHand f.tx else f.tx ++ [.advert] := by
  rw [owedAdvertPlaced, awake_tx]

theorem owedAdvertPlaced_owedAdvert (f : Fbi) : (owedAdvertPlaced f).owedAdvert = false := by
  rw [owedAdvertPlaced, awake_owedAdvert]

theorem State.placeOwedAdvert_length {s : State} (hl : s.fbi.tx.length ≤ 11) :
    s.placeOwedAdvert.fbi.tx.length ≤ 12 := by
  cases h : s.fbi.owedAdvert with
  | false =>
    rw [State.placeOwedAdvert_none h]
    omega
  | true =>
    rw [State.placeOwedAdvert_owed h (by omega), State.setFbi_fbi, owedAdvertPlaced_tx]
    split
    · rw [advertAtHead_length]
      omega
    · rw [List.length_append, List.length_singleton]
      omega

theorem State.spaceEvent_acts {s : State} (hw : s.working = true) (hm : s.fbi.mute = false)
    (hr : s.fbi.restartMark = false) : s.spaceEvent = State.serveOwed txCapacity s.placeOwedAdvert := by
  rw [State.spaceEvent, State.acts_of_working hw hm, hr]
  rfl

/-- With no ADVERT owed a space event adds blocks' frames alone. -/
theorem State.spaceEvent_framesAdded {s : State} (h : s.fbi.owedAdvert = false) : FramesAdded s s.spaceEvent := by
  unfold State.spaceEvent
  split
  · exact .refl s
  · split
    · exact .refl s
    · rw [State.placeOwedAdvert_none h]
      exact State.serveOwed_framesAdded _ s

/-! ## A frame sent whole, and one discarded -/

/-- The FBI after the head frame went out whole. -/
def afterSent (o : Outgoing) (f : Fbi) : Fbi := withoutHead (sentWhole o f)

/-- The state before the space event of a frame sent whole. -/
def State.headSent (s : State) (o : Outgoing) : State := s.setFbi (afterSent o s.fbi)

theorem exec_frameSent_cons {s : State} {o : Outgoing} {rest : List Outgoing} (hl : s.resetLine = false)
    (ht : s.fbi.transmitter = .sending) (hq : s.fbi.tx = o :: rest) :
    exec .frameSent s = .next (s.headSent o).spaceEvent := by
  rw [exec, execFrameSent, event_running hl]
  simp only [ht, hq]
  rfl

/-- With no attempt under way neither a frame sent nor a collision does anything. -/
theorem exec_sent_idle {s : State} (hl : s.resetLine = false) (h : s.fbi.transmitter ≠ .sending ∨ s.fbi.tx = []) :
    exec .frameSent s = .next s ∧ exec .collision s = .next s := by
  rw [exec, execFrameSent, exec, execCollision, event_running hl, event_running hl]
  obtain h | h := h
  · cases ht : s.fbi.transmitter <;> simp_all
  · cases ht : s.fbi.transmitter <;> simp [h]

/-- What a frame sent whole changes in the FBI (R20, R35, R37). -/
theorem afterSent_eq {f : Fbi} {o : Outgoing} {rest : List Outgoing} (hq : f.tx = o :: rest) :
    afterSent o f = { f with
      tx := rest, inHand := false, collisions := 0, transmitter := if rest = [] then .idle else .deferring
      seq := (f.seq + 1) % 256
      lineOut := match f.lineOut with
        | .attempt b => .whole b
        | x => x
      debt := if o = .advert then 0 else f.debt
      restartMark := if o = .advert then false else f.restartMark } := by
  cases o <;> simp [afterSent, withoutHead, sentWhole, hq] <;> rfl

theorem State.headSent_fbi (s : State) {o : Outgoing} {rest : List Outgoing} (hq : s.fbi.tx = o :: rest) :
    (s.headSent o).fbi = { s.fbi with
      tx := rest, inHand := false, collisions := 0, transmitter := if rest = [] then .idle else .deferring
      seq := (s.fbi.seq + 1) % 256
      lineOut := match s.fbi.lineOut with
        | .attempt b => .whole b
        | x => x
      debt := if o = .advert then 0 else s.fbi.debt
      restartMark := if o = .advert then false else s.fbi.restartMark } := afterSent_eq hq

theorem State.headSent_owedFrames (s : State) (o : Outgoing) (w : Owner) :
    owedFrames (s.headSent o) w = owedFrames s w := by
  cases w <;> rfl

theorem State.headSent_spaceEvent {s : State} {o : Outgoing} {rest : List Outgoing} (hw : s.working = true)
    (hm : s.fbi.mute = false) (hr : s.fbi.restartMark = false) (hq : s.fbi.tx = o :: rest) :
    (s.headSent o).spaceEvent = State.serveOwed txCapacity (s.headSent o).placeOwedAdvert := by
  have hfbi := s.headSent_fbi hq
  refine State.spaceEvent_acts hw ?_ ?_
  · rw [hfbi]
    exact hm
  · rw [hfbi]
    simp [hr]

/-- The FBI after the head frame was discarded at its sixteenth collision. -/
def afterDiscard (f : Fbi) : Fbi := withoutHead { f with lineOut := .jam }

theorem afterDiscard_eq {f : Fbi} {o : Outgoing} {rest : List Outgoing} (hq : f.tx = o :: rest) :
    afterDiscard f = { f with
      tx := rest, inHand := false, collisions := 0, lineOut := .jam
      transmitter := if rest = [] then .idle else .deferring } := by
  rw [afterDiscard, withoutHead, hq]
  rfl

/-- The state before the owner of a frame discarded is told. -/
def State.headDiscarded (s : State) : State := (s.setFbi (afterDiscard s.fbi)).raiseNotice .busFault

theorem State.discardHead_eq (s : State) (o : Outgoing) :
    s.discardHead o = (s.headDiscarded.tellFailed o).spaceEvent := rfl

theorem State.headDiscarded_fbi (s : State) {o : Outgoing} {rest : List Outgoing} (hq : s.fbi.tx = o :: rest) :
    s.headDiscarded.fbi = { s.fbi with
      tx := rest, inHand := false, collisions := 0, lineOut := .jam
      transmitter := if rest = [] then .idle else .deferring } := afterDiscard_eq hq

/-- Blocks' frames at the tail leave the transmitter in DEFER where a frame waits, and idle where none does. -/
theorem framesPlaced_transmitter {f : Fbi} (h : f.transmitter = if f.tx = [] then .idle else .deferring)
    (l : List OwnedFrame) : (framesPlaced f l).transmitter =
      if (framesPlaced f l).tx = [] then .idle else .deferring := by
  rw [framesPlaced_eq, h]
  by_cases hq : f.tx = [] <;> by_cases hl : l = [] <;> simp [hq, hl]

theorem mem_map_owned {l : List OwnedFrame} {x : Outgoing} (h : x ∈ l.map .owned) : ∃ f, x = .owned f := by
  obtain ⟨f, -, rfl⟩ := List.mem_map.mp h
  exact ⟨f, rfl⟩

end Sys2Proof.Machine
end

section
/-! PROOFS. O33, clause by clause: frames that leave the queue, the places that follow, and the owners told (R20 to R22,
R34 to R37). -/

namespace Sys2Proof.Machine

section
variable {o : Outgoing} {rest : List Outgoing} {s : State}

/-- A frame sent whole: the FBI's change, before the space event. -/
theorem frameSent_change (hl : s.resetLine = false) (ht : s.fbi.transmitter = .sending) (hq : s.fbi.tx = o :: rest) :
    ∃ f : Fbi, exec .frameSent s = .next (s.setFbi f).spaceEvent ∧ f.tx = rest ∧
      (rest = [] → f.transmitter = .idle) ∧ (rest ≠ [] → f.transmitter = .deferring) ∧
      f.seq = (s.fbi.seq + 1) % 256 ∧ f.collisions = 0 ∧ f.inHand = false ∧
      f.debt = (if o = .advert then 0 else s.fbi.debt) ∧
      f.restartMark = (if o = .advert then false else s.fbi.restartMark) ∧
      { f with tx := s.fbi.tx, transmitter := s.fbi.transmitter, seq := s.fbi.seq
               collisions := s.fbi.collisions, inHand := s.fbi.inHand, debt := s.fbi.debt
               restartMark := s.fbi.restartMark, lineOut := s.fbi.lineOut } = s.fbi := by
  refine ⟨_, exec_frameSent_cons hl ht hq, ?_⟩
  rw [afterSent_eq hq]
  exact ⟨rfl, fun h => if_pos h, fun h => if_neg h, rfl, rfl, rfl, rfl, rfl, rfl⟩

/-- With no ADVERT owed, blocks' frames alone follow a frame sent whole. -/
theorem frameSent_added (hl : s.resetLine = false) (ht : s.fbi.transmitter = .sending) (hq : s.fbi.tx = o :: rest)
    (ho : s.fbi.owedAdvert = false) :
    ∃ t added, exec .frameSent s = .next t ∧ t.fbi.tx = rest ++ added ∧
      (∀ x ∈ added, ∃ f, x = .owned f) ∧ t.fbi.seq = (s.fbi.seq + 1) % 256 ∧ t.fbi.inHand = false ∧
      t.fbi.collisions = 0 ∧ (t.fbi.tx ≠ [] → t.fbi.transmitter = .deferring) ∧
      (t.fbi.tx = [] → t.fbi.transmitter = .idle) ∧
      (o = .advert → t.fbi.debt = 0 ∧ t.fbi.restartMark = false) ∧
      (o ≠ .advert → t.fbi.debt = s.fbi.debt ∧ t.fbi.restartMark = s.fbi.restartMark) := by
  have hfbi := s.headSent_fbi hq
  obtain ⟨l, turn, hf⟩ := (State.spaceEvent_framesAdded (s := s.headSent o) (by rw [hfbi]; exact ho)).fbi
  have htrans := framesPlaced_transmitter (f := (s.headSent o).fbi) (by rw [hfbi]) l
  refine ⟨(s.headSent o).spaceEvent, l.map .owned, exec_frameSent_cons hl ht hq, ?_⟩
  rw [hf]
  dsimp only
  refine ⟨?_, fun x => mem_map_owned, ?_, ?_, ?_, fun h => ?_, fun h => ?_, fun h => ?_, fun h => ?_⟩
  case refine_5 => exact htrans.trans (if_neg h)
  case refine_6 => exact htrans.trans (if_pos h)
  all_goals rw [framesPlaced_eq, hfbi]
  case refine_7 => exact ⟨if_pos h, if_pos h⟩
  case refine_8 => exact ⟨if_neg h, if_neg h⟩

/-- A frame discarded at its sixteenth collision. -/
theorem discard_added (hl : s.resetLine = false) (ht : s.fbi.transmitter = .sending) (hq : s.fbi.tx = o :: rest)
    (hk : 15 ≤ s.fbi.collisions) (ho : s.fbi.owedAdvert = false) :
    ∃ t added, exec .collision s = .next t ∧ t.fbi.tx = rest ++ added ∧
      (∀ x ∈ added, ∃ f, x = .owned f) ∧ t.fbi.seq = s.fbi.seq ∧ t.fbi.inHand = false ∧
      t.fbi.collisions = 0 ∧ t.fbi.debt = s.fbi.debt ∧ t.fbi.restartMark = s.fbi.restartMark ∧
      .noticeRaise .busFault ∈ t.handed := by
  have htold := s.headDiscarded.tellFailed_framesAdded o
  have hfbi := s.headDiscarded_fbi hq
  have howed : (s.headDiscarded.tellFailed o).fbi.owedAdvert = false := by
    obtain ⟨l, turn, hf⟩ := htold.fbi
    rw [hf, framesPlaced_eq, hfbi]
    exact ho
  have hadded := htold.trans (State.spaceEvent_framesAdded howed)
  have hfault : .noticeRaise .busFault ∈ (s.headDiscarded.tellFailed o).spaceEvent.handed :=
    hadded.handed.subset (by simp [State.headDiscarded])
  obtain ⟨l, turn, hf⟩ := hadded.fbi
  rw [framesPlaced_eq, hfbi] at hf
  refine ⟨(s.headDiscarded.tellFailed o).spaceEvent, l.map .owned, exec_collision_last hl ht hq hk, ?_⟩
  rw [hf]
  exact ⟨rfl, fun x => mem_map_owned, rfl, rfl, rfl, rfl, rfl, hfault⟩

/-- A space event after a frame sent whole: the ADVERT owed is placed first, then blocks' frames while places are free
and frames owed. -/
theorem frameSent_serves (hl : s.resetLine = false) (hw : s.working = true) (hm : s.fbi.mute = false)
    (hr : s.fbi.restartMark = false) (ht : s.fbi.transmitter = .sending) (hq : s.fbi.tx = o :: rest)
    (hlen : rest.length ≤ 11) :
    ∃ t added, exec .frameSent s = .next t ∧ (∀ x ∈ added, ∃ f, x = .owned f) ∧
      (t.fbi.tx.length = 12 ∨ ∀ w, owedFrames t w = []) ∧
      (s.fbi.owedAdvert = true → o ≠ .advert → t.fbi.owedAdvert = false ∧
        t.fbi.tx = (if s.fbi.debt = 4 then .advert :: rest else rest ++ [.advert]) ++ added) := by
  have hfbi := s.headSent_fbi hq
  have hspace := State.headSent_spaceEvent hw hm hr hq
  have hplaced : (s.headSent o).placeOwedAdvert.fbi.tx.length ≤ 12 :=
    State.placeOwedAdvert_length (by rw [hfbi]; exact hlen)
  obtain ⟨l, turn, hf⟩ := (State.serveOwed_framesAdded txCapacity (s.headSent o).placeOwedAdvert).fbi
  refine ⟨_, l.map .owned, (exec_frameSent_cons hl ht hq).trans (congrArg _ hspace), fun x => mem_map_owned,
    State.serveOwed_ends txCapacity _ hplaced (Nat.le_add_left ..), fun ho hn => ?_⟩
  have howed : (s.headSent o).fbi.owedAdvert = true := by
    rw [hfbi]
    exact ho
  have hroom : (s.headSent o).fbi.tx.length < 12 := by
    rw [hfbi]
    exact Nat.lt_succ_of_le hlen
  rw [hf, State.placeOwedAdvert_owed howed hroom, State.setFbi_fbi, framesPlaced_eq]
  refine ⟨owedAdvertPlaced_owedAdvert _, ?_⟩
  dsimp only
  rw [owedAdvertPlaced_tx, hfbi]
  simp only [if_neg hn]
  cases rest <;> rfl

/-- One place free: the block whose turn it is, of those that owe, places its oldest frame and the turn passes on. -/
theorem frameSent_servesOldest {f : OwnedFrame} (hl : s.resetLine = false) (hw : s.working = true)
    (hm : s.fbi.mute = false) (hr : s.fbi.restartMark = false) (ht : s.fbi.transmitter = .sending)
    (hq : s.fbi.tx = o :: rest) (hlen : rest.length = 11) (ho : s.fbi.owedAdvert = false)
    (hf : f ∈ owedFrames s f.owner) (hnodup : (owedFrames s f.owner).Nodup)
    (hold : ∀ g ∈ owedFrames s f.owner, g ≠ f → f.built < g.built)
    (hturn : ∀ w ∈ (turnOrder s.fbi.turn).takeWhile (fun w => decide (w ≠ f.owner)), owedFrames s w = []) :
    ∃ t, exec .frameSent s = .next t ∧ t.fbi.tx = rest ++ [.owned f] ∧ t.fbi.turn = nextOwner f.owner ∧
      (∀ w, w ≠ f.owner → owedFrames t w = owedFrames s w) ∧
      owedFrames t f.owner = (owedFrames s f.owner).filter (fun g => decide (g ≠ f)) ∧
      (∀ a, f.body = .ask a → HandsOn s t [.askNote a]) ∧
      ((∀ a, f.body ≠ .ask a) → HandsOn s t []) := by
  have hfbi := s.headSent_fbi hq
  have howed : ∀ w, owedFrames (s.headSent o) w = owedFrames s w := s.headSent_owedFrames o
  have hspace : (s.headSent o).spaceEvent = (s.headSent o).serveFrame f := by
    rw [State.headSent_spaceEvent hw hm hr hq, State.placeOwedAdvert_none (by rw [hfbi]; exact ho)]
    refine State.serveOwed_one (by rw [hfbi]; exact hlen) ?_ ?_ ?_ 11
    · rw [howed]
      exact hf
    · rw [howed]
      exact hold
    · rw [hfbi]
      exact fun w hw => (howed w).trans (hturn w hw)
  have hhanded : ((s.headSent o).serveFrame f).handed = s.handed ++ askNotes f.body := State.serveFrame_handed _ f
  refine ⟨_, (exec_frameSent_cons hl ht hq).trans (congrArg _ hspace), ?_, ?_, fun w hw => ?_, ?_, fun a ha => ?_,
    fun ha => ?_⟩
  · rw [State.serveFrame_fbi, hfbi]
    rfl
  · rw [State.serveFrame_fbi]
  · rw [owedFrames_serveFrame, owedFrames_noLongerOwed_other hw, howed]
  · rw [owedFrames_serveFrame, owedFrames_noLongerOwed (by rw [howed]; exact hnodup), howed]
  · rw [HandsOn, hhanded, ha]
    rfl
  · rw [HandsOn, hhanded]
    cases hb : f.body with
    | ask a => exact absurd hb (ha a)
    | _ => rfl

end

/-! ## The owners told (R22, R31, R131) -/

section
variable (s : State) (f : OwnedFrame)

theorem State.lpuOwe_room (h : s.lpu.owed.length < 8) :
    s.lpuOwe f = { s with lpu := { s.lpu with owed := s.lpu.owed ++ [f] } } := if_pos h

theorem State.lpuOwe_full (h : 8 ≤ s.lpu.owed.length) : s.lpuOwe f = s := if_neg (Nat.not_lt.mpr h)

theorem State.mluOwe_room (h : s.mlu.owed.length < 8) :
    s.mluOwe f = { s with mlu := { s.mlu with owed := s.mlu.owed ++ [f] } } := if_pos h

theorem State.mluOwe_full (h : 8 ≤ s.mlu.owed.length) : s.mluOwe f = s := if_neg (Nat.not_lt.mpr h)

/-- A PLACED or RELEASE that did not go is owed again by the LPU or the MLU, and dropped at a mute. -/
theorem State.told_placedRelease (h : (∃ x, f.body = .placed x) ∨ (∃ x, f.body = .release x)) :
    s.toldMuted f = s ∧
      (f.owner = .lpu → s.toldFailed f = s.bump.lpuOwe { f with built := s.serial }) ∧
      (f.owner = .mlu → s.toldFailed f = s.bump.mluOwe { f with built := s.serial }) := by
  obtain ⟨x, hb⟩ | ⟨x, hb⟩ := h
  all_goals
    refine ⟨by simp only [State.toldMuted, hb], fun ho => ?_, fun ho => ?_⟩
    all_goals simp only [State.toldFailed, State.oweAgain, hb, ho]

theorem State.told_close {x : CloseBody} (hb : f.body = .close x) (ho : f.owner = .lpu) :
    s.toldMuted f = s ∧ s.toldFailed f = s.lpuOweClose f := by
  simp only [State.toldMuted, State.toldFailed, State.oweAgain, hb, ho, and_self]

end

/-- Settles O33: the clauses above, put together. -/
theorem framesLeaveTheQueue : Obligations.FramesLeaveTheQueue := by
  unfold Obligations.FramesLeaveTheQueue
  refine ⟨fun _ _ => ⟨rfl, rfl⟩, fun _ _ => rfl, fun o rest s => frameSent_change, fun s => exec_sent_idle,
    ⟨rfl, rfl, rfl, rfl, rfl, rfl⟩, fun o rest s => frameSent_added, fun o rest s => discard_added,
    fun o rest s => frameSent_serves, fun o rest f s => frameSent_servesOldest, fun o rest s hl ht hq hk => ?_,
    fun f s => ⟨fun x hb => ?_, fun h => ?_, fun x hb ho => ?_, fun x hb => ?_, fun x hb => ?_⟩⟩
  · rw [exec_collision_last hl ht hq hk, State.discardHead_eq, State.headDiscarded, afterDiscard_eq hq]
  · simp only [State.toldFailed, State.toldMuted, hb, and_self]
  · obtain ⟨hmuted, hlpu, hmlu⟩ := s.told_placedRelease f h
    refine ⟨hmuted, fun ho hr => ?_, fun ho hr => ?_, fun ho hr => ?_, fun ho hr => ?_⟩
    · rw [hlpu ho, State.lpuOwe_room s.bump _ hr]
      rfl
    · rw [hlpu ho, State.lpuOwe_full s.bump _ hr]
    · rw [hmlu ho, State.mluOwe_room s.bump _ hr]
      rfl
    · rw [hmlu ho, State.mluOwe_full s.bump _ hr]
  · obtain ⟨hmuted, hfailed⟩ := s.told_close f hb ho
    refine ⟨hmuted, fun h => ?_, fun g hg hlt => ?_⟩
    · rw [hfailed, State.lpuOweClose, h]
    · rw [hfailed, State.lpuOweClose, hg]
      exact if_neg (Nat.not_le.mpr hlt)
  · simp only [State.toldFailed, State.toldMuted, hb]
  · simp only [State.toldFailed, State.toldMuted, hb]

end Sys2Proof.Machine
end

section
/-! PROOFS. The rules of the peer directory's operations (R39 to R55): what stands at each way, and in each slot, after
each of them; and the frames of the inner blocks (O6). -/

namespace Sys2Proof.Machine

/-- Settles O6: a block is one of the parts that a command may change only if the command is on its list. -/
theorem innerBlockFrames : Obligations.InnerBlockFrames := fun c s t h =>
  have only := exec_leaves c s t h
  ⟨only .pdr, only .dsu, only .lpu, only .mlu⟩

/-! ## Ways and entries (R39) -/

theorem mem_waysOf {i n : Nat} : i ∈ waysOf n ↔ i / 4 = n := by
  simp only [waysOf, List.mem_cons, List.not_mem_nil, or_false]
  omega

theorem waysOf_pairwise (n : Nat) : (waysOf n).Pairwise (· < ·) := by simp [waysOf]

/-- A way of the set of a destination is one of the 128. -/
theorem way_lt {i dest : Nat} (h : i / 4 = setOf dest) : i < 128 := by
  unfold setOf at h
  omega

theorem entryAt_eq_some {p : Pdr} {i : Nat} {e : Entry} : entryAt p i = some e ↔ p.entries[i]? = some (some e) := by
  unfold entryAt
  cases p.entries[i]? <;> simp

theorem entryAt_putEntry {p : Pdr} {i : Nat} (j : Nat) (e : Entry) (h : i < 128) :
    entryAt (putEntry p i e) j = if j = i then some e else entryAt p j := by
  by_cases hj : j = i
  · subst hj
    simp [entryAt, putEntry, h]
  · simp [entryAt, putEntry, hj, Ne.symm hj]

@[simp] theorem entryAt_mapEntries (p : Pdr) (f : Entry → Option Entry) (i : Nat) :
    entryAt (mapEntries p f) i = (entryAt p i).bind f := by
  simp only [entryAt, mapEntries, Vector.getElem?_map]
  cases p.entries[i]? <;> rfl

@[simp] theorem mapEntries_heard (p : Pdr) (f : Entry → Option Entry) : (mapEntries p f).heard = p.heard := rfl

/-- A removal leaves the entries that its test does not meet. -/
theorem entryAt_removed (p : Pdr) (c : Entry → Prop) [DecidablePred c] (i : Nat) (e : Entry) :
    entryAt (mapEntries p fun x => if c x then none else some x) i = some e ↔ entryAt p i = some e ∧ ¬ c e := by
  rw [entryAt_mapEntries, Option.bind_eq_some_iff]
  constructor
  · rintro ⟨x, hx, h⟩
    split at h
    · cases h
    · cases h
      exact ⟨hx, ‹_›⟩
  · rintro ⟨hx, hc⟩
    exact ⟨e, hx, if_neg hc⟩

theorem isTrailerEntry_iff {e : Entry} : isTrailerEntry e = true ↔ ∃ c m o, e.kind = .trailer c m o := by
  unfold isTrailerEntry
  cases e.kind <;> simp

/-- The keys of the two kinds (section 3.1). -/
theorem entryKey_trailer {e : Entry} {c m : Nat} {o : Openings} (h : e.kind = .trailer c m o) :
    entryKey e = { dest := e.dest, bay := e.bay, lane := none } := by simp [entryKey, h]

theorem entryKey_lane {e : Entry} {n f : Nat} {b : Bool} (h : e.kind = .lane n f b) :
    entryKey e = { dest := e.dest, bay := e.bay, lane := some n } := by simp [entryKey, h]

@[simp] theorem entryKey_dest (e : Entry) : (entryKey e).dest = e.dest := rfl

/-! ## Doubt, aging and a CLOSE (R52 to R55) -/

theorem entryAt_doubtEvery (p : Pdr) (i : Nat) :
    entryAt (doubtEvery p) i = (entryAt p i).map fun e => { e with doubtful := true } := by
  rw [doubtEvery, entryAt_mapEntries]
  cases entryAt p i <;> rfl

theorem entryAt_doubtBay (p : Pdr) (b i : Nat) :
    entryAt (doubtBay p b) i = (entryAt p i).map fun e => if e.bay = b then { e with doubtful := true } else e := by
  rw [doubtBay, entryAt_mapEntries]
  cases entryAt p i with
  | none => rfl
  | some e =>
    dsimp only [Option.bind_some, Option.map_some]
    split <;> rfl

theorem entryAt_ageEntries (p : Pdr) (limit i : Nat) : entryAt (ageEntries p limit) i =
    (entryAt p i).bind fun e => if limit ≤ e.age then none else some { e with age := e.age + 1 } :=
  entryAt_mapEntries ..

theorem entryAt_forgetTrailers (p : Pdr) (b i : Nat) : entryAt (forgetTrailers p b) i =
    (entryAt p i).filter fun e => !(decide (e.bay = b) && isTrailerEntry e) := by
  ext e
  rw [forgetTrailers, entryAt_removed, Option.filter_eq_some_iff, Bool.not_eq_true', ← Bool.not_eq_true]
  simp only [Bool.and_eq_true, decide_eq_true_eq]

/-! ## The commands of the PDR -/

/-- The directory after a command of the PDR's own. -/
def pdrAfter (s : State) : Instr → Pdr
  | .agingEvent => ageEntries s.pdr s.ageLimit
  | .doubtAll => doubtEvery s.pdr
  | .doubtSender b => doubtBay s.pdr b
  | .pdrAdvert b restart a => takeAdvert s.pdr b restart a
  | .pdrAsk b a => fillSlot s.pdr b a
  | .askNote a => fillSlot s.pdr s.own a
  | .pdrGrant b g => snoopPlace s.pdr b g.place g.margin
  | .pdrPlaced b x => snoopPlace s.pdr b x.place x.margin
  | .pdrRefuse b x => snoopRefuse s.pdr b x
  | .pdrClose b => forgetTrailers s.pdr b
  | _ => s.pdr

/-- The commands that may change the PDR are the resets and ten of its own, each of which changes it alone. -/
theorem exec_pdrEvent {c : Instr} (hw : writesPdr c = true) (hr : takesReset c = false) (s : State) :
    exec c s = taken c s fun u => { u with pdr := pdrAfter u c } := by
  cases c with
  | agingEvent | doubtAll | doubtSender _ | pdrAdvert _ _ _ | pdrAsk _ _ | askNote _ | pdrGrant _ _
  | pdrPlaced _ _ | pdrRefuse _ _ | pdrClose _ => rfl
  | powerOnReset | resetLineReleased | floorResetTaken | serviceAnswerSent => exact absurd hr (by decide)
  | _ => exact absurd hw Bool.false_ne_true

theorem pdrAfter_drop (s : State) (c d : Instr) : pdrAfter (s.drop d) c = pdrAfter s c := by
  cases c <;> rfl

theorem exec_pdrEvent_running {c : Instr} {s : State} (hw : writesPdr c = true) (hr : takesReset c = false)
    (hl : s.resetLine = false) : exec c s = .next { s.drop c with pdr := pdrAfter s c } := by
  rw [exec_pdrEvent hw hr, taken_running hl, pdrAfter_drop]

/-- Settles O37: each command by the rule of its operation. -/
theorem doubtAgeAndCloseEntries : Obligations.DoubtAgeAndCloseEntries := by
  refine ⟨fun _ _ _ => entryAt_eq_some, fun _ => isTrailerEntry_iff,
    fun s hl => ⟨_, exec_pdrEvent_running rfl rfl hl, rfl, entryAt_doubtEvery s.pdr⟩,
    fun b s hl => ⟨_, exec_pdrEvent_running rfl rfl hl, rfl, entryAt_doubtBay s.pdr b⟩,
    fun s hl => ⟨_, exec_pdrEvent_running rfl rfl hl, rfl, fun i => ?_⟩,
    fun b s hl => ⟨_, exec_pdrEvent_running rfl rfl hl, rfl, entryAt_forgetTrailers s.pdr b⟩⟩
  have limit : s.ageLimit = if s.dcu.bayState = some .unconfigured then 3 else s.scu.config.ageLimit := by
    simp only [State.ageLimit, State.inState, decide_eq_true_eq]
  rw [← limit]
  exact entryAt_ageEntries s.pdr _ i

end Sys2Proof.Machine
end

section
/-! PROOFS. What the PDR learns from overheard ASK, GRANT, PLACED and REFUSE frames (R47 to R51, O39). -/

namespace Sys2Proof.Machine

/-! ## The last ask heard (R47) -/

theorem slotOf_eq_some {p : Pdr} {b : Nat} {k : AskSlot} :
    slotOf p b = some k ↔ 1 ≤ b ∧ p.heard[b - 1]? = some (some k) := by
  unfold slotOf
  by_cases hb : b = 0
  · simp [hb]
  · rw [if_neg hb, and_iff_right (Nat.one_le_iff_ne_zero.mpr hb)]
    cases p.heard[b - 1]? <;> simp

@[simp] theorem fillSlot_entries (p : Pdr) (b : Nat) (a : AskBody) : (fillSlot p b a).entries = p.entries := by
  unfold fillSlot
  split <;> rfl

/-- An ASK of a bay fills that bay's slot and no other. -/
theorem slotOf_fillSlot (p : Pdr) {b : Nat} (a : AskBody) (h1 : 1 ≤ b) (h63 : b ≤ 63) (c : Nat) :
    slotOf (fillSlot p b a) c = if c = b then some (askSlotOf a) else slotOf p c := by
  have hb : b ≠ 0 := Nat.one_le_iff_ne_zero.mp h1
  by_cases hc : c = 0
  · simp [slotOf, hc, hb.symm]
  by_cases hcb : c = b
  · have : b - 1 < 63 := by omega
    simp [slotOf, fillSlot, hcb, hb, this]
  · have : b - 1 ≠ c - 1 := by omega
    simp [slotOf, fillSlot, hcb, hb, this]

/-! ## Snooping (R48 to R51) -/

/-- A GRANT or PLACED of a TRAILER place gives its margin to the sender's TRAILER entries (R48, R49). -/
theorem entryAt_snoopPlace (p : Pdr) (b : Nat) (place : Place) (margin i : Nat) :
    entryAt (snoopPlace p b place margin) i = (entryAt p i).map fun e =>
      match placeKind place, e.kind with
      | .trailer, .trailer c _ o => if e.bay = b then { e with kind := .trailer c margin o } else e
      | _, _ => e := by
  unfold snoopPlace
  cases placeKind place with
  | lane => exact Option.map_id'.symm
  | trailer =>
    rw [snoopMargin, entryAt_mapEntries]
    cases entryAt p i with
    | none => rfl
    | some e =>
      obtain ⟨_, _, bay, kind, _⟩ := e
      cases kind with
      | lane => rfl
      | trailer c m o => by_cases h : bay = b <;> simp [h]

@[simp] theorem snoopPlace_heard (p : Pdr) (b : Nat) (place : Place) (margin : Nat) :
    (snoopPlace p b place margin).heard = p.heard := by
  unfold snoopPlace
  split <;> rfl

theorem matchedSlot_eq_some {p : Pdr} {b : Nat} {r : RefuseBody} {k : AskSlot} :
    matchedSlot p b r = some k ↔ slotOf p r.asker = some k ∧
      k.target = b ∧ k.seq = r.seq ∧ k.pallet = r.pallet ∧ k.kind = .trailer := by
  simp [matchedSlot, Option.filter_eq_some_iff, and_assoc]

/-- A change of a bay's TRAILER entry for a destination leaves LANE entries, and others' TRAILER entries (R50). -/
theorem entryAt_changeTrailer (p : Pdr) (b dest : Nat) (f : Nat → Nat → Openings → Option EntryKind) (i : Nat) :
    entryAt (changeTrailer p b dest f) i = (entryAt p i).bind fun e =>
      match e.kind with
      | .trailer c m o =>
        if e.bay = b ∧ e.dest = dest then (f c m o).map fun k => { e with kind := k } else some e
      | .lane _ _ _ => some e :=
  entryAt_mapEntries ..

/-- A REFUSE whose asker's slot does not match it changes nothing (R50). -/
theorem snoopRefuse_unmatched {p : Pdr} {b : Nat} {r : RefuseBody} (h : matchedSlot p b r = none) :
    snoopRefuse p b r = p := by simp only [snoopRefuse, h]

/-- What a REFUSE makes of the sender's TRAILER entry for the destination of the slot it matches, by its reason (R50,
R51). -/
def refusedKind (reason : RefuseReason) (k : AskSlot) (c m : Nat) (o : Openings) : Option EntryKind :=
  match reason with
  | .closed | .wrongDest => none
  | .full => some (.trailer c m (openingsWithout o k.height))
  | .gross => some (.trailer c (min m (k.weight - 1)) o)
  | _ => some (.trailer c m o)

theorem changeTrailer_same (p : Pdr) (b dest i : Nat) :
    entryAt (changeTrailer p b dest fun c m o => some (.trailer c m o)) i = entryAt p i := by
  rw [entryAt_changeTrailer]
  cases entryAt p i with
  | none => rfl
  | some e =>
    obtain ⟨_, _, _, kind, _⟩ := e
    cases kind <;> simp

theorem entryAt_snoopRefuse_matched {p : Pdr} {b : Nat} {r : RefuseBody} {k : AskSlot}
    (h : matchedSlot p b r = some k) (i : Nat) :
    entryAt (snoopRefuse p b r) i = entryAt (changeTrailer p b k.dest (refusedKind r.reason k)) i := by
  simp only [snoopRefuse, h]
  cases r.reason with
  | closed | wrongDest | full | gross => rfl
  | order | duplicate | axle | noLane | busy | held => exact (changeTrailer_same p b k.dest i).symm

@[simp] theorem snoopRefuse_heard (p : Pdr) (b : Nat) (r : RefuseBody) : (snoopRefuse p b r).heard = p.heard := by
  unfold snoopRefuse
  split
  · rfl
  · split <;> rfl

/-- A REFUSE changes only the sender's TRAILER entries for the destination of the slot it matches (R50, R51). -/
theorem entryAt_snoopRefuse (p : Pdr) (b : Nat) (r : RefuseBody) (i : Nat) :
    entryAt (snoopRefuse p b r) i = (entryAt p i).bind fun e =>
      match slotOf p r.asker, e.kind with
      | some k, .trailer c m o =>
        if k.target = b ∧ k.seq = r.seq ∧ k.pallet = r.pallet ∧ k.kind = .trailer ∧ e.bay = b ∧
            e.dest = k.dest then
          match r.reason with
          | .closed | .wrongDest => none
          | .full => some { e with kind := .trailer c m (openingsWithout o k.height) }
          | .gross => some { e with kind := .trailer c (min m (k.weight - 1)) o }
          | _ => some e
        else some e
      | _, _ => some e := by
  cases hm : matchedSlot p b r with
  | none =>
    rw [snoopRefuse_unmatched hm]
    cases entryAt p i with
    | none => rfl
    | some e =>
      dsimp only [Option.bind_some]
      split
      · rename_i k c m o hk _
        refine (if_neg fun ⟨htarget, hseq, hpallet, hkind, _⟩ => ?_).symm
        have := matchedSlot_eq_some.mpr ⟨hk, htarget, hseq, hpallet, hkind⟩
        rw [hm] at this
        cases this
      · rfl
  | some k =>
    obtain ⟨hk, htarget, hseq, hpallet, hkind⟩ := matchedSlot_eq_some.mp hm
    rw [entryAt_snoopRefuse_matched hm, entryAt_changeTrailer, hk]
    cases entryAt p i with
    | none => rfl
    | some e =>
      obtain ⟨doubtful, dest, bay, kind, age⟩ := e
      cases kind with
      | lane => rfl
      | trailer c m o =>
        by_cases h : bay = b ∧ dest = k.dest
        · simp only [Option.bind_some, htarget, hseq, hpallet, hkind, h, and_self, if_true]
          cases r.reason <;> rfl
        · simp only [Option.bind_some, htarget, hseq, hpallet, hkind, h, true_and, if_false]

/-- Settles O39: the slots by the rule of filling, the margins by that of a place, and a REFUSE by whether it matches
its asker's slot. -/
theorem overheardFramesAreSnooped : Obligations.OverheardFramesAreSnooped := by
  have filled (s : State) (b : Nat) (a : AskBody) (h1 : 1 ≤ b) (h63 : b ≤ 63) :
      slotOf (fillSlot s.pdr b a) b = some (askSlotOf a) ∧
        ∀ c, c ≠ b → slotOf (fillSlot s.pdr b a) c = slotOf s.pdr c :=
    ⟨by rw [slotOf_fillSlot _ _ h1 h63, if_pos rfl], fun c hc => by rw [slotOf_fillSlot _ _ h1 h63, if_neg hc]⟩
  refine ⟨fun _ _ _ => slotOf_eq_some, fun _ _ _ _ => ⟨rfl, rfl⟩, fun _ => rfl, fun o h k => ?_,
    fun b a s hl h1 h63 => ⟨_, exec_pdrEvent_running rfl rfl hl, fillSlot_entries .., filled s b a h1 h63⟩,
    fun a s hl h1 h63 => ⟨_, exec_pdrEvent_running rfl rfl hl, fillSlot_entries .., filled s s.own a h1 h63⟩,
    fun b g s hl => ⟨_, exec_pdrEvent_running rfl rfl hl, ?_, entryAt_snoopPlace s.pdr b g.place g.margin⟩,
    fun b x s hl => ⟨_, exec_pdrEvent_running rfl rfl hl, ?_, entryAt_snoopPlace s.pdr b x.place x.margin⟩,
    fun b x s hl => ⟨_, exec_pdrEvent_running rfl rfl hl, ?_, fun i => ?_⟩⟩
  · cases k <;> rfl
  · exact snoopPlace_heard ..
  · exact snoopPlace_heard ..
  · exact snoopRefuse_heard ..
  · exact entryAt_snoopRefuse s.pdr b x i

end Sys2Proof.Machine
end

section
/-! PROOFS. Requests for candidates (R56, R57, R140, O40). -/

namespace Sys2Proof.Machine

/-! ## The trusted entries of a destination (R56, R57) -/

/-- The trusted entries of a destination stand in its set, are for it, and are not doubtful. -/
theorem mem_trustedEntries {p : Pdr} {dest : Nat} {e : Entry} : e ∈ trustedEntries p dest ↔
    ∃ i, i / 4 = dest % 32 ∧ entryAt p i = some e ∧ e.dest = dest ∧ e.doubtful = false := by
  simp only [trustedEntries, List.mem_filterMap, mem_waysOf, setOf, Option.filter_eq_some_iff, Bool.and_eq_true,
    decide_eq_true_eq, Bool.not_eq_true']

theorem mem_trailerCandidates {p : Pdr} {dest : Nat} {x : TrailerCandidate} : x ∈ trailerCandidates p dest ↔
    ∃ i e, i / 4 = dest % 32 ∧ entryAt p i = some e ∧ e.dest = dest ∧ e.doubtful = false ∧
      e.bay = x.bay ∧ e.kind = .trailer x.cutOff x.margin x.openings := by
  rw [trailerCandidates, List.mem_filterMap]
  constructor
  · rintro ⟨e, he, hx⟩
    obtain ⟨i, hset, hi, hdest, htrusted⟩ := mem_trustedEntries.mp he
    cases hk : e.kind with
    | trailer c m o =>
      rw [hk, Option.some.injEq] at hx
      exact ⟨i, e, hset, hi, hdest, htrusted, hx ▸ rfl, hx ▸ hk⟩
    | lane => simp [hk] at hx
  · rintro ⟨i, e, hset, hi, hdest, htrusted, hbay, hk⟩
    exact ⟨e, mem_trustedEntries.mpr ⟨i, hset, hi, hdest, htrusted⟩, by simp [hk, hbay]⟩

theorem mem_laneCandidates {p : Pdr} {dest : Nat} {x : LaneCandidate} : x ∈ laneCandidates p dest ↔
    ∃ i e, i / 4 = dest % 32 ∧ entryAt p i = some e ∧ e.dest = dest ∧ e.doubtful = false ∧
      e.bay = x.bay ∧ e.kind = .lane x.lane x.fill x.high := by
  rw [laneCandidates, List.mem_filterMap]
  constructor
  · rintro ⟨e, he, hx⟩
    obtain ⟨i, hset, hi, hdest, htrusted⟩ := mem_trustedEntries.mp he
    cases hk : e.kind with
    | trailer => simp [hk] at hx
    | lane n f h =>
      rw [hk, Option.some.injEq] at hx
      exact ⟨i, e, hset, hi, hdest, htrusted, hx ▸ rfl, hx ▸ hk⟩
  · rintro ⟨i, e, hset, hi, hdest, htrusted, hbay, hk⟩
    exact ⟨e, mem_trustedEntries.mpr ⟨i, hset, hi, hdest, htrusted⟩, by simp [hk, hbay]⟩

/-- A set has four ways. -/
theorem length_trustedEntries (p : Pdr) (dest : Nat) : (trustedEntries p dest).length ≤ 4 :=
  List.length_filterMap_le _ (waysOf (setOf dest))

theorem length_trailerCandidates (p : Pdr) (dest : Nat) : (trailerCandidates p dest).length ≤ 4 :=
  (List.length_filterMap_le ..).trans (length_trustedEntries p dest)

theorem length_laneCandidates (p : Pdr) (dest : Nat) : (laneCandidates p dest).length ≤ 4 :=
  (List.length_filterMap_le ..).trans (length_trustedEntries p dest)

/-! ## A drain's search joined (R140) -/

theorem State.drainSearch?_eq_some {s : State} {k n : Nat} {q : DrainSearch} : s.drainSearch? k n = some q ↔
    ∃ l d, s.lane? k = some l ∧ l.drain = some d ∧ d.search = some q ∧ q.token = n := by
  simp only [State.drainSearch?, Option.filter_eq_some_iff, Option.bind_eq_some_iff, decide_eq_true_eq]
  constructor
  · rintro ⟨⟨l, hl, d, hd, hq⟩, hn⟩
    exact ⟨l, d, hl, hd, hq, hn⟩
  · rintro ⟨l, d, hl, hd, hq, hn⟩
    exact ⟨⟨l, hl, d, hd, hq⟩, hn⟩

/-! ## The requests answered -/

theorem exec_trailerCandidatesRequest_record {s : State} (hl : s.resetLine = false) (dest pallet token : Nat) :
    exec (.trailerCandidatesRequest dest (.record pallet token)) s =
      .next ((s.drop (.trailerCandidatesRequest dest (.record pallet token))).handAll
        [.trailerCandidatesAnswer pallet token (trailerCandidates s.pdr dest)]) := by
  rw [exec, execTrailerCandidatesRequest, taken_running hl]
  rfl

theorem exec_laneCandidatesRequest {s : State} (hl : s.resetLine = false) (dest pallet token : Nat) :
    exec (.laneCandidatesRequest dest pallet token) s =
      .next ((s.drop (.laneCandidatesRequest dest pallet token)).handAll
        [.laneCandidatesAnswer pallet token (laneCandidates s.pdr dest)]) := by
  rw [exec, execLaneCandidatesRequest, taken_running hl]
  rfl

theorem exec_trailerCandidatesRequest_drain {s : State} (hl : s.resetLine = false) (dest lane token : Nat) :
    exec (.trailerCandidatesRequest dest (.drain lane token)) s =
      .next ((s.drop (.trailerCandidatesRequest dest (.drain lane token))).joinDrain lane token fun q =>
        { q with found := some (trailerCandidates s.pdr dest) }) := by
  rw [exec, execTrailerCandidatesRequest, taken_running hl]
  rfl

/-- Settles O40: the candidates by membership, a record's request answered at once, a drain's joined to its search. -/
theorem candidatesAreAnswered : Obligations.CandidatesAreAnswered := by
  refine ⟨fun _ _ _ _ => State.drainSearch?_eq_some,
    fun k j f s => ⟨s.lane?_updateLane k j _ fun _ => rfl, rfl, rfl⟩, fun _ _ _ => mem_trailerCandidates,
    fun dest pallet token s hl => ⟨_, exec_trailerCandidatesRequest_record hl .., length_trailerCandidates ..,
      fun _ => mem_trailerCandidates⟩,
    fun dest pallet token s hl => ⟨_, exec_laneCandidatesRequest hl .., length_laneCandidates ..,
      fun _ => mem_laneCandidates⟩,
    fun dest lane token q s hl hq => ?_, fun dest lane token s hl hq => ?_⟩
  all_goals
    have hq' (c : Instr) := (show (s.drop c).drainSearch? lane token = s.drainSearch? lane token from rfl).trans hq
    rw [exec_trailerCandidatesRequest_drain hl]
    simp only [State.joinDrain, hq']
  cases q.own <;> rfl

end Sys2Proof.Machine
end

section
/-! PROOFS. Insertion into the peer directory (R40): the way an insertion takes, and the form of the directory, which an
insertion and a removal keep (R39). -/

namespace Sys2Proof.Machine

/-! ## The way an insertion takes (R40) -/

/-- The first of a rising list that meets a test is the least that does. -/
theorem le_of_find? {l : List Nat} (hl : l.Pairwise (· < ·)) {t : Nat → Bool} {i j : Nat} (h : l.find? t = some i)
    (hj : j ∈ l) (ht : t j = true) : i ≤ j := by
  obtain ⟨-, before, after, rfl, hbefore⟩ := List.find?_eq_some_iff_append.mp h
  obtain hj | hj := List.mem_append.mp hj
  · have := hbefore j hj
    simp [ht] at this
  · obtain rfl | hj := List.mem_cons.mp hj
    · exact le_rfl
    · exact (List.rel_of_pairwise_cons (List.pairwise_append.mp hl).2.1 hj).le

/-- Of the ways of a rising list with their ages, the one evicted is the oldest, the lowest of equals. -/
theorem evicted_oldest {l : List (Nat × Nat)} (hl : (l.map Prod.fst).Pairwise (· < ·)) {x : Nat × Nat}
    (h : firstBest evictBefore l = some x) {y : Nat × Nat} (hy : y ∈ l) : y.2 < x.2 ∨ y.2 = x.2 ∧ x.1 ≤ y.1 := by
  induction l generalizing x y with
  | nil => cases hy
  | cons a l ih =>
    obtain ⟨hlow, hl⟩ := List.pairwise_cons.mp hl
    unfold firstBest at h
    cases hb : firstBest evictBefore l with
    | none =>
      rw [(firstBest_none _ _).mp hb] at hy
      obtain rfl : y = a := by simpa using hy
      obtain rfl : y = x := by simpa [hb] using h
      exact .inr ⟨rfl, le_rfl⟩
    | some b =>
      have hab : a.1 < b.1 := hlow _ (List.mem_map_of_mem (firstBest_mem _ _ _ hb))
      simp only [hb, evictBefore, decide_eq_true_eq] at h
      split at h <;> cases h <;> obtain rfl | hy := List.mem_cons.mp hy
      · exact .inl ‹_›
      · exact ih hl hb hy
      · exact .inr ⟨rfl, le_rfl⟩
      · have := ih hl hb hy
        omega

theorem findWay_eq_some {p : Pdr} {k : EntryKey} {i : Nat} (h : findWay p k = some i) :
    i / 4 = setOf k.dest ∧ ∃ e, entryAt p i = some e ∧ entryKey e = k := by
  refine ⟨mem_waysOf.mp (List.mem_of_find?_eq_some h), ?_⟩
  have := List.find?_some h
  cases he : entryAt p i with
  | none => simp [he] at this
  | some e => exact ⟨e, rfl, by simpa [he] using this⟩

theorem findWay_eq_none {p : Pdr} {k : EntryKey} (h : findWay p k = none) {j : Nat} {e : Entry}
    (hj : j / 4 = setOf k.dest) (he : entryAt p j = some e) : entryKey e ≠ k := by
  have := List.find?_eq_none.mp h j (mem_waysOf.mpr hj)
  simpa [he] using this

/-- The ways of a set that an ADVERT may still evict, with their ages (R40). -/
def evictable (p : Pdr) (kept : List Nat) (n : Nat) : List (Nat × Nat) :=
  ((waysOf n).filter fun i => !kept.contains i).map fun i => (i, ((entryAt p i).map Entry.age).getD 0)

theorem mem_evictable {p : Pdr} {kept : List Nat} {n : Nat} {x : Nat × Nat} : x ∈ evictable p kept n ↔
    x.1 / 4 = n ∧ x.1 ∉ kept ∧ x.2 = ((entryAt p x.1).map Entry.age).getD 0 := by
  obtain ⟨i, age⟩ := x
  simp only [evictable, List.mem_map, List.mem_filter, mem_waysOf, List.contains_eq_mem, Bool.not_eq_true',
    decide_eq_false_iff_not, Prod.mk.injEq]
  constructor
  · rintro ⟨j, ⟨hset, hk⟩, rfl, rfl⟩
    exact ⟨hset, hk, rfl⟩
  · rintro ⟨hset, hk, rfl⟩
    exact ⟨i, ⟨hset, hk⟩, rfl, rfl⟩

theorem evictable_rising (p : Pdr) (kept : List Nat) (n : Nat) :
    ((evictable p kept n).map Prod.fst).Pairwise (· < ·) := by
  simpa [evictable, Function.comp_def] using (waysOf_pairwise n).filter _

/-- In a full set without the key, the oldest entry that this ADVERT has not written is evicted, if there is one
(R40). -/
theorem evicted_cases {p : Pdr} (kept : List Nat) {k : EntryKey}
    (absent : ∀ j e, j / 4 = setOf k.dest → entryAt p j = some e → entryKey e ≠ k)
    (full : ∀ j, j / 4 = setOf k.dest → entryAt p j ≠ none) :
    (∃ x, firstBest evictBefore (evictable p kept (setOf k.dest)) = some x ∧ InsertionWay p kept k x.1) ∨
      firstBest evictBefore (evictable p kept (setOf k.dest)) = none ∧
        ∀ i, i / 4 = setOf k.dest → i ∈ kept ∧ ∃ x, entryAt p i = some x ∧ entryKey x ≠ k := by
  have listed {j : Nat} (hj : j / 4 = setOf k.dest) (hjk : j ∉ kept) :
      (j, ((entryAt p j).map Entry.age).getD 0) ∈ evictable p kept (setOf k.dest) :=
    mem_evictable.mpr ⟨hj, hjk, rfl⟩
  cases hb : firstBest evictBefore (evictable p kept (setOf k.dest)) with
  | some x =>
    obtain ⟨hset, hkept, hage⟩ := mem_evictable.mp (firstBest_mem _ _ _ hb)
    refine .inl ⟨x, rfl, hset, .inr ⟨absent, .inr ⟨full, hkept, fun j u v hj hjk hu hv => ?_⟩⟩⟩
    have := evicted_oldest (evictable_rising ..) hb (listed hj hjk)
    simpa [hage, hu, hv] using this
  | none =>
    refine .inr ⟨rfl, fun i hset => ⟨?_, ?_⟩⟩
    · by_contra hk
      have := listed hset hk
      rw [(firstBest_none _ _).mp hb] at this
      cases this
    · obtain ⟨x, hx⟩ := Option.ne_none_iff_exists'.mp (full i hset)
      exact ⟨x, hx, absent i x hset hx⟩

/-- The three ways an insertion may take, and when there is none (R40). -/
theorem wayFor_cases (p : Pdr) (kept : List Nat) (k : EntryKey) :
    (∃ i, wayFor p kept k = some i ∧ InsertionWay p kept k i) ∨
      wayFor p kept k = none ∧
        ∀ i, i / 4 = setOf k.dest → i ∈ kept ∧ ∃ x, entryAt p i = some x ∧ entryKey x ≠ k := by
  cases hf : findWay p k with
  | some i =>
    obtain ⟨hset, hkey⟩ := findWay_eq_some hf
    exact .inl ⟨i, by simp only [wayFor, hf], hset, .inl hkey⟩
  | none =>
    have absent (j : Nat) (e : Entry) (hj : j / 4 = setOf k.dest) (he : entryAt p j = some e) : entryKey e ≠ k :=
      findWay_eq_none hf hj he
    cases hi : (waysOf (setOf k.dest)).find? fun i => (entryAt p i).isNone with
    | some i =>
      have hset : i / 4 = setOf k.dest := mem_waysOf.mp (List.mem_of_find?_eq_some hi)
      refine .inl ⟨i, by simp only [wayFor, hf, hi], hset, .inr ⟨absent, .inl ⟨?_, fun j hlt hj hnone => ?_⟩⟩⟩
      · simpa using List.find?_some hi
      · have := le_of_find? (waysOf_pairwise _) hi (mem_waysOf.mpr hj) (by simp [hnone])
        omega
    | none =>
      have hway : wayFor p kept k = (firstBest evictBefore (evictable p kept (setOf k.dest))).map Prod.fst := by
        simp only [wayFor, hf, hi, evictable]
      have full (j : Nat) (hj : j / 4 = setOf k.dest) : entryAt p j ≠ none := by
        simpa using List.find?_eq_none.mp hi j (mem_waysOf.mpr hj)
      obtain ⟨x, hx, hw⟩ | ⟨hnone, hfull⟩ := evicted_cases kept absent full
      · exact .inl ⟨x.1, by rw [hway, hx, Option.map_some], hw⟩
      · exact .inr ⟨by rw [hway, hnone, Option.map_none], hfull⟩

/-- An insertion takes a way, or finds every way of its set written by this ADVERT under other keys (R40). -/
theorem insertEntry_cases (p : Pdr) (kept : List Nat) (e : Entry) :
    (∃ i, InsertionWay p kept (entryKey e) i ∧ insertEntry p kept e = (putEntry p i e, i :: kept)) ∨
      (∀ i, i / 4 = e.dest % 32 → i ∈ kept ∧ ∃ x, entryAt p i = some x ∧ entryKey x ≠ entryKey e) ∧
        insertEntry p kept e = (p, kept) := by
  obtain ⟨i, hi, hway⟩ | ⟨hnone, hfull⟩ := wayFor_cases p kept (entryKey e)
  · exact .inl ⟨i, hway, by simp only [insertEntry, hi]⟩
  · exact .inr ⟨hfull, by simp only [insertEntry, hnone]⟩

/-- The first insertion of an ADVERT is made. -/
theorem insertEntry_first (p : Pdr) (e : Entry) :
    ∃ i, InsertionWay p [] (entryKey e) i ∧ insertEntry p [] e = (putEntry p i e, [i]) := by
  obtain h | ⟨hfull, -⟩ := insertEntry_cases p [] e
  · exact h
  · exact nomatch (hfull (4 * (e.dest % 32)) (by omega)).1

theorem InsertionWay.lt {p : Pdr} {kept : List Nat} {k : EntryKey} {i : Nat} (h : InsertionWay p kept k i) :
    i < 128 := way_lt h.1

/-- An insertion does not take a way that this ADVERT has written under another key. -/
theorem InsertionWay.ne_of_kept {p : Pdr} {kept : List Nat} {k : EntryKey} {i j : Nat} {x : Entry}
    (h : InsertionWay p kept k i) (hj : j ∈ kept) (hx : entryAt p j = some x) (hk : entryKey x ≠ k) : j ≠ i := by
  rintro rfl
  obtain ⟨-, ⟨e, he, hek⟩ | ⟨-, ⟨hnone, -⟩ | ⟨-, hnot, -⟩⟩⟩ := h
  · exact hk (Option.some.inj (hx.symm.trans he) ▸ hek)
  · exact nomatch hx.symm.trans hnone
  · exact hnot hj

/-! ## The form of the directory (R39) -/

/-- In a directory in form, an entry with the key of an insertion stands at the way that the insertion takes. -/
theorem InsertionWay.eq_of_key {p : Pdr} {kept : List Nat} {k : EntryKey} {i j : Nat} {x : Entry}
    (h : InsertionWay p kept k i) (hp : PdrFits p) (hx : entryAt p j = some x) (hk : entryKey x = k) : j = i := by
  obtain ⟨-, ⟨e, he, hek⟩ | ⟨absent, -⟩⟩ := h
  · exact hp.once j i x e hx he (hk.trans hek.symm)
  · exact absurd hk (absent j x (by rw [hp.inSets j x hx, ← hk, entryKey_dest]) hx)

/-- A change that leaves the key of every entry it does not remove keeps the form. -/
theorem PdrFits.of_keys {p q : Pdr} (hp : PdrFits p)
    (h : ∀ i e, entryAt q i = some e → ∃ x, entryAt p i = some x ∧ entryKey e = entryKey x) : PdrFits q := by
  constructor
  · intro i e hi
    obtain ⟨x, hx, hk⟩ := h i e hi
    rw [hp.inSets i x hx, ← entryKey_dest, ← hk, entryKey_dest]
  · intro i j e g hi hj hk
    obtain ⟨x, hx, hkx⟩ := h i e hi
    obtain ⟨y, hy, hky⟩ := h j g hj
    exact hp.once i j x y hx hy (by rw [← hkx, hk, hky])

theorem PdrFits.mapEntries {p : Pdr} (hp : PdrFits p) {f : Entry → Option Entry}
    (hf : ∀ e e', f e = some e' → entryKey e' = entryKey e) : PdrFits (mapEntries p f) :=
  hp.of_keys fun i e hi => by
    rw [entryAt_mapEntries, Option.bind_eq_some_iff] at hi
    obtain ⟨x, hx, hfx⟩ := hi
    exact ⟨x, hx, hf x e hfx⟩

theorem PdrFits.remove {p : Pdr} (hp : PdrFits p) (c : Entry → Prop) [DecidablePred c] :
    PdrFits (Machine.mapEntries p fun e => if c e then none else some e) :=
  hp.mapEntries fun e e' h => by
    split at h <;> cases h
    rfl

/-- An insertion at its way keeps the form. -/
theorem PdrFits.putEntry {p : Pdr} (hp : PdrFits p) {kept : List Nat} {e : Entry} {i : Nat}
    (hway : InsertionWay p kept (entryKey e) i) : PdrFits (putEntry p i e) := by
  have at_ (j : Nat) := entryAt_putEntry (p := p) j e hway.lt
  constructor
  · intro j x hx
    rw [at_] at hx
    split at hx
    · cases hx
      exact ‹j = i› ▸ hway.1
    · exact hp.inSets j x hx
  · intro j l x y hx hy hk
    rw [at_] at hx hy
    split at hx <;> split at hy
    · exact ‹j = i›.trans ‹l = i›.symm
    · cases hx
      exact absurd (hway.eq_of_key hp hy hk.symm) ‹_›
    · cases hy
      exact absurd (hway.eq_of_key hp hx hk) ‹_›
    · exact hp.once j l x y hx hy hk

theorem PdrFits.insertEntry {p : Pdr} (hp : PdrFits p) (kept : List Nat) (e : Entry) :
    PdrFits (insertEntry p kept e).1 := by
  obtain ⟨i, hway, heq⟩ | ⟨-, heq⟩ := insertEntry_cases p kept e
  · rw [heq]
    exact hp.putEntry hway
  · rwa [heq]

end Sys2Proof.Machine
end

section
/-! PROOFS. The handling of an ADVERT (R42 to R46, O38): what the directory holds amid it, and once it is over. -/

namespace Sys2Proof.Machine

/-! ## The fields taken (R43 to R46) -/

theorem advertsTrailer_iff {a : AdvertBody} :
    advertsTrailer a = true ↔ a.state = .outbound ∧ 1 ≤ a.accepting ∧ a.accepting ≤ 999 := by
  simp [advertsTrailer, validDest]

theorem advertLaneDest_eq_some {l : LaneAdvert} {dest : Nat} : advertLaneDest l = some dest ↔
    1 ≤ l.number ∧ l.number ≤ 4 ∧
      (l.assignment = .free ∧ dest = 0 ∨
        l.assignment = .assigned ∧ dest = l.dest ∧ 1 ≤ l.dest ∧ l.dest ≤ 999) := by
  unfold advertLaneDest
  by_cases hn : 1 ≤ l.number ∧ l.number ≤ 4
  · obtain ⟨h1, h4⟩ := hn
    cases l.assignment with
    | free | suspect => simp [h1, h4, eq_comm]
    | assigned =>
      by_cases hd : 1 ≤ l.dest ∧ l.dest ≤ 999
      · simp [h1, h4, validDest, hd, eq_comm]
      · have hv : validDest l.dest = false := by simpa [validDest] using hd
        simp [h1, h4, hv, hd]
  · rw [if_neg hn]
    exact iff_of_false nofun fun ⟨h1, h4, _⟩ => hn ⟨h1, h4⟩

/-- The keys of two lanes of one ADVERT are those of different lanes or destinations. -/
theorem entryKey_advertLane_ne {b d d' : Nat} {l m : LaneAdvert} (h : m.number = l.number → d ≠ d') :
    entryKey (advertLane b d m) ≠ entryKey (advertLane b d' l) := by
  intro hk
  rw [entryKey_lane rfl, entryKey_lane rfl] at hk
  injection hk with hd _ hn
  exact h (Option.some.inj hn) hd

theorem entryKey_advertLane_ne_trailer (b d : Nat) (l : LaneAdvert) (a : AdvertBody) :
    entryKey (advertLane b d l) ≠ entryKey (advertTrailer b a) := by
  rw [entryKey_lane rfl, entryKey_trailer rfl]
  intro hk
  injection hk with _ _ hn
  cases hn

/-- A TRAILER entry of a bay for a destination has the key of the one that the bay's ADVERT enters there. -/
theorem entryKey_eq_advertTrailer {e : Entry} {a : AdvertBody} (ht : isTrailerEntry e = true)
    (hd : e.dest = a.accepting) : entryKey e = entryKey (advertTrailer e.bay a) := by
  obtain ⟨c, m, o, hk⟩ := isTrailerEntry_iff.mp ht
  rw [entryKey_trailer hk, entryKey_trailer (e := advertTrailer e.bay a) rfl, hd]
  rfl

/-- An entry is one that an ADVERT names, as the ADVERT gives it (R43 to R46). -/
def AdvertNames (b : Nat) (a : AdvertBody) (e : Entry) : Prop :=
  e = advertTrailer b a ∧ advertsTrailer a = true ∨
    ∃ l ∈ a.lanes, ∃ dest, advertLaneDest l = some dest ∧ e = advertLane b dest l

theorem AdvertNames.fresh {b : Nat} {a : AdvertBody} {e : Entry} (h : AdvertNames b a e) :
    e.bay = b ∧ e.doubtful = false ∧ e.age = 0 := by
  obtain ⟨rfl, -⟩ | ⟨l, -, dest, -, rfl⟩ := h <;> exact ⟨rfl, rfl, rfl⟩

/-! ## What an insertion leaves (R40) -/

section
variable {p : Pdr} {kept : List Nat} {e x : Entry} {j : Nat}

@[simp] theorem insertEntry_heard : (insertEntry p kept e).1.heard = p.heard := by
  unfold insertEntry
  split <;> rfl

/-- After an insertion into a directory in form, no entry but the one inserted has its key. -/
theorem entryAt_insertEntry (hp : PdrFits p) (h : entryAt (insertEntry p kept e).1 j = some x) :
    x = e ∨ entryKey x ≠ entryKey e ∧ entryAt p j = some x := by
  obtain ⟨i, hway, heq⟩ | ⟨hfull, heq⟩ := insertEntry_cases p kept e
  · rw [heq, entryAt_putEntry j e hway.lt] at h
    split at h
    · exact .inl (Option.some.inj h).symm
    · exact .inr ⟨fun hk => ‹j ≠ i› (hway.eq_of_key hp h hk), h⟩
  · rw [heq] at h
    refine .inr ⟨fun hk => ?_, h⟩
    have hset : j / 4 = e.dest % 32 := by rw [hp.inSets j x h, ← entryKey_dest, hk, entryKey_dest, setOf]
    obtain ⟨-, y, hy, hne⟩ := hfull j hset
    exact hne (Option.some.inj (hy.symm.trans h) ▸ hk)

/-- An insertion leaves what this ADVERT has written under another key. -/
theorem entryAt_insertEntry_kept (hj : j ∈ kept) (hx : entryAt p j = some x) (hk : entryKey x ≠ entryKey e) :
    entryAt (insertEntry p kept e).1 j = some x := by
  obtain ⟨i, hway, heq⟩ | ⟨-, heq⟩ := insertEntry_cases p kept e
  · rw [heq, entryAt_putEntry j e hway.lt, if_neg (hway.ne_of_kept hj hx hk), hx]
  · rw [heq, hx]

/-- A way that this ADVERT has written holds the entry inserted, or was written before and is left. -/
theorem mem_insertEntry (hj : j ∈ (insertEntry p kept e).2) :
    entryAt (insertEntry p kept e).1 j = some e ∨
      j ∈ kept ∧ entryAt (insertEntry p kept e).1 j = entryAt p j := by
  obtain ⟨i, hway, heq⟩ | ⟨-, heq⟩ := insertEntry_cases p kept e
  · rw [heq] at hj ⊢
    rw [entryAt_putEntry j e hway.lt]
    by_cases h : j = i
    · exact .inl (if_pos h)
    · exact .inr ⟨List.mem_of_ne_of_mem h hj, if_neg h⟩
  · rw [heq] at hj ⊢
    exact .inr ⟨hj, rfl⟩

theorem subset_insertEntry : kept ⊆ (insertEntry p kept e).2 := by
  obtain ⟨i, -, heq⟩ | ⟨-, heq⟩ := insertEntry_cases p kept e <;> rw [heq]
  · exact List.subset_cons_self i kept
  · exact List.Subset.refl kept

end

/-! ## Amid an ADVERT -/

/-- The end of the lane part spares an entry of the sender: a TRAILER entry, or one under a key that the ADVERT has
named (R44). -/
def Spared (named : List EntryKey) (e : Entry) : Prop := isTrailerEntry e = true ∨ entryKey e ∈ named

/-- Amid the handling of an ADVERT from `b`, once its trailer part is done: the directory, which was `p₀` before, is in
form; it has only old entries of other bays; each entry of `b` that the end of the lane part spares is as the ADVERT
names it; and each way that the ADVERT has written holds such an entry. -/
structure AmidAdvert (b : Nat) (a : AdvertBody) (p₀ : Pdr) (kept : List Nat) (named : List EntryKey) (p : Pdr) :
    Prop where
  fits : PdrFits p
  heard : p.heard = p₀.heard
  others : ∀ i e, entryAt p i = some e → e.bay ≠ b → entryAt p₀ i = some e
  fresh : ∀ i e, entryAt p i = some e → e.bay = b → Spared named e → AdvertNames b a e
  written : ∀ i ∈ kept, ∃ e, entryAt p i = some e ∧ AdvertNames b a e ∧ Spared named e

section
variable {b : Nat} {a : AdvertBody} {p₀ p : Pdr} {kept : List Nat} {named : List EntryKey}

/-! ### The trailer part (R42, R43) -/

/-- The TRAILER entry that an ADVERT names is made, and no entry of another bay is lost but the one evicted. -/
theorem trailerPart_inserts (b : Nat) (p : Pdr) (h : advertsTrailer a = true) :
    ∃ i, InsertionWay p [] (entryKey (advertTrailer b a)) i ∧ i ∈ (trailerPart p b a).2 ∧
      entryAt (trailerPart p b a).1 i = some (advertTrailer b a) ∧
      ∀ j e, j ≠ i → entryAt p j = some e → e.bay ≠ b → entryAt (trailerPart p b a).1 j = some e := by
  obtain ⟨i, hway, heq⟩ := insertEntry_first p (advertTrailer b a)
  have put (j : Nat) := entryAt_putEntry (p := p) j (advertTrailer b a) hway.lt
  simp only [trailerPart, h, if_true, heq]
  refine ⟨i, hway, List.mem_singleton_self i, ?_, fun j e hj he hb => ?_⟩
  · rw [entryAt_removed, put, if_pos rfl]
    exact ⟨rfl, fun hne => hne.2.2 rfl⟩
  · rw [entryAt_removed, put, if_neg hj]
    exact ⟨he, fun hne => hb hne.1⟩

theorem trailerPart_amid (hp : PdrFits p) (heard : p.heard = p₀.heard)
    (others : ∀ i e, entryAt p i = some e → e.bay ≠ b → entryAt p₀ i = some e) :
    AmidAdvert b a p₀ (trailerPart p b a).2 [] (trailerPart p b a).1 := by
  by_cases h : advertsTrailer a = true
  · simp only [trailerPart, h, if_true]
    have hq : PdrFits (insertEntry p [] (advertTrailer b a)).1 := hp.insertEntry [] _
    refine ⟨hq.remove _, ?_, fun i e he hb => ?_, fun i e he hb hs => ?_, fun i hi => ?_⟩
    · rw [mapEntries_heard, insertEntry_heard, heard]
    · obtain rfl | ⟨-, he⟩ := entryAt_insertEntry hp ((entryAt_removed ..).mp he).1
      · exact absurd rfl hb
      · exact others i e he hb
    · obtain ⟨he, hc⟩ := (entryAt_removed ..).mp he
      obtain ht | hs := hs
      · have hd : e.dest = a.accepting := by
          by_contra hd
          exact hc ⟨hb, ht, hd⟩
        obtain rfl | ⟨hk, -⟩ := entryAt_insertEntry hp he
        · exact .inl ⟨rfl, h⟩
        · exact absurd (hb ▸ entryKey_eq_advertTrailer ht hd) hk
      · cases hs
    · obtain he | ⟨hi, -⟩ := mem_insertEntry hi
      · exact ⟨_, (entryAt_removed ..).mpr ⟨he, fun hc => hc.2.2 rfl⟩, .inl ⟨rfl, h⟩, .inl rfl⟩
      · cases hi
  · simp only [trailerPart, h]
    refine ⟨hp.remove _, heard, fun i e he hb => ?_, fun i e he hb hs => ?_, fun i hi => ?_⟩
    · exact others i e ((entryAt_removed ..).mp he).1 hb
    · obtain ⟨-, hc⟩ := (entryAt_removed ..).mp he
      obtain ht | hs := hs
      · exact absurd ⟨hb, ht⟩ hc
      · cases hs
    · cases hi

/-- The directory after R42 and the trailer part, and the ways written. -/
def advertBegun (p : Pdr) (b : Nat) (restart : Bool) (a : AdvertBody) : Pdr × List Nat :=
  trailerPart (if restart then forgetBay p b else p) b a

theorem advertBegun_amid (hp : PdrFits p) (restart : Bool) :
    AmidAdvert b a p (advertBegun p b restart a).2 [] (advertBegun p b restart a).1 := by
  cases restart with
  | false => exact trailerPart_amid hp rfl fun _ _ he _ => he
  | true => exact trailerPart_amid (hp.remove _) rfl fun _ _ he _ => ((entryAt_removed ..).mp he).1

/-! ### The lane part (R44) -/

theorem AmidAdvert.insert (h : AmidAdvert b a p₀ kept named p) {l : LaneAdvert} {dest : Nat} (hl : l ∈ a.lanes)
    (hd : advertLaneDest l = some dest) :
    AmidAdvert b a p₀ (insertEntry p kept (advertLane b dest l)).2
      (named ++ [entryKey (advertLane b dest l)]) (insertEntry p kept (advertLane b dest l)).1 := by
  have hname : AdvertNames b a (advertLane b dest l) := .inr ⟨l, hl, dest, hd, rfl⟩
  refine ⟨h.fits.insertEntry .., insertEntry_heard.trans h.heard, fun i e he hb => ?_, fun i e he hb hs => ?_,
    fun i hi => ?_⟩
  · obtain rfl | ⟨-, he⟩ := entryAt_insertEntry h.fits he
    · exact absurd rfl hb
    · exact h.others i e he hb
  · obtain rfl | ⟨hk, he⟩ := entryAt_insertEntry h.fits he
    · exact hname
    · exact h.fresh i e he hb (hs.imp_right fun hm => by simpa [hk] using hm)
  · obtain he | ⟨hi, he⟩ := mem_insertEntry hi
    · exact ⟨_, he, hname, .inr (by simp)⟩
    · obtain ⟨x, hx, hn, hs⟩ := h.written i hi
      exact ⟨x, he.trans hx, hn, hs.imp_right (List.mem_append_left _)⟩

/-- Some lanes of an ADVERT inserted: the ways written stay so, and each keeps its entry unless one of the lanes has its
key. -/
theorem AmidAdvert.insertLanes {ls : List LaneAdvert} (hls : ls ⊆ a.lanes) (h : AmidAdvert b a p₀ kept named p) :
    ∃ kept' named' p', AmidAdvert b a p₀ kept' named' p' ∧ kept ⊆ kept' ∧
      (∀ i ∈ kept, ∀ x, entryAt p i = some x →
        (∀ m ∈ ls, ∀ d, advertLaneDest m = some d → entryKey (advertLane b d m) ≠ entryKey x) →
        entryAt p' i = some x) ∧
      ∀ rest, insertLanes b (ls ++ rest) p kept named = insertLanes b rest p' kept' named' := by
  induction ls generalizing p kept named with
  | nil => exact ⟨kept, named, p, h, List.Subset.refl kept, fun _ _ _ hx _ => hx, fun _ => rfl⟩
  | cons l ls ih =>
    obtain ⟨hl, hls⟩ := List.cons_subset.mp hls
    cases hd : advertLaneDest l with
    | none =>
      obtain ⟨kept', named', p', h', hsub, stays, heq⟩ := ih hls h
      refine ⟨kept', named', p', h', hsub, fun i hi x hx hne => ?_, fun rest => ?_⟩
      · exact stays i hi x hx fun m hm => hne m (List.mem_cons_of_mem l hm)
      · simp only [List.cons_append, Machine.insertLanes, hd, heq]
    | some dest =>
      obtain ⟨kept', named', p', h', hsub, stays, heq⟩ := ih hls (h.insert hl hd)
      refine ⟨kept', named', p', h', List.Subset.trans subset_insertEntry hsub, fun i hi x hx hne => ?_, fun rest => ?_⟩
      · have hx' := entryAt_insertEntry_kept hi hx (hne l List.mem_cons_self dest hd).symm
        exact stays i (subset_insertEntry hi) x hx' fun m hm => hne m (List.mem_cons_of_mem l hm)
      · simp only [List.cons_append, Machine.insertLanes, hd, heq]

/-! ## After an ADVERT -/

/-- The end of the lane part removes those entries of the sender that are not spared. -/
def advertEnded (b : Nat) (r : Pdr × List EntryKey) : Pdr :=
  mapEntries r.1 fun e => if e.bay = b ∧ !isTrailerEntry e ∧ entryKey e ∉ r.2 then none else some e

theorem takeAdvert_eq (p : Pdr) (b : Nat) (restart : Bool) (a : AdvertBody) : takeAdvert p b restart a =
    advertEnded b (insertLanes b a.lanes (advertBegun p b restart a).1 (advertBegun p b restart a).2 []) := rfl

theorem entryAt_advertEnded {i : Nat} {e : Entry} :
    entryAt (advertEnded b (p, named)) i = some e ↔ entryAt p i = some e ∧ (e.bay = b → Spared named e) := by
  rw [advertEnded, entryAt_removed]
  refine and_congr_right fun _ => ?_
  rw [not_and]
  refine imp_congr_right fun _ => ?_
  rw [not_and_or, not_not, Spared]
  simp

/-- A way that the ADVERT has written keeps its entry to the end. -/
theorem AmidAdvert.entryAt_ended (h : AmidAdvert b a p₀ kept named p) {i : Nat} (hi : i ∈ kept) :
    entryAt (advertEnded b (p, named)) i = entryAt p i := by
  obtain ⟨e, he, -, hs⟩ := h.written i hi
  rw [he, entryAt_advertEnded]
  exact ⟨he, fun _ => hs⟩

/-- The directory once the ADVERT is over: in form, with the entries it names. -/
theorem takeAdvert_cases (hp : PdrFits p) (b : Nat) (restart : Bool) (a : AdvertBody) :
    ∃ kept named q, AmidAdvert b a p kept named q ∧ takeAdvert p b restart a = advertEnded b (q, named) ∧
      (advertBegun p b restart a).2 ⊆ kept ∧
      ∀ i ∈ (advertBegun p b restart a).2, ∀ x, entryAt (advertBegun p b restart a).1 i = some x →
        (∀ m ∈ a.lanes, ∀ d, advertLaneDest m = some d → entryKey (advertLane b d m) ≠ entryKey x) →
        entryAt q i = some x := by
  obtain ⟨kept, named, q, h, hsub, stays, heq⟩ :=
    (advertBegun_amid (b := b) (a := a) hp restart).insertLanes (List.Subset.refl a.lanes)
  refine ⟨kept, named, q, h, ?_, hsub, stays⟩
  have := heq []
  rw [List.append_nil] at this
  rw [takeAdvert_eq, this]
  rfl

theorem PdrFits.takeAdvert (hp : PdrFits p) (b : Nat) (restart : Bool) (a : AdvertBody) :
    PdrFits (takeAdvert p b restart a) := by
  obtain ⟨kept, named, q, h, heq, -⟩ := takeAdvert_cases hp b restart a
  rw [heq]
  exact h.fits.remove _

theorem takeAdvert_heard (hp : PdrFits p) (b : Nat) (restart : Bool) (a : AdvertBody) :
    (takeAdvert p b restart a).heard = p.heard := by
  obtain ⟨kept, named, q, h, heq, -⟩ := takeAdvert_cases hp b restart a
  rw [heq]
  exact h.heard

/-- Every entry of the sender is one that the ADVERT names, and every entry of another bay is old. -/
theorem takeAdvert_names (hp : PdrFits p) {restart : Bool} {i : Nat} {e : Entry}
    (he : entryAt (takeAdvert p b restart a) i = some e) :
    (e.bay = b → AdvertNames b a e) ∧ (e.bay ≠ b → entryAt p i = some e) := by
  obtain ⟨kept, named, q, h, heq, -⟩ := takeAdvert_cases hp b restart a
  rw [heq] at he
  obtain ⟨he, hs⟩ := entryAt_advertEnded.mp he
  exact ⟨fun hb => h.fresh i e he hb (hs hb), h.others i e he⟩

/-- The TRAILER entry that the ADVERT names is there: no lane has its key. -/
theorem takeAdvert_trailer (hp : PdrFits p) (b : Nat) (restart : Bool) (ht : advertsTrailer a = true) :
    ∃ i, entryAt (takeAdvert p b restart a) i = some (advertTrailer b a) := by
  obtain ⟨kept, named, q, h, heq, hsub, stays⟩ := takeAdvert_cases hp b restart a
  obtain ⟨i, -, hi, hx, -⟩ := trailerPart_inserts b (if restart then forgetBay p b else p) ht
  refine ⟨i, ?_⟩
  rw [heq, h.entryAt_ended (hsub hi)]
  exact stays i hi _ hx fun m _ d _ => entryKey_advertLane_ne_trailer b d m a

/-- The LANE entry of a lane that the ADVERT names is there unless a later lane has its key, save where entries of this
ADVERT fill its set. -/
theorem takeAdvert_lane (hp : PdrFits p) (b : Nat) (restart : Bool) {before after : List LaneAdvert} {l : LaneAdvert}
    {dest : Nat} (ha : a.lanes = before ++ l :: after) (hd : advertLaneDest l = some dest)
    (hlast : ∀ m ∈ after, m.number = l.number → advertLaneDest m ≠ some dest) :
    (∃ i, entryAt (takeAdvert p b restart a) i = some (advertLane b dest l)) ∨
      ∀ i, i / 4 = dest % 32 → ∃ e, entryAt (takeAdvert p b restart a) i = some e ∧ e.bay = b ∧ e.age = 0 := by
  have hl : l ∈ a.lanes := by simp [ha]
  obtain ⟨kept₁, named₁, p₁, h₁, -, -, heq₁⟩ := (advertBegun_amid (b := b) (a := a) hp restart).insertLanes
    (ls := before) (by simp [ha])
  obtain ⟨kept₂, named₂, p₂, h₂, hsub, stays, heq₂⟩ := (h₁.insert hl hd).insertLanes (ls := after) (by simp [ha])
  have heq : takeAdvert p b restart a = advertEnded b (p₂, named₂) := by
    have hrest := heq₂ []
    rw [List.append_nil] at hrest
    rw [takeAdvert_eq, ha, heq₁]
    simp only [insertLanes, hd, hrest]
  rw [heq]
  obtain ⟨i, hway, hins⟩ | ⟨hfull, hins⟩ := insertEntry_cases p₁ kept₁ (advertLane b dest l)
  · have hi : i ∈ (insertEntry p₁ kept₁ (advertLane b dest l)).2 := by simp [hins]
    refine .inl ⟨i, ?_⟩
    rw [h₂.entryAt_ended (hsub hi)]
    refine stays i hi _ ?_ fun m hm d hmd => entryKey_advertLane_ne fun hn hdd => hlast m hm hn (hdd ▸ hmd)
    rw [hins, entryAt_putEntry i _ hway.lt, if_pos rfl]
  · refine .inr fun i hset => ?_
    have hi : i ∈ kept₂ := hsub (subset_insertEntry (hfull i hset).1)
    obtain ⟨e, he, hn, -⟩ := h₂.written i hi
    exact ⟨e, (h₂.entryAt_ended hi).trans he, hn.fresh.1, hn.fresh.2.2⟩

/-- An ADVERT with a trailer, no lane and no RESTART evicts at most the entry at the way it takes. -/
theorem takeAdvert_trailerAlone (p : Pdr) (b : Nat) (ha : a.lanes = []) (ht : advertsTrailer a = true) :
    ∃ i, InsertionWay p [] (entryKey (advertTrailer b a)) i ∧
      entryAt (takeAdvert p b false a) i = some (advertTrailer b a) ∧
      ∀ j e, j ≠ i → entryAt p j = some e → e.bay ≠ b → entryAt (takeAdvert p b false a) j = some e := by
  obtain ⟨i, hway, -, hi, hothers⟩ := trailerPart_inserts b p ht
  rw [takeAdvert_eq, ha]
  refine ⟨i, hway, entryAt_advertEnded.mpr ⟨hi, fun _ => .inl rfl⟩, fun j e hj he hb => ?_⟩
  exact entryAt_advertEnded.mpr ⟨hothers j e hj he hb, fun hbay => absurd hbay hb⟩

end

/-- Settles O38: the fields by the definitions, the directory after the ADVERT by the lemmas above, the way of an
insertion by the cases of R40. -/
theorem advertsAreEntered : Obligations.AdvertsAreEntered := by
  refine ⟨fun _ _ => rfl, fun _ _ _ => ⟨rfl, advertLaneDest_eq_some⟩,
    fun _ _ _ _ _ _ _ => ⟨entryKey_trailer, entryKey_lane⟩,
    fun p i j e hi => ⟨rfl, entryAt_putEntry j e hi⟩, fun b restart a s hl hp =>
      ⟨_, exec_pdrEvent_running rfl rfl hl, takeAdvert_heard hp b restart a, fun i e he hb => ?_, fun ho h1 h999 => ?_,
        fun i e he => (takeAdvert_names hp he).2, fun before after l dest => takeAdvert_lane hp b restart,
        fun hr ha ho h1 h999 => ?_, insertEntry_cases⟩⟩
  · have hn := (takeAdvert_names hp he).1 hb
    refine ⟨hn.fresh.2.1, hn.fresh.2.2, hn.imp_left fun ⟨heq, ht⟩ => ⟨heq, advertsTrailer_iff.mp ht⟩⟩
  · exact takeAdvert_trailer hp b restart (advertsTrailer_iff.mpr ⟨ho, h1, h999⟩)
  · subst hr
    exact takeAdvert_trailerAlone s.pdr b ha (advertsTrailer_iff.mpr ⟨ho, h1, h999⟩)

end Sys2Proof.Machine
end

section
/-! PROOFS. The form of the directory is kept by every step (R39, O12). -/

namespace Sys2Proof.Machine

theorem PdrFits.fillSlot {p : Pdr} (hp : PdrFits p) (b : Nat) (a : AskBody) : PdrFits (fillSlot p b a) :=
  hp.of_keys fun i e he => ⟨e, by rwa [entryAt, fillSlot_entries] at he, rfl⟩

theorem PdrFits.snoopPlace {p : Pdr} (hp : PdrFits p) (b : Nat) (place : Place) (margin : Nat) :
    PdrFits (snoopPlace p b place margin) :=
  hp.of_keys fun i e he => by
    rw [entryAt_snoopPlace, Option.map_eq_some_iff] at he
    obtain ⟨x, hx, rfl⟩ := he
    refine ⟨x, hx, ?_⟩
    split
    · rename_i hk
      split
      · rw [entryKey_trailer rfl, entryKey_trailer hk]
      · rfl
    · rfl

theorem PdrFits.snoopRefuse {p : Pdr} (hp : PdrFits p) (b : Nat) (r : RefuseBody) : PdrFits (snoopRefuse p b r) :=
  hp.of_keys fun i e he => by
    rw [entryAt_snoopRefuse, Option.bind_eq_some_iff] at he
    obtain ⟨x, hx, he⟩ := he
    refine ⟨x, hx, ?_⟩
    split at he
    · rename_i hk
      split at he
      · split at he <;> cases he
        · rw [entryKey_trailer rfl, entryKey_trailer hk]
        · rw [entryKey_trailer rfl, entryKey_trailer hk]
        · rfl
      · cases he
        rfl
    · cases he
      rfl

/-- Each command of the PDR's own keeps the form of the directory: an ADVERT by the way its insertions take, an ASK by
touching no entry, the others by changing no key. -/
theorem PdrFits.pdrAfter {s : State} (hp : PdrFits s.pdr) (c : Instr) : PdrFits (pdrAfter s c) := by
  cases c with
  | pdrAdvert b restart a => exact hp.takeAdvert b restart a
  | pdrAsk _ _ | askNote _ => exact hp.fillSlot ..
  | agingEvent =>
    refine hp.mapEntries fun e e' h => ?_
    split at h <;> cases h
    rfl
  | doubtAll => exact hp.mapEntries fun e e' h => Option.some.inj h ▸ rfl
  | doubtSender _ =>
    refine hp.mapEntries fun e e' h => ?_
    split at h <;> cases h <;> rfl
  | pdrClose _ => exact hp.remove _
  | pdrGrant _ _ | pdrPlaced _ _ => exact hp.snoopPlace ..
  | pdrRefuse _ _ => exact hp.snoopRefuse ..
  | _ => exact hp

/-- An event of the resets empties the directory or, where it takes no reset, leaves it. -/
theorem exec_reset_pdr {c : Instr} {s t : State} (hc : takesReset c = true) (he : exec c s = .next t) :
    t.pdr = resetPdr ∨ t.pdr = s.pdr := by
  have reset (u : State) : u.floorReset.pdr = resetPdr := u.floorReset_asReset.pdr
  cases c <;> simp only [takesReset, Bool.false_eq_true] at hc <;> cases he
  case powerOnReset => exact .inl rfl
  case resetLineReleased =>
    split
    · exact .inl (reset _)
    · exact .inr rfl
  case floorResetTaken =>
    split
    · exact .inr rfl
    · exact .inl (reset s)
  case serviceAnswerSent =>
    split
    · exact .inr rfl
    · dsimp only
      split
      · exact .inr rfl
      · split
        · exact .inl (reset s)
        · exact .inr rfl

theorem PdrFits.exec {c : Instr} {s t : State} (hp : PdrFits s.pdr) (he : exec c s = .next t) : PdrFits t.pdr := by
  cases hw : writesPdr c with
  | false => rwa [exec_leaves c s t he .pdr hw]
  | true =>
    cases hr : takesReset c with
    | true =>
      obtain h | h := exec_reset_pdr hr he <;> rw [h]
      · exact pdrFits_resetPdr
      · exact hp
    | false =>
      rw [exec_pdrEvent hw hr] at he
      cases he
      split
      · exact hp
      · exact PdrFits.pdrAfter (s := s.drop c) hp c

/-- Settles O12: a step is a command of one of the two queues, or a millisecond of the lamps. -/
theorem directoryKeepsItsForm : Obligations.DirectoryKeepsItsForm := by
  intro s t hp hs
  unfold step at hs
  split at hs
  · refine PdrFits.exec ?_ hs
    exact hp
  · exact hp.exec hs
  · cases hs
    unfold State.idle
    split <;> exact hp

end Sys2Proof.Machine
end

section
/-! PROOFS. The rules of the ask table (R58, R60): its slots and the records found in them, events handed on behind one
another, and the state a command of the DSU answers, by the record of its pallet. -/

namespace Sys2Proof.Machine

/-! ## Slots -/

section
variable {s : State} {i p : Nat}

theorem slotIndices_eq_range : slotIndices = List.range 8 := rfl

theorem State.slots_getElem? (h : i < 8) : s.dsu.slots[i]? = some (s.slotAt i) := by simp [State.slotAt, h]

theorem State.setSlot_setSlot (s : State) (i : Nat) (v w : Slot) : (s.setSlot i v).setSlot i w = s.setSlot i w := by
  unfold State.setSlot
  dsimp only
  rw [Vector.setIfInBounds_setIfInBounds]

theorem State.freeRecord_eq (s : State) (i : Nat) (r : PalletRecord) : s.freeRecord i r = s.setSlot i (slotFreed r) :=
  rfl

theorem State.recordAt_of_slotAt {q : PalletRecord} (h : s.slotAt i = .record q) : s.recordAt i = some q := by
  rw [State.recordAt, h]

theorem State.recordAt_eq_some {q : PalletRecord} : s.recordAt i = some q ↔ s.slotAt i = .record q := by
  refine ⟨fun h => ?_, State.recordAt_of_slotAt⟩
  unfold State.recordAt at h
  split at h <;> cases h
  assumption

/-- A pallet has no record, or one is found for it. -/
theorem State.findRecord_cases (s : State) (p : Nat) :
    s.findRecord p = none ∨ ∃ i q, s.findRecord p = some i ∧ s.slotAt i = .record q := by
  cases hi : s.findRecord p with
  | none => exact .inl rfl
  | some i =>
    obtain ⟨-, q, hq, -⟩ := s.findRecord_some p i hi
    exact .inr ⟨i, q, rfl, hq⟩

/-- The record found for a pallet stands in the first slot that holds one. -/
theorem State.findRecord_first (h : s.findRecord p = some i) {j : Nat} {q : PalletRecord} (hj : j < i)
    (hq : s.slotAt j = .record q) : q.pallet ≠ p := by
  rw [State.findRecord, slotIndices_eq_range, List.find?_range_eq_some] at h
  simpa [hq, holdsPallet] using h.2.2 j hj

/-- The free slot taken is the first there is. -/
theorem State.freeSlot_some (h : s.freeSlot = some i) :
    i < 8 ∧ s.slotAt i = .free ∧ ∀ j, j < i → s.slotAt j ≠ .free := by
  rw [State.freeSlot, slotIndices_eq_range, List.find?_range_eq_some] at h
  obtain ⟨hfree, hi, hfirst⟩ := h
  exact ⟨List.mem_range.mp hi, of_decide_eq_true hfree, fun j hj => by simpa using hfirst j hj⟩

theorem State.freeSlot_none (h : s.freeSlot = none) : ∀ j, j < 8 → s.slotAt j ≠ .free := by
  rw [State.freeSlot, slotIndices_eq_range, List.find?_range_eq_none] at h
  exact fun j hj => by simpa using h j hj

end

/-! ## Events handed on in order -/

section
variable (s : State)

theorem State.handAll_handAll (l m : List Instr) : (s.handAll l).handAll m = s.handAll (l ++ m) := by
  simp [State.handAll]

theorem State.handAll_pair (a b : Instr) : s.handAll [a, b] = (s.hand a).hand b := (s.handAll_handAll [a] [b]).symm

theorem State.raiseIf_eq (b : Bool) (k : NoticeKind) :
    s.raiseIf b k = s.handAll (if b then [.noticeRaise k] else []) := by
  cases b
  · simp [State.raiseIf, State.handAll]
  · rfl

end

/-! ## What a command does by the record of its pallet -/

section
variable {s : State} {c : Instr} {p i : Nat} {q : PalletRecord} {f : State → Nat → PalletRecord → State}

theorem State.onRecord_none (g : Nat → PalletRecord → State) (hn : s.findRecord p = none) : s.onRecord p g = s := by
  rw [State.onRecord, hn]

theorem State.onRecord_found (g : Nat → PalletRecord → State) (hi : s.findRecord p = some i)
    (hq : s.slotAt i = .record q) : s.onRecord p g = g i q := by
  simp only [State.onRecord, hi, State.recordAt_of_slotAt hq]

/-- A command for a pallet without a record does nothing. -/
theorem taken_onRecord_none (hl : s.resetLine = false) (hn : s.findRecord p = none) :
    taken c s (fun u => u.onRecord p (f u)) = .next (s.drop c) := by
  rw [taken_running hl, State.onRecord_none (s := s.drop c) _ hn]

/-- A command for a pallet with a record does its work on that record. -/
theorem taken_onRecord (hl : s.resetLine = false) (hi : s.findRecord p = some i) (hq : s.slotAt i = .record q) :
    taken c s (fun u => u.onRecord p (f u)) = .next (f (s.drop c) i q) := by
  rw [taken_running hl, State.onRecord_found (s := s.drop c) _ hi hq]

/-- The slot and the record of a pallet, where the model asks for both: none. -/
theorem State.found_none (hn : s.findRecord p = none) :
    ((s.findRecord p).bind fun i => (s.recordAt i).map fun q => (i, q)) = none := by rw [hn, Option.bind_none]

/-- The slot and the record of a pallet, where the model asks for both. -/
theorem State.found_record (hi : s.findRecord p = some i) (hq : s.slotAt i = .record q) :
    ((s.findRecord p).bind fun i => (s.recordAt i).map fun q => (i, q)) = some (i, q) := by
  rw [hi, Option.bind_some, State.recordAt_of_slotAt hq, Option.map_some]

end

/-! ## A RELEASE of the DSU offered (R79, R31) -/

/-- A RELEASE owed goes where R79 says. -/
theorem State.dsuOwe_kept (u : State) (o : OwedRelease) : DsuReleaseKept u (u.dsuOwe o) o := by
  refine ⟨fun i q hi hq => ?_, fun hn => ⟨fun i hi => ?_, fun hf => ?_⟩⟩
  · simp only [State.dsuOwe, hi, State.recordAt_of_slotAt hq]
    cases q.owedRelease <;> rfl
  · simp only [State.dsuOwe, hn, hi]
  · simp only [State.dsuOwe, hn, hf]

section
variable {s u : State} {n : Nat} {b : ReleaseBody}

theorem State.dsuOffer_placed (h : s.offerResult = .placed) : s.dsuOffer n b = s.bump.placeFrame (.owned
    { owner := .dsu, built := s.serial, target := n, body := .release b }) := by
  rw [State.dsuOffer, h]
  rfl

/-- A RELEASE offered upon a state whose queue and serial number are another's is refused as that other finds it. -/
theorem State.dsuOffer_refused (ho : u.offerResult = s.offerResult) (hs : u.serial = s.serial) :
    DsuReleaseRefused s u (u.dsuOffer n b) n b := by
  refine ⟨fun h => ?_, fun h => ?_⟩
  · rw [State.dsuOffer, ho, h, hs]
    exact u.bump.dsuOwe_kept _
  · rw [State.dsuOffer, ho, h]

end

/-! ## A record freed (R58, R63, R75) -/

section
variable {s : State} {i b n : Nat} {q : PalletRecord}

theorem State.freeWithCancel_placed (ht : q.target = some b) (hn : q.seq = some n) (h : s.offerResult = .placed) :
    s.freeWithCancel i q = (s.bump.setSlot i (slotFreed q)).placeFrame (.owned
      { owner := .dsu, built := s.serial, target := b, body := .release
          { pallet := q.pallet, asker := s.own, seq := n, reason := .cancel } }) := by
  rw [State.freeWithCancel, State.dsuOffer_placed (s := s.freeRecord i q) h, cancelBody, ht, hn]
  rfl

theorem State.freeWithCancel_refused (ht : q.target = some b) (hn : q.seq = some n) :
    DsuReleaseRefused s (s.setSlot i (slotFreed q)) (s.freeWithCancel i q) b
      { pallet := q.pallet, asker := s.own, seq := n, reason := .cancel } := by
  rw [State.freeWithCancel, cancelBody, ht, hn]
  exact State.dsuOffer_refused rfl rfl

/-- A record with no place at a peer or in an own lane frees silently. -/
theorem State.takeBack_silent (h : q.state = .seeking ∨ q.state = .orphan ∨ q.state = .exception ∨
    (q.state = .asked ∧ q.owedAsk ≠ none)) : s.takeBack i q = s.setSlot i (slotFreed q) := by
  obtain h | h | h | ⟨h, ho⟩ := h <;> simp only [State.takeBack, h, State.freeRecord_eq]
  rw [if_pos (Option.isSome_iff_ne_none.mpr ho)]

theorem State.takeBack_selfCancel (h : q.state = .guided) (hn : q.seq = none) :
    s.takeBack i q = (s.setSlot i (slotFreed q)).hand (.selfPutCancel q.pallet) := by
  simp only [State.takeBack, h, guidedByPeer, hn]
  rfl

theorem State.takeBack_cancel (h : q.state = .asked ∧ q.owedAsk = none ∨ q.state = .guided) (hn : q.seq = some n) :
    s.takeBack i q = s.freeWithCancel i q := by
  obtain ⟨h, ho⟩ | h := h
  · simp only [State.takeBack, h, ho]
    rfl
  · simp only [State.takeBack, h, guidedByPeer, hn]
    rfl

end

/-! ## Records orphaned (R76) -/

/-- What orphaning the records that meet a test does at one slot. -/
def orphanStep (p : PalletRecord → Bool) (s : State) (i : Nat) : State :=
  match s.recordAt i with
  | some r => if p r then s.orphanRecord i r else s
  | none => s

theorem State.orphanWhere_eq (s : State) (p : PalletRecord → Bool) :
    s.orphanWhere p = slotIndices.foldl (orphanStep p) s := rfl

theorem orphanStep_eq {p : PalletRecord → Bool} {s : State} {i : Nat} {q : PalletRecord}
    (hq : s.slotAt i = .record q) : orphanStep p s i = if p q then s.orphanRecord i q else s := by
  rw [orphanStep, State.recordAt_of_slotAt hq]

theorem orphanStep_noRecord {p : PalletRecord → Bool} {s : State} {i : Nat}
    (h : ∀ q, s.slotAt i ≠ .record q) : orphanStep p s i = s := by
  rw [orphanStep, Option.eq_none_iff_forall_ne_some.mpr fun q hq => h q (State.recordAt_eq_some.mp hq)]

/-! ## A GRANT that matches no live ask (R70) -/

section
variable {s : State} {i n : Nat} {q : PalletRecord} {g : GrantBody}

theorem State.lateGrant_borrowed (hb : borrowerOf s g.seq = some .mlu) : s.lateGrant n g = s := if_pos hb

theorem State.lateGrant_unrecorded (hb : borrowerOf s g.seq ≠ some .mlu) (hn : s.findRecord g.pallet = none) :
    s.lateGrant n g = s.dsuOffer n { pallet := g.pallet, asker := s.own, seq := g.seq, reason := .late } := by
  rw [State.lateGrant, if_neg hb, hn]
  rfl

/-- A place that the pallet's record reaches already is kept; any other is given back. -/
theorem State.lateGrant_recorded (hb : borrowerOf s g.seq ≠ some .mlu) (hi : s.findRecord g.pallet = some i)
    (hq : s.slotAt i = .record q) : s.lateGrant n g = if alreadyReached q n g then s
      else s.dsuOffer n { pallet := g.pallet, asker := s.own, seq := g.seq, reason := .late } := by
  rw [State.lateGrant, if_neg hb, hi, Option.bind_some, State.recordAt_of_slotAt hq]

end

/-! ## A search begun (R64) -/

section
variable {s : State} {i : Nat} {q : PalletRecord}

theorem mayAskTrailer_iff :
    mayAskTrailer s q = true ↔ q.handling = .direct ∧ q.trailerAsks < 5 ∧ s.fbi.mute = false := by
  simp [mayAskTrailer, and_assoc]

theorem State.beginSearch_exhausted (h : 8 ≤ q.totalAsks) : s.beginSearch i q = s.toException i q := if_pos h

/-- The step at which a search begins (R64): the trailer stage where that may ask, else the own assigned lanes. -/
def firstStep (s : State) (q : PalletRecord) : SearchStep :=
  if q.handling = .direct ∧ q.trailerAsks < 5 ∧ s.fbi.mute = false then .trailerStage else .ownAssigned

theorem State.beginSearch_first (h : q.totalAsks < 8) :
    s.beginSearch i q = s.searchAt i q (some (firstStep s q)) := by
  rw [State.beginSearch, if_neg (by omega), firstStep, apply_ite some]
  simp only [stepFrom, mayAskTrailer_iff]

theorem State.searchAt_some (st : SearchStep) : s.searchAt i q (some st) =
    (s.bump.setSlot i (.record { q with search := some { step := st, token := s.serial } })).hand
      (searchRequest q s.serial st) := rfl

/-- R77: a record in EXCEPTION, its notice and its indication. -/
theorem State.toException_eq : s.toException i q = (s.setSlot i (.record
    { q with
      state := .exception, answerBy := none, guardBy := none, retryAt := none, search := none
      indication := some (indicationOf s.own .except), shown := false })).handAll
    [.noticeRaise .exception, .indicationRequest
      { source := .dsu, indication := indicationOf s.own .except, pallet := some q.pallet }] := by
  rw [State.handAll_pair]
  rfl

end

end Sys2Proof.Machine
end

section
/-! PROOFS. Pallets read back and records removed by the service line (R63, R80, O42). -/

namespace Sys2Proof.Machine

section
variable {s : State} {p i : Nat} {q : PalletRecord}

theorem exec_removeRecord_outOfRange (hr : s.ready = true) (hp : p = 0 ∨ 999999999999 < p) :
    exec (.removeRecord p) s = .next (s.answer .removeRecord .range .nothing) := by
  have hp : p = 0 ∨ maxPallet < p := hp
  rw [exec, execRemoveRecord, request_ready hr, if_pos hp]

theorem exec_removeRecord_unknown (hr : s.ready = true) (h1 : 1 ≤ p) (h2 : p ≤ 999999999999)
    (hn : s.findRecord p = none) : exec (.removeRecord p) s = .next (s.answer .removeRecord .state .nothing) := by
  have hp : ¬ (p = 0 ∨ maxPallet < p) := by unfold maxPallet; omega
  rw [exec, execRemoveRecord, request_ready hr, if_neg hp, State.found_none hn]

theorem exec_removeRecord_found (hr : s.ready = true) (h1 : 1 ≤ p) (h2 : p ≤ 999999999999)
    (hi : s.findRecord p = some i) (hq : s.slotAt i = .record q) :
    exec (.removeRecord p) s = .next ((s.takeBack i q).answer .removeRecord .ok .nothing) := by
  have hp : ¬ (p = 0 ∨ maxPallet < p) := by unfold maxPallet; omega
  rw [exec, execRemoveRecord, request_ready hr, if_neg hp, State.found_record hi hq]

end

/-- Settles O42: the two commands by the record they find, and the ways a record is freed. -/
theorem palletsAreTakenBack : Obligations.PalletsAreTakenBack := by
  refine ⟨fun r s hl hn => taken_onRecord_none hl hn, fun r i q s hl hi hq => taken_onRecord hl hi hq,
    fun p i q s => exec_removeRecord_found, fun p s => exec_removeRecord_unknown,
    fun p s => exec_removeRecord_outOfRange, fun i q s => State.takeBack_silent,
    fun i q s => State.takeBack_selfCancel, fun i q b n s h ht hn ho => ?_, fun i q b n s h ht hn => ?_⟩
  · rw [State.takeBack_cancel h hn]
    exact State.freeWithCancel_placed ht hn ho
  · rw [State.takeBack_cancel h hn]
    exact State.freeWithCancel_refused ht hn

end Sys2Proof.Machine
end

section
/-! PROOFS. The form of the ask table (R58, R59, R64, R68) is kept by each operation on its records. -/

namespace Sys2Proof.Machine

/-! ## Records within their bounds -/

section
variable {r : PalletRecord} (h : RecordFits r)
include h

theorem RecordFits.search_none (hs : r.state ≠ .seeking) : r.search = none := by
  cases hq : r.search with
  | none => rfl
  | some q => exact absurd (h.searching q hq).1 hs

theorem RecordFits.owedAsk_none (hs : r.state ≠ .asked) : r.owedAsk = none := by
  cases ho : r.owedAsk with
  | none => rfl
  | some o => exact absurd (h.owing (by simp [ho])) hs

theorem RecordFits.withIndication (x : Option Indication) (b : Bool) :
    RecordFits { r with indication := x, shown := b } := ⟨h.excluded, h.asks, h.owing, h.searching⟩

theorem RecordFits.withRetryAt (x : Option Nat) : RecordFits { r with retryAt := x } :=
  ⟨h.excluded, h.asks, h.owing, h.searching⟩

theorem RecordFits.withOwedRelease (x : Option OwedRelease) : RecordFits { r with owedRelease := x } :=
  ⟨h.excluded, h.asks, h.owing, h.searching⟩

theorem RecordFits.seekingAgain : RecordFits (seekingAgain r) := ⟨h.excluded, h.asks, nofun, nofun⟩

theorem RecordFits.withSearch {st : SearchStep} (n : Nat) (hs : r.state = .seeking) (ha : r.totalAsks < 8)
    (ht : st = .trailerStage → r.trailerAsks < 5) :
    RecordFits { r with search := some { step := st, token := n } } :=
  ⟨h.excluded, h.asks, h.owing, fun q hq => by cases hq; exact ⟨hs, ha, ht⟩⟩

theorem RecordFits.askedRecord (s : State) (n : Nat) (k : PlaceKind) (ha : r.totalAsks < 8)
    (ht : k = .trailer → r.trailerAsks < 5) : RecordFits (askedRecord s r n k) := by
  refine ⟨h.excluded, ⟨?_, ha⟩, fun _ => rfl, nofun⟩
  have := h.asks.1
  unfold Machine.askedRecord
  dsimp only
  split
  · exact ht ‹_›
  · exact this

theorem RecordFits.withOwedAsk (x : Option (Owed AskBody)) (hs : r.state = .asked) :
    RecordFits { r with owedAsk := x } := ⟨h.excluded, h.asks, fun _ => hs, h.searching⟩

theorem RecordFits.guided (s : State) (b : GrantBody) (hs : r.state ≠ .seeking) :
    RecordFits (guidedRecord s r b) :=
  ⟨h.excluded, h.asks, nofun, fun _ hq => absurd ((h.search_none hs).symm.trans hq) nofun⟩

end

theorem freshOrphan_fits (r : PalletRecord) : RecordFits (freshOrphan r) :=
  ⟨⟨List.nodup_nil, Nat.zero_le _⟩, ⟨Nat.zero_le _, Nat.zero_le _⟩, nofun, nofun⟩

theorem newRecord_fits (c : ConfigRecord) (r : PalletRead) : RecordFits (newRecord c r) :=
  ⟨⟨List.nodup_nil, Nat.zero_le _⟩, ⟨Nat.zero_le _, Nat.zero_le _⟩, nofun, nofun⟩

/-- A bay put on an exclusion list is put there once, and only where there is room. -/
theorem excludeBay_fits {l : List Nat} (h : l.Nodup ∧ l.length ≤ 4) (b : Nat) :
    (excludeBay l b).Nodup ∧ (excludeBay l b).length ≤ 4 := by
  unfold excludeBay exclusionCapacity
  split
  · exact h
  · rename_i hb
    split
    · refine ⟨?_, by simp; omega⟩
      rw [List.nodup_append]
      refine ⟨h.1, by simp, fun x hx y hy => ?_⟩
      rintro rfl
      exact hb (by simpa [List.mem_singleton.mp hy] using hx)
    · exact h

/-! ## A slot at work -/

/-- The table is in form, and no slot but one holds a record of a pallet: that slot is free to take one. -/
structure TableOpenAt (d : Dsu) (i p : Nat) : Prop where
  fits : AskTableFits d
  apart : ∀ j r, j ≠ i → d.slots[j]? = some (.record r) → r.pallet ≠ p

section
variable {s : State} {i p : Nat}

theorem AskTableFits.record (h : AskTableFits s.dsu) {q : PalletRecord} (hq : s.slotAt i = .record q) :
    RecordFits q := h.records q ((s.mem_slots_record q).mpr ⟨i, hq⟩)

/-- The slot of a record is the only one with its pallet. -/
theorem AskTableFits.openAt_record (h : AskTableFits s.dsu) {q : PalletRecord} (hq : s.slotAt i = .record q) :
    TableOpenAt s.dsu i q.pallet :=
  ⟨h, fun j r hj hr hp => hj (h.once j i r q hr ((s.slotAt_record i q).mp hq) hp)⟩

/-- Any slot is open to a pallet that has no record. -/
theorem AskTableFits.openAt_new (h : AskTableFits s.dsu) (i : Nat) (hn : s.findRecord p = none) :
    TableOpenAt s.dsu i p :=
  ⟨h, fun j r _ hr => s.findRecord_none p j r hn ((s.slotAt_record j r).mpr hr)⟩

theorem AskTableFits.takeSeq (h : AskTableFits s.dsu) (b : Borrower) : AskTableFits (s.takeSeq b).dsu :=
  ⟨h.once, h.records, show (s.dsu.seq + 1) % 256 ≤ 255 by omega⟩

theorem TableOpenAt.setSlot (h : TableOpenAt s.dsu i p) {v : Slot}
    (hv : ∀ q, v = .record q → RecordFits q ∧ q.pallet = p) : TableOpenAt (s.setSlot i v).dsu i p where
  fits := h.fits.setSlot s i v fun q hq => ⟨(hv q hq).1, fun j r hj hr =>
    (hv q hq).2 ▸ h.apart j r hj ((s.slotAt_record j r).mp hr)⟩
  apart j r hj hr := by
    rw [← State.slotAt_record, State.slotAt_setSlot, if_neg fun c => hj c.1.symm] at hr
    exact h.apart j r hj ((s.slotAt_record j r).mp hr)

theorem TableOpenAt.setRecord {r : PalletRecord} (h : TableOpenAt s.dsu i r.pallet) (hr : RecordFits r) :
    TableOpenAt (s.setRecord i r).dsu i r.pallet := h.setSlot fun q hq => by cases hq; exact ⟨hr, rfl⟩

theorem slotFreed_ne_record (q r : PalletRecord) : slotFreed q ≠ .record r := by
  unfold slotFreed
  split <;> nofun

theorem AskTableFits.clearSlot (h : AskTableFits s.dsu) {v : Slot} (hv : ∀ q, v ≠ .record q) :
    AskTableFits (s.setSlot i v).dsu := h.setSlot s i v fun q hq => absurd hq (hv q)

theorem AskTableFits.freeRecord (h : AskTableFits s.dsu) (q : PalletRecord) :
    AskTableFits (s.freeRecord i q).dsu := h.clearSlot (slotFreed_ne_record q)

end

/-! ## Operations on a record -/

section
variable {s : State} {i : Nat} {r : PalletRecord} (h : TableOpenAt s.dsu i r.pallet) (hr : RecordFits r)
include h hr

theorem TableOpenAt.showRecord (n : IndicationName) : TableOpenAt (s.showRecord i r n).dsu i r.pallet :=
  h.setRecord (r := { r with indication := some (indicationOf s.own n), shown := false }) (hr.withIndication _ _)

theorem TableOpenAt.showAgain : TableOpenAt (s.showAgain i r).dsu i r.pallet := by
  unfold State.showAgain
  split <;> exact h.setRecord (r := { r with shown := false }) (hr.withIndication r.indication false)

theorem TableOpenAt.toException (ho : r.owedAsk = none) : TableOpenAt (s.toException i r).dsu i r.pallet :=
  have base : RecordFits { r with
      state := .exception, answerBy := none, guardBy := none, retryAt := none, search := none } :=
    ⟨hr.excluded, hr.asks, fun hs => by simp [ho] at hs, nofun⟩
  TableOpenAt.showRecord (s := s.raiseNotice .exception) (r := { r with
    state := .exception, answerBy := none, guardBy := none, retryAt := none, search := none }) h base .except

theorem TableOpenAt.searchAt {st : SearchStep} (hs : r.state = .seeking) (ha : r.totalAsks < 8)
    (ht : st = .trailerStage → r.trailerAsks < 5) : TableOpenAt (s.searchAt i r (some st)).dsu i r.pallet :=
  TableOpenAt.setRecord (s := s.bump) h (hr.withSearch s.serial hs ha ht)

/-- A search begins only with asks left, and in the trailer stage only with one left for a trailer. -/
theorem TableOpenAt.beginSearch (hs : r.state = .seeking) : TableOpenAt (s.beginSearch i r).dsu i r.pallet := by
  by_cases ha : r.totalAsks < 8
  · rw [State.beginSearch_first ha]
    refine h.searchAt hr hs ha fun hst => ?_
    unfold firstStep at hst
    split at hst
    · rename_i hm
      exact hm.2.1
    · cases hst
  · rw [State.beginSearch_exhausted (by omega)]
    exact h.toException hr (hr.owedAsk_none (by simp [hs]))

theorem TableOpenAt.askUnanswered : TableOpenAt (s.askUnanswered i r).dsu i r.pallet :=
  TableOpenAt.beginSearch (r := seekingAgain r) h hr.seekingAgain rfl

/-- Where a step of the search yields nothing the next one follows, never the trailer stage; after the last the record
is an exception. -/
theorem TableOpenAt.searchOn (hs : r.state = .seeking) (ha : r.totalAsks < 8) (st : SearchStep) :
    TableOpenAt (s.searchAt i r (stepAfter s r st)).dsu i r.pallet := by
  have hne : stepAfter s r st ≠ some .trailerStage := by
    cases st <;> simp only [stepAfter, stepFrom] <;> (try split) <;> nofun
  cases hn : stepAfter s r st with
  | none => exact h.toException hr (hr.owedAsk_none (by simp [hs]))
  | some st' => exact h.searchAt hr hs ha fun e => absurd (e ▸ hn) hne

theorem TableOpenAt.makeAsk (n : Nat) (k : PlaceKind) (ha : r.totalAsks < 8)
    (ht : k = .trailer → r.trailerAsks < 5) : TableOpenAt (s.makeAsk i r n k).dsu i r.pallet := by
  have hseq : TableOpenAt (s.bump.takeSeq .dsu).dsu i r.pallet :=
    ⟨AskTableFits.takeSeq (s := s.bump) h.fits .dsu, h.apart⟩
  have asked : RecordFits (askedRecord s r n k) := hr.askedRecord s n k ha ht
  unfold State.makeAsk
  cases s.offerResult
  · exact TableOpenAt.setRecord (r := askedRecord s r n k) hseq asked
  · exact TableOpenAt.setRecord
      (r := { askedRecord s r n k with owedAsk := some { built := s.serial, item := askOf s r n k } }) hseq
      (asked.withOwedAsk _ rfl)
  · exact TableOpenAt.askUnanswered (r := askedRecord s r n k) hseq asked

theorem TableOpenAt.waitAndSearch (hs : r.state = .seeking) :
    TableOpenAt (s.waitAndSearch i r).dsu i r.pallet :=
  TableOpenAt.beginSearch (r := { r with indication := some (indicationOf s.own .wait), shown := false })
    (h.showRecord hr .wait) (hr.withIndication _ _) hs

theorem TableOpenAt.reRead : TableOpenAt (s.reRead i r).dsu i r.pallet := by
  unfold State.reRead
  split
  · exact TableOpenAt.waitAndSearch (r := freshOrphan r) h (freshOrphan_fits r) rfl
  all_goals exact h.showAgain hr

theorem TableOpenAt.askRefused (n : Nat) (x : RefuseReason) :
    TableOpenAt (s.askRefused i r n x).dsu i r.pallet := by
  unfold State.askRefused
  split
  · split
    · have base : RecordFits { seekingAgain r with excluded := excludeBay r.excluded n } :=
        ⟨excludeBay_fits hr.excluded n, hr.asks, nofun, nofun⟩
      exact TableOpenAt.beginSearch (r := { seekingAgain r with excluded := excludeBay r.excluded n }) h base rfl
    · exact TableOpenAt.toException (r := seekingAgain r) h hr.seekingAgain rfl
  · exact TableOpenAt.setRecord (r := { seekingAgain r with retryAt := some (s.now + 2) }) h
      (hr.seekingAgain.withRetryAt _)

theorem TableOpenAt.orphanRecord (hs : r.state = .guided) :
    TableOpenAt (s.orphanRecord i r).dsu i r.pallet := by
  have base : RecordFits { r with state := .orphan, guardBy := none } :=
    ⟨hr.excluded, hr.asks, fun ho => by simp [hr.owedAsk_none (by simp [hs])] at ho,
      fun q hq => absurd ((hr.search_none (by simp [hs])).symm.trans hq) nofun⟩
  exact TableOpenAt.setRecord (r := { r with state := .orphan, guardBy := none }) h base

end

/-! ## Frames owed, and records freed -/

section
variable {s : State} (h : AskTableFits s.dsu)
include h

theorem AskTableFits.dsuOwe (o : OwedRelease) : AskTableFits (s.dsuOwe o).dsu := by
  obtain ⟨i, r, hr, -, e⟩ | ⟨i, -, e⟩ | e := s.dsuOwe_cases o <;> rw [e]
  · have hopen : TableOpenAt s.dsu i r.pallet := h.openAt_record hr
    exact (TableOpenAt.setRecord (r := { r with owedRelease := some o }) hopen
      ((h.record hr).withOwedRelease _)).fits
  · exact h.clearSlot (v := .lone o) fun _ hq => nomatch hq
  · exact h

theorem AskTableFits.dsuOffer (n : Nat) (b : ReleaseBody) : AskTableFits (s.dsuOffer n b).dsu := by
  obtain ⟨-, e⟩ | ⟨-, e⟩ | ⟨-, e⟩ := s.dsuOffer_cases n b <;> rw [e]
  · exact h
  · exact AskTableFits.dsuOwe (s := s.bump) h _
  · exact h

theorem AskTableFits.freeWithCancel (i : Nat) (r : PalletRecord) : AskTableFits (s.freeWithCancel i r).dsu :=
  (h.freeRecord r).dsuOffer _ _

theorem AskTableFits.takeBack (i : Nat) (r : PalletRecord) : AskTableFits (s.takeBack i r).dsu := by
  unfold State.takeBack
  cases r.state <;> dsimp only
  case asked =>
    split
    · exact h.freeRecord r
    · exact h.freeWithCancel i r
  case guided =>
    split
    · exact h.freeWithCancel i r
    · exact h.freeRecord r
  all_goals exact h.freeRecord r

theorem AskTableFits.recordPlaced (i : Nat) (r : PalletRecord) (n : Nat) (x : Place) :
    AskTableFits (s.recordPlaced i r n x).dsu := by
  unfold State.recordPlaced
  cases r.state <;> dsimp only
  case guided =>
    repeat' split
    · exact h.freeRecord r
    · exact h.freeWithCancel i r
    · exact h.freeRecord r
  all_goals exact h.freeRecord r

theorem AskTableFits.lateGrant (n : Nat) (b : GrantBody) : AskTableFits (s.lateGrant n b).dsu := by
  by_cases hb : borrowerOf s b.seq = some .mlu
  · rw [State.lateGrant_borrowed hb]
    exact h
  · obtain hn | ⟨i, q, hi, hq⟩ := s.findRecord_cases b.pallet
    · rw [State.lateGrant_unrecorded hb hn]
      exact h.dsuOffer _ _
    · rw [State.lateGrant_recorded hb hi hq]
      split
      · exact h
      · exact h.dsuOffer _ _

theorem AskTableFits.newPallet (i : Nat) {r : PalletRead} (hn : s.findRecord r.pallet = none) :
    AskTableFits (s.newPallet i r).dsu := by
  have hopen : TableOpenAt (s.raiseIf (scaleFaulty r.scale) .scaleFault).dsu i r.pallet := by
    rw [State.raiseIf_eq]
    exact h.openAt_new i hn
  have hr := newRecord_fits s.scu.config r
  unfold State.newPallet
  dsimp only
  split
  · exact (TableOpenAt.toException (r := newRecord s.scu.config r) hopen hr rfl).fits
  · exact (TableOpenAt.waitAndSearch (r := newRecord s.scu.config r) hopen hr rfl).fits

/-- Only GUIDED records are orphaned by their bay's restart or aborted CLOSE. -/
theorem AskTableFits.orphanWhere {q : PalletRecord → Bool} (hq : ∀ r, q r = true → r.state = .guided) :
    AskTableFits (s.orphanWhere q).dsu := by
  suffices ∀ (l : List Nat) (u : State), AskTableFits u.dsu → AskTableFits (l.foldl (orphanStep q) u).dsu from
    this _ s h
  intro l
  induction l with
  | nil => exact fun _ hu => hu
  | cons i l ih =>
    intro u hu
    refine ih _ ?_
    unfold orphanStep
    split
    · rename_i r hr
      have hr := State.recordAt_eq_some.mp hr
      split
      · exact ((hu.openAt_record hr).orphanRecord (hu.record hr) (hq r ‹_›)).fits
      · exact hu
    · exact hu

end

end Sys2Proof.Machine
end

section
/-! PROOFS. The form of the ask table is kept by every step (O21): by the DSU's own commands, and by the events in which
frames leave the queue. -/

namespace Sys2Proof.Machine

/-! ## Frames that leave the queue -/

@[simp] theorem allBut_dsu_fbi : allBut .dsu .fbi = true := by decide
@[simp] theorem allBut_dsu_lpu : allBut .dsu .lpu = true := by decide
@[simp] theorem allBut_dsu_mlu : allBut .dsu .mlu = true := by decide

theorem Only.dsu_eq {s t : State} (h : Only (allBut .dsu) s t) : t.dsu = s.dsu := h .dsu rfl

/-- An owed frame placed is owed no longer; no record is made, and none begins to owe. -/
theorem slotWithoutOwed_record {f : OwnedFrame} {v : Slot} {r : PalletRecord}
    (h : slotWithoutOwed f v = .record r) : ∃ q, v = .record q ∧ r.pallet = q.pallet ∧
      (RecordFits q → RecordFits r) := by
  cases v with
  | free => cases h
  | lone o =>
    rw [slotWithoutOwed] at h
    split at h <;> exact nomatch h
  | record q =>
    cases h
    refine ⟨q, rfl, rfl, fun hq => ⟨hq.excluded, hq.asks, fun ho => hq.owing ?_, hq.searching⟩⟩
    obtain ⟨x, hx⟩ := Option.isSome_iff_exists.mp ho
    exact Option.isSome_iff_exists.mpr ⟨x, (Option.filter_eq_some_iff.mp hx).1⟩

section
variable {s : State} (h : AskTableFits s.dsu)
include h

theorem AskTableFits.noLongerOwed (f : OwnedFrame) : AskTableFits (s.noLongerOwed f).dsu := by
  have record (i : Nat) (r : PalletRecord)
      (hr : (s.dsu.slots.map (slotWithoutOwed f))[i]? = some (.record r)) :
      ∃ q, s.dsu.slots[i]? = some (.record q) ∧ r.pallet = q.pallet ∧ (RecordFits q → RecordFits r) := by
    rw [Vector.getElem?_map, Option.map_eq_some_iff] at hr
    obtain ⟨v, hv, hr⟩ := hr
    obtain ⟨q, rfl, hq⟩ := slotWithoutOwed_record hr
    exact ⟨q, hv, hq⟩
  unfold State.noLongerOwed
  cases f.owner with
  | lpu => exact h
  | mlu => exact h
  | dsu =>
    refine ⟨fun i j r q hr hq hp => ?_, fun r hr => ?_, h.sequence⟩
    · obtain ⟨r', hr', er, -⟩ := record i r hr
      obtain ⟨q', hq', eq, -⟩ := record j q hq
      exact h.once i j r' q' hr' hq' (er ▸ eq ▸ hp)
    · obtain ⟨i, hi⟩ := List.mem_iff_getElem?.mp hr
      rw [Vector.getElem?_toList] at hi
      obtain ⟨q, hq, -, hfits⟩ := record i r hi
      exact hfits (h.record ((s.slotAt_record i q).mpr hq))

theorem AskTableFits.serveFrame (f : OwnedFrame) : AskTableFits (s.serveFrame f).dsu := by
  have hnote (u : State) (b : Body) : (u.noteAsk b).dsu = u.dsu := by cases b <;> rfl
  rw [State.serveFrame, State.setFbi_dsu, hnote]
  exact h.noLongerOwed f

omit h in
theorem AskTableFits.serveOwed (n : Nat) {s : State} (h : AskTableFits s.dsu) :
    AskTableFits (State.serveOwed n s).dsu := by
  induction n generalizing s with
  | zero => exact h
  | succ n ih =>
    unfold State.serveOwed
    split
    · split
      · exact ih (h.serveFrame _)
      · exact h
    · exact h

theorem AskTableFits.spaceEvent : AskTableFits s.spaceEvent.dsu := by
  have hplace : s.placeOwedAdvert.dsu = s.dsu := Only.dsu_eq (by simp)
  unfold State.spaceEvent
  repeat' split
  · exact h
  · exact h
  · exact AskTableFits.serveOwed _ (hplace ▸ h)

/-- What is done to the record of a pallet, which stands alone in the table and within its bounds. -/
theorem AskTableFits.onRecord {p : Nat} {f : Nat → PalletRecord → State}
    (hf : ∀ i r, TableOpenAt s.dsu i r.pallet → RecordFits r → AskTableFits (f i r).dsu) :
    AskTableFits (s.onRecord p f).dsu := by
  obtain hn | ⟨i, q, hi, hq⟩ := s.findRecord_cases p
  · rw [State.onRecord_none f hn]
    exact h
  · rw [State.onRecord_found f hi hq]
    exact hf i q (h.openAt_record hq) (h.record hq)

theorem AskTableFits.askFailed (o : Owner) (a : AskBody) : AskTableFits (s.askFailed o a).dsu := by
  cases o with
  | lpu => exact h
  | mlu =>
    have hmlu : (s.mluAskFailed a).dsu = s.dsu := Only.dsu_eq (by
      unfold State.mluAskFailed
      split <;> simp)
    exact hmlu ▸ h
  | dsu =>
    refine h.onRecord fun i r hopen hr => ?_
    split
    · exact (hopen.askUnanswered hr).fits
    · exact h

theorem AskTableFits.grantFailed (o : Owner) (g : GrantBody) : AskTableFits (s.grantFailed o g).dsu := by
  have hg : (s.grantFailed o g).dsu = s.dsu := Only.dsu_eq (by cases o <;> simp [State.grantFailed])
  exact hg ▸ h

theorem AskTableFits.oweAgain (f : OwnedFrame) : AskTableFits (s.oweAgain f).dsu := by
  unfold State.oweAgain
  split
  · split
    · have hclose : (s.lpuOweClose f).dsu = s.dsu := Only.dsu_eq (by simp)
      exact hclose ▸ h
    · have howe : (s.bump.lpuOwe { f with built := s.serial }).dsu = s.dsu := Only.dsu_eq (by simp)
      exact howe ▸ h
  · have howe : (s.bump.mluOwe { f with built := s.serial }).dsu = s.dsu := Only.dsu_eq (by simp)
    exact howe ▸ h
  · split
    · exact AskTableFits.dsuOwe (s := s.bump) h _
    · exact h

theorem AskTableFits.tellFailed (o : Outgoing) : AskTableFits (s.tellFailed o).dsu := by
  cases o with
  | advert => exact h
  | owned f =>
    unfold State.tellFailed State.toldFailed
    dsimp only
    split
    · exact h.askFailed _ _
    · exact h.grantFailed _ _
    · exact h.oweAgain f
    · exact h.oweAgain f
    · exact h.oweAgain f
    · exact h
    · exact h

theorem AskTableFits.tellMuted (o : Outgoing) : AskTableFits (s.tellMuted o).dsu := by
  cases o with
  | advert => exact h
  | owned f =>
    unfold State.tellMuted State.toldMuted
    dsimp only
    split
    · exact h.askFailed _ _
    · exact h.grantFailed _ _
    all_goals exact h

theorem AskTableFits.setMute : AskTableFits s.setMute.dsu := by
  suffices ∀ (l : List Outgoing) (u : State), AskTableFits u.dsu → AskTableFits (l.foldl State.tellMuted u).dsu from
    this _ _ h
  intro l
  induction l with
  | nil => exact fun _ hu => hu
  | cons o l ih => exact fun u hu => ih _ (hu.tellMuted o)

theorem AskTableFits.takeFrame (f : Frame) : AskTableFits (s.takeFrame f).dsu := by
  have hseq : (s.compareSequence f).dsu = s.dsu := Only.dsu_eq (by simp)
  unfold State.takeFrame State.bayClash
  split
  · split
    · exact h
    · exact h.setMute
  · exact hseq ▸ h

end

/-! ## The commands -/

section
variable {s t : State} {f : State → State} (h : AskTableFits s.dsu)
include h

theorem AskTableFits.afterEvent (hf : AskTableFits (f s).dsu) (he : event s f = .next t) : AskTableFits t.dsu := by
  cases he
  split
  · exact h
  · exact hf

theorem AskTableFits.afterRequest (hf : AskTableFits (f s).dsu) (he : request s f = .next t) : AskTableFits t.dsu := by
  cases he
  split
  · exact h
  · exact hf

theorem AskTableFits.afterTaken {c : Instr} (hf : ∀ u : State, AskTableFits u.dsu → AskTableFits (f u).dsu)
    (he : taken c s f = .next t) : AskTableFits t.dsu := by
  cases he
  split
  · exact h
  · exact hf (s.drop c) h

/-- A command for the record of a pallet. -/
theorem AskTableFits.afterRecord {c : Instr} {p : Nat} {g : State → Nat → PalletRecord → State}
    (hg : ∀ (u : State) i r, AskTableFits u.dsu → TableOpenAt u.dsu i r.pallet → RecordFits r →
      AskTableFits (g u i r).dsu)
    (he : taken c s (fun u => u.onRecord p (g u)) = .next t) : AskTableFits t.dsu :=
  h.afterTaken (fun u hu => hu.onRecord fun i r => hg u i r hu) he

end

/-- An event of the resets empties the ask table or, where it takes no reset, leaves the DSU. -/
theorem exec_reset_dsu {c : Instr} {s t : State} (hc : takesReset c = true) (he : exec c s = .next t) :
    t.dsu = resetDsu ∨ t.dsu = s.dsu := by
  have reset (u : State) : u.floorReset.dsu = resetDsu := u.floorReset_asReset.dsu
  cases c <;> simp only [takesReset, Bool.false_eq_true] at hc <;> cases he
  case powerOnReset => exact .inl rfl
  case resetLineReleased =>
    split
    · exact .inl (reset _)
    · exact .inr rfl
  case floorResetTaken =>
    split
    · exact .inr rfl
    · exact .inl (reset s)
  case serviceAnswerSent =>
    split
    · exact .inr rfl
    · dsimp only
      split
      · exact .inr rfl
      · split
        · exact .inl (reset s)
        · exact .inr rfl

/-- The record that waits on a request is SEEKING, with that search begun within its bounds. -/
theorem waitsOn_iff {q : PalletRecord} {n : Nat} {steps : List SearchStep} : waitsOn q n steps = true ↔
    q.state = .seeking ∧ ∃ st ∈ steps, q.search = some { step := st, token := n } := by
  unfold waitsOn
  cases hq : q.search with
  | none => simp
  | some x =>
    obtain ⟨st, m⟩ := x
    simp only [Bool.and_eq_true, decide_eq_true_eq, List.contains_iff_mem, Option.some.injEq, Search.mk.injEq]
    constructor
    · rintro ⟨⟨hs, hm⟩, hst⟩
      exact ⟨hs, st, hst, rfl, hm⟩
    · rintro ⟨hs, _, hst, rfl, hm⟩
      exact ⟨⟨hs, hm⟩, hst⟩

theorem AskTableFits.exec_dsuDoorReadOut {s t : State} (h : AskTableFits s.dsu) (r : PalletRead)
    (he : exec (.dsuDoorReadOut r) s = .next t) : AskTableFits t.dsu := by
  rw [Machine.exec, execDsuDoorReadOut] at he
  refine h.afterTaken (fun u hu => ?_) he
  obtain hn | ⟨i, q, hi, hq⟩ := u.findRecord_cases r.pallet
  · rw [State.found_none hn]
    dsimp only
    split
    · exact hu
    · exact hu.newPallet _ hn
  · rw [State.found_record hi hq]
    exact ((hu.openAt_record hq).reRead (hu.record hq)).fits

theorem AskTableFits.exec_dsuGrant {s t : State} (h : AskTableFits s.dsu) (n : Nat) (b : GrantBody)
    (he : exec (.dsuGrant n b) s = .next t) : AskTableFits t.dsu := by
  rw [Machine.exec, execDsuGrant] at he
  refine h.afterTaken (fun u hu => ?_) he
  obtain hn | ⟨i, q, hi, hq⟩ := u.findRecord_cases b.pallet
  · rw [State.found_none hn]
    exact hu.lateGrant n b
  · rw [State.found_record hi hq]
    dsimp only
    split
    · rename_i hm
      have hs : q.state ≠ .seeking := by
        simp only [grantMatches, liveAsk, Bool.and_eq_true, decide_eq_true_eq] at hm
        simp [hm.1.1.1]
      have hopen : TableOpenAt u.dsu i q.pallet := hu.openAt_record hq
      exact (TableOpenAt.showRecord (r := guidedRecord u q b) hopen ((hu.record hq).guided u b hs) _).fits
    · exact hu.lateGrant n b

theorem AskTableFits.exec_selfPutAnswer {s t : State} (h : AskTableFits s.dsu) (p n : Nat) (g : Option SelfPutGiven)
    (he : exec (.selfPutAnswer p n g) s = .next t) : AskTableFits t.dsu := by
  have back (u : State) : (u.returnSelfPut p g).dsu = u.dsu := Only.dsu_eq (by simp)
  rw [Machine.exec, execSelfPutAnswer] at he
  refine h.afterTaken (fun u hu => ?_) he
  obtain hn | ⟨i, q, hi, hq⟩ := u.findRecord_cases p
  · rw [State.found_none hn]
    exact back u ▸ hu
  · have hopen := hu.openAt_record hq
    have hr := hu.record hq
    rw [State.found_record hi hq]
    dsimp only
    split
    · rename_i hw
      obtain ⟨hs, st, -, hx⟩ := waitsOn_iff.mp hw
      rw [hx]
      cases g with
      | none => exact (hopen.searchOn hr hs (hr.searching _ hx).2.1 st).fits
      | some g =>
        have base : RecordFits (ownGuidedRecord u q g) :=
          ⟨hr.excluded, hr.asks, fun ho => by simp [ownGuidedRecord, hr.owedAsk_none (by simp [hs])] at ho, nofun⟩
        exact (TableOpenAt.showRecord (r := ownGuidedRecord u q g) hopen base _).fits
    · exact back u ▸ hu

/-- Each command of the DSU's own keeps the table in form, and so does each event in which frames leave the queue. -/
theorem AskTableFits.exec {c : Instr} {s t : State} (h : AskTableFits s.dsu) (he : exec c s = .next t) :
    AskTableFits t.dsu := by
  by_cases hw : writesDsu c = false
  · rwa [exec_leaves c s t he .dsu hw]
  by_cases hc : takesReset c = true
  · obtain e | e := exec_reset_dsu hc he <;> rw [e]
    · exact askTableFits_resetDsu
    · exact h
  cases c with
  | dsuDoorReadOut r => exact h.exec_dsuDoorReadOut r he
  | dsuGrant n b => exact h.exec_dsuGrant n b he
  | selfPutAnswer p n g => exact h.exec_selfPutAnswer p n g he
  | dsuDoorReadInto r =>
    rw [Machine.exec, execDsuDoorReadInto] at he
    exact h.afterRecord (fun u i q hu _ _ => hu.takeBack i q) he
  | trailerCandidatesAnswer p n found =>
    rw [Machine.exec, execTrailerCandidatesAnswer] at he
    refine h.afterRecord (fun u i r hu hopen hr => ?_) he
    split
    · rename_i hwait
      obtain ⟨hs, st, hst, hx⟩ := waitsOn_iff.mp hwait
      obtain ⟨-, ha, ht⟩ := hr.searching _ hx
      split
      · exact (hopen.makeAsk hr _ _ ha fun _ => ht (List.mem_singleton.mp hst)).fits
      · exact (hopen.searchOn hr hs ha _).fits
    · exact hu
  | laneCandidatesAnswer p n found =>
    rw [Machine.exec, execLaneCandidatesAnswer] at he
    refine h.afterRecord (fun u i r hu hopen hr => ?_) he
    split
    · rename_i hwait
      obtain ⟨hs, st, -, hx⟩ := waitsOn_iff.mp hwait
      have ha := (hr.searching _ hx).2.1
      rw [hx]
      dsimp only
      split
      · exact (hopen.makeAsk hr _ .lane ha nofun).fits
      · exact (hopen.searchOn hr hs ha _).fits
    · exact hu
  | answerDeadlineExpiry p =>
    rw [Machine.exec, execAnswerDeadlineExpiry] at he
    refine h.afterRecord (fun u i r hu hopen hr => ?_) he
    split
    · exact (hopen.askUnanswered hr).fits
    · exact hu
  | guardDeadlineExpiry p =>
    rw [Machine.exec, execGuardDeadlineExpiry] at he
    refine h.afterRecord (fun u i r hu hopen hr => ?_) he
    split
    · exact (hopen.orphanRecord hr (And.left ‹_›)).fits
    · exact hu
  | retryAfterExpiry p =>
    rw [Machine.exec, execRetryAfterExpiry] at he
    refine h.afterRecord (fun u i r hu hopen hr => ?_) he
    split
    · rename_i hs
      exact (TableOpenAt.beginSearch (r := { r with retryAt := none }) hopen (hr.withRetryAt none) hs.1).fits
    · exact hu
  | dsuRefuse n b =>
    rw [Machine.exec, execDsuRefuse] at he
    refine h.afterRecord (fun u i r hu hopen hr => ?_) he
    split
    · exact (hopen.askRefused hr _ _).fits
    · exact hu
  | dsuRelease n b =>
    rw [Machine.exec, execDsuRelease] at he
    refine h.afterRecord (fun u i r hu hopen hr => ?_) he
    repeat' split
    · exact hu
    · rename_i hg
      simp only [releasesGuided, Bool.and_eq_true, decide_eq_true_eq] at hg
      exact (hopen.orphanRecord hr hg.1.1).fits
    · exact (hopen.askUnanswered hr).fits
    · exact hu
  | dsuPlaced n b =>
    rw [Machine.exec, execDsuPlaced] at he
    exact h.afterRecord (fun u i q hu _ _ => hu.recordPlaced i q n b.place) he
  | placedNote p n x =>
    rw [Machine.exec, execPlacedNote] at he
    exact h.afterRecord (fun u i q hu _ _ => hu.recordPlaced i q u.own x) he
  | dsuRestartAdvert n =>
    rw [Machine.exec, execDsuRestartAdvert] at he
    refine h.afterTaken (fun u hu => hu.orphanWhere fun r hr => ?_) he
    simp only [Bool.and_eq_true, decide_eq_true_eq] at hr
    exact hr.1
  | dsuClose n b =>
    rw [Machine.exec, execDsuClose] at he
    refine h.afterTaken (fun u hu => ?_) he
    split
    · refine hu.orphanWhere fun r hr => ?_
      simp only [Bool.and_eq_true, decide_eq_true_eq] at hr
      exact hr.1.1
    · exact hu
  | selfPutRelease p x =>
    rw [Machine.exec, execSelfPutRelease] at he
    refine h.afterRecord (fun u i r hu hopen hr => ?_) he
    split
    · exact (hopen.orphanRecord hr (And.left ‹_›)).fits
    · exact hu
  | askSequenceRequest k p n =>
    rw [Machine.exec, execAskSequenceRequest] at he
    refine h.afterTaken (fun u hu => ?_) he
    exact hu.takeSeq .mlu
  | shownReport p x =>
    rw [Machine.exec, execShownReport] at he
    refine h.afterRecord (fun u i r hu hopen hr => ?_) he
    repeat' split
    · exact hu.freeRecord r
    · exact (TableOpenAt.setRecord (r := { r with shown := true }) hopen (hr.withIndication r.indication true)).fits
    · exact hu
  | droppedReport p x =>
    rw [Machine.exec, execDroppedReport] at he
    refine h.afterRecord (fun u i r hu hopen hr => ?_) he
    split
    · exact (TableOpenAt.setRecord (r := { r with shown := false }) hopen (hr.withIndication r.indication false)).fits
    · exact hu
  | removeRecord p =>
    rw [Machine.exec, execRemoveRecord] at he
    refine h.afterRequest ?_ he
    repeat' split
    · exact h
    · exact h
    · exact h.takeBack _ _
  | frameSent =>
    rw [Machine.exec, execFrameSent] at he
    refine h.afterEvent ?_ he
    split
    · refine AskTableFits.spaceEvent ?_
      exact h
    · exact h
  | collision =>
    rw [Machine.exec, execCollision] at he
    refine h.afterEvent ?_ he
    split
    · dsimp only
      split
      · exact h
      · refine AskTableFits.spaceEvent (AskTableFits.tellFailed ?_ _)
        exact h
    · exact h
  | frameTaking =>
    rw [Machine.exec, execFrameTaking] at he
    refine h.afterEvent ?_ he
    split
    · refine AskTableFits.takeFrame ?_ _
      exact h
    · exact h
  | _ => first | exact absurd rfl hw | exact absurd rfl hc

/-- Settles O21: a step is a command of one of the two queues, or a millisecond of the lamps. -/
theorem askTableKeepsItsForm : Obligations.AskTableKeepsItsForm := by
  intro s t h hs
  unfold step at hs
  split at hs
  · refine AskTableFits.exec ?_ hs
    exact h
  · exact h.exec hs
  · cases hs
    unfold State.idle
    split <;> exact h

end Sys2Proof.Machine
end

section
/-! PROOFS. The deadlines of records, the reports of the head, and frames of the DSU told "send failed" (R72, R73, R77,
R78, R79, O44). -/

namespace Sys2Proof.Machine

section
variable {s : State} {p i b : Nat} {q : PalletRecord} {ind : Indication}

/-! ## Deadlines -/

section
variable (hl : s.resetLine = false) (hi : s.findRecord p = some i) (hq : s.slotAt i = .record q)
include hl hi hq

theorem exec_answerDeadline_due (hs : q.state = .asked) (hb : q.answerBy = some b) (hd : b ≤ s.dcu.beat) :
    exec (.answerDeadlineExpiry p) s = .next ((s.drop (.answerDeadlineExpiry p)).beginSearch i (seekingAgain q)) := by
  rw [exec, execAnswerDeadlineExpiry, taken_onRecord hl hi hq, if_pos ⟨hs, due_of_some hb hd⟩, State.askUnanswered]

theorem exec_answerDeadline_early (h : q.state ≠ .asked ∨ ∀ b, q.answerBy = some b → s.dcu.beat < b) :
    exec (.answerDeadlineExpiry p) s = .next (s.drop (.answerDeadlineExpiry p)) := by
  rw [exec, execAnswerDeadlineExpiry, taken_onRecord hl hi hq,
    if_neg fun ⟨hs, hd⟩ => h.elim (· hs) fun hb => Bool.eq_false_iff.mp (due_of_ahead hb) hd]

theorem exec_guardDeadline_due (hs : q.state = .guided) (hb : q.guardBy = some b) (hd : b ≤ s.dcu.beat) :
    exec (.guardDeadlineExpiry p) s = .next (((s.drop (.guardDeadlineExpiry p)).setSlot i
      (.record { q with state := .orphan, guardBy := none })).hand (.noticeRaise .orphan)) := by
  rw [exec, execGuardDeadlineExpiry, taken_onRecord hl hi hq, if_pos ⟨hs, due_of_some hb hd⟩]
  rfl

theorem exec_guardDeadline_early (h : q.state ≠ .guided ∨ ∀ b, q.guardBy = some b → s.dcu.beat < b) :
    exec (.guardDeadlineExpiry p) s = .next (s.drop (.guardDeadlineExpiry p)) := by
  rw [exec, execGuardDeadlineExpiry, taken_onRecord hl hi hq,
    if_neg fun ⟨hs, hd⟩ => h.elim (· hs) fun hb => Bool.eq_false_iff.mp (due_of_ahead hb) hd]

theorem exec_retryAfter_due (hs : q.state = .seeking) (hb : q.retryAt = some b) (hd : b ≤ s.dcu.beat) :
    exec (.retryAfterExpiry p) s =
      .next ((s.drop (.retryAfterExpiry p)).beginSearch i { q with retryAt := none }) := by
  rw [exec, execRetryAfterExpiry, taken_onRecord hl hi hq, if_pos ⟨hs, due_of_some hb hd⟩]

theorem exec_retryAfter_early (h : q.state ≠ .seeking ∨ ∀ b, q.retryAt = some b → s.dcu.beat < b) :
    exec (.retryAfterExpiry p) s = .next (s.drop (.retryAfterExpiry p)) := by
  rw [exec, execRetryAfterExpiry, taken_onRecord hl hi hq,
    if_neg fun ⟨hs, hd⟩ => h.elim (· hs) fun hb => Bool.eq_false_iff.mp (due_of_ahead hb) hd]

/-! ## Reports of the head -/

theorem exec_shownReport_current (h : q.indication = some ind) :
    exec (.shownReport p ind) s = .next ((s.drop (.shownReport p ind)).setSlot i
      (if q.state = .exception ∧ ind.name = .except then slotFreed q else .record { q with shown := true })) := by
  rw [exec, execShownReport, taken_onRecord hl hi hq, if_pos h]
  split <;> rfl

theorem exec_droppedReport_current (h : q.indication = some ind) :
    exec (.droppedReport p ind) s =
      .next ((s.drop (.droppedReport p ind)).setSlot i (.record { q with shown := false })) := by
  rw [exec, execDroppedReport, taken_onRecord hl hi hq, if_pos h]
  rfl

theorem exec_report_other (h : q.indication ≠ some ind) :
    exec (.shownReport p ind) s = .next (s.drop (.shownReport p ind)) ∧
      exec (.droppedReport p ind) s = .next (s.drop (.droppedReport p ind)) := by
  constructor
  · rw [exec, execShownReport, taken_onRecord hl hi hq, if_neg h]
  · rw [exec, execDroppedReport, taken_onRecord hl hi hq, if_neg h]

end

/-! ## "Send failed" -/

variable {f : OwnedFrame} {a : AskBody} {x : ReleaseBody}

theorem State.toldFailed_ask (ho : f.owner = .dsu) (hb : f.body = .ask a) : s.toldFailed f = s.dsuAskFailed a := by
  simp only [State.toldFailed, hb, State.askFailed, ho]

theorem State.toldFailed_release (ho : f.owner = .dsu) (hb : f.body = .release x) :
    s.toldFailed f = s.bump.dsuOwe { built := s.serial, target := f.target, body := x } := by
  simp only [State.toldFailed, hb, State.oweAgain, ho]

theorem liveAsk_iff {n k : Nat} :
    liveAsk q n k = true ↔ q.state = .asked ∧ q.target = some n ∧ q.seq = some k := by
  simp [liveAsk, and_assoc]

theorem State.dsuAskFailed_live (hi : s.findRecord a.pallet = some i) (hq : s.slotAt i = .record q)
    (h : liveAsk q a.target a.seq = true) : s.dsuAskFailed a = s.beginSearch i (seekingAgain q) := by
  rw [State.dsuAskFailed, State.onRecord_found _ hi hq, if_pos h, State.askUnanswered]

theorem State.dsuAskFailed_other (hi : s.findRecord a.pallet = some i) (hq : s.slotAt i = .record q)
    (h : ¬ liveAsk q a.target a.seq = true) : s.dsuAskFailed a = s := by
  rw [State.dsuAskFailed, State.onRecord_found _ hi hq, if_neg h]

end

/-- Settles O44: each deadline and report by the record it finds, each frame by where its pallet's record stands. -/
theorem recordDeadlinesAct : Obligations.RecordDeadlinesAct := by
  refine ⟨fun p ind s hl hn => ⟨?_, ?_, ?_, ?_, ?_⟩,
    fun p i q s hl hi hq => ⟨exec_answerDeadline_early hl hi hq, exec_guardDeadline_early hl hi hq,
      exec_retryAfter_early hl hi hq⟩,
    fun f a s ho hb hn => ?_, fun p i b q s => exec_answerDeadline_due, fun p i b q s => exec_guardDeadline_due,
    fun p i b q s => exec_retryAfter_due,
    fun p i ind q s hl hi hq h => ⟨exec_shownReport_current hl hi hq h, exec_droppedReport_current hl hi hq h⟩,
    fun p i ind q s => exec_report_other, fun k p b s hl => ?_,
    fun f a i q s ho hb hi hq => ⟨fun hs ht hn => ?_, fun h => ?_⟩,
    fun f x s ho hb => ?_⟩
  · rw [exec, execAnswerDeadlineExpiry, taken_onRecord_none hl hn]
  · rw [exec, execGuardDeadlineExpiry, taken_onRecord_none hl hn]
  · rw [exec, execRetryAfterExpiry, taken_onRecord_none hl hn]
  · rw [exec, execShownReport, taken_onRecord_none hl hn]
  · rw [exec, execDroppedReport, taken_onRecord_none hl hn]
  · rw [State.toldFailed_ask ho hb, State.dsuAskFailed, State.onRecord_none _ hn]
  · rw [exec, execAskSequenceRequest, taken_running hl]
    rfl
  · rw [State.toldFailed_ask ho hb, State.dsuAskFailed_live hi hq (liveAsk_iff.mpr ⟨hs, ht, hn⟩)]
    rfl
  · rw [State.toldFailed_ask ho hb, State.dsuAskFailed_other hi hq fun hlive => ?_]
    obtain ⟨hs, ht, hn⟩ := liveAsk_iff.mp hlive
    exact h.elim (· hs) fun h => h.elim (· ht) (· hn)
  · rw [State.toldFailed_release ho hb]
    obtain ⟨recorded, unrecorded⟩ := s.bump.dsuOwe_kept { built := s.serial, target := f.target, body := x }
    exact ⟨fun i q hi hq => ⟨fun h => (recorded i q hi hq).trans (if_pos h),
      fun h => (recorded i q hi hq).trans (if_neg h)⟩, unrecorded⟩

end Sys2Proof.Machine
end

section
/-! PROOFS. The answers to asks: GRANT, REFUSE and RELEASE (R69 to R74, O45). -/

namespace Sys2Proof.Machine

section
variable {s : State} {b i : Nat} {q : PalletRecord}

/-! ## GRANT (R69, R70) -/

section
variable {g : GrantBody}

theorem grantMatches_iff : grantMatches q b g = true ↔
    (q.state = .asked ∧ q.target = some b ∧ q.seq = some g.seq) ∧ q.askKind = some (placeKind g.place) := by
  rw [grantMatches, Bool.and_eq_true, liveAsk_iff, decide_eq_true_eq]

theorem alreadyReached_iff : alreadyReached q b g = true ↔ q.target = some b ∧
    (q.state = .asked ∧ q.askKind = some (placeKind g.place) ∨
      q.state = .guided ∧ q.place.map placeKind = some (placeKind g.place)) := by
  simp only [alreadyReached, Bool.and_eq_true, Bool.or_eq_true, decide_eq_true_eq]

theorem exec_dsuGrant_unrecorded (hl : s.resetLine = false) (hn : s.findRecord g.pallet = none) :
    exec (.dsuGrant b g) s = .next ((s.drop (.dsuGrant b g)).lateGrant b g) := by
  rw [exec, execDsuGrant, taken_running hl, State.found_none (s := s.drop _) hn]

section
variable (hl : s.resetLine = false) (hi : s.findRecord g.pallet = some i) (hq : s.slotAt i = .record q)
include hl hi hq

theorem exec_dsuGrant_matched (h : grantMatches q b g = true) :
    exec (.dsuGrant b g) s = .next
      ((s.drop (.dsuGrant b g)).showRecord i (guidedRecord s q g) (guideName g.place b)) := by
  rw [exec, execDsuGrant, taken_running hl, State.found_record (s := s.drop _) hi hq]
  exact congrArg _ (if_pos h)

theorem exec_dsuGrant_unmatched (h : ¬ grantMatches q b g = true) :
    exec (.dsuGrant b g) s = .next ((s.drop (.dsuGrant b g)).lateGrant b g) := by
  rw [exec, execDsuGrant, taken_running hl, State.found_record (s := s.drop _) hi hq]
  exact congrArg _ (if_neg h)

/-- A GRANT of a place that the record already reaches changes nothing. -/
theorem exec_dsuGrant_reached (h : ¬ grantMatches q b g = true) (hr : alreadyReached q b g = true) :
    exec (.dsuGrant b g) s = .next (s.drop (.dsuGrant b g)) := by
  rw [exec_dsuGrant_unmatched hl hi hq h]
  by_cases hb : borrowerOf s g.seq = some .mlu
  · rw [State.lateGrant_borrowed (s := s.drop _) hb]
  · rw [State.lateGrant_recorded (s := s.drop _) hb hi hq, if_pos hr]

end

/-- A GRANT that is late for the DSU: nothing is done for a sequence that the MLU borrowed, else the place is given
back by a LATE, as its offer goes. -/
theorem exec_dsuGrant_late
    (he : exec (.dsuGrant b g) s = .next ((s.drop (.dsuGrant b g)).lateGrant b g))
    (hlate : borrowerOf s g.seq ≠ some .mlu → (s.drop (.dsuGrant b g)).lateGrant b g =
      (s.drop (.dsuGrant b g)).dsuOffer b
        { pallet := g.pallet, asker := s.own, seq := g.seq, reason := .late }) :
    (borrowerOf s g.seq = some .mlu → exec (.dsuGrant b g) s = .next (s.drop (.dsuGrant b g))) ∧
    (borrowerOf s g.seq ≠ some .mlu → s.offerResult = .placed →
      exec (.dsuGrant b g) s = .next ((s.bump.drop (.dsuGrant b g)).placeFrame (.owned
        { owner := .dsu, built := s.serial, target := b, body := .release
            { pallet := g.pallet, asker := s.own, seq := g.seq, reason := .late } }))) ∧
    (borrowerOf s g.seq ≠ some .mlu → ∃ t, exec (.dsuGrant b g) s = .next t ∧
      (s.offerResult ≠ .placed → DsuReleaseRefused s (s.drop (.dsuGrant b g)) t b
        { pallet := g.pallet, asker := s.own, seq := g.seq, reason := .late })) := by
  refine ⟨fun hb => ?_, fun hb ho => ?_, fun hb => ⟨_, he, fun _ => ?_⟩⟩
  · rw [he, State.lateGrant_borrowed (s := s.drop _) hb]
  · rw [he, hlate hb, State.dsuOffer_placed (s := s.drop _) ho]
    rfl
  · rw [hlate hb]
    exact State.dsuOffer_refused rfl rfl

end

/-! ## REFUSE (R71) -/

theorem hardReason_iff (x : RefuseReason) : hardReason x = true ↔ x ≠ .busy ∧ x ≠ .held := by cases x <;> decide

theorem excludeBay_of_room {l : List Nat} (hb : b ∉ l) (hr : l.length < exclusionCapacity) :
    excludeBay l b = l ++ [b] := by
  rw [excludeBay, if_neg (by simpa using hb), if_pos hr]

theorem State.askRefused_soft {x : RefuseReason} (h : x = .busy ∨ x = .held) : s.askRefused i q b x =
    s.setSlot i (.record { seekingAgain q with retryAt := some (s.dcu.beat + 2) }) := by
  obtain rfl | rfl := h <;> rfl

section
variable {x : RefuseReason} (h : x ≠ .busy) (h' : x ≠ .held)
include h h'

theorem State.askRefused_room (hr : q.excluded.length < exclusionCapacity) (hb : b ∉ q.excluded) :
    s.askRefused i q b x = s.beginSearch i { seekingAgain q with excluded := q.excluded ++ [b] } := by
  rw [State.askRefused, if_pos ((hardReason_iff x).mpr ⟨h, h'⟩), if_pos hr, excludeBay_of_room hb hr]

theorem State.askRefused_full (hr : exclusionCapacity ≤ q.excluded.length) :
    s.askRefused i q b x = s.toException i (seekingAgain q) := by
  rw [State.askRefused, if_pos ((hardReason_iff x).mpr ⟨h, h'⟩), if_neg (Nat.not_lt.mpr hr)]

end

section
variable {x : RefuseBody} (hl : s.resetLine = false) (hi : s.findRecord x.pallet = some i)
  (hq : s.slotAt i = .record q)
include hl hi hq

theorem exec_dsuRefuse_matched (hs : q.state = .asked) (ht : q.target = some b) (hn : q.seq = some x.seq) :
    exec (.dsuRefuse b x) s = .next ((s.drop (.dsuRefuse b x)).askRefused i q b x.reason) := by
  rw [exec, execDsuRefuse, taken_onRecord hl hi hq, if_pos (liveAsk_iff.mpr ⟨hs, ht, hn⟩)]

theorem exec_dsuRefuse_unmatched (h : q.state ≠ .asked ∨ q.target ≠ some b ∨ q.seq ≠ some x.seq) :
    exec (.dsuRefuse b x) s = .next (s.drop (.dsuRefuse b x)) := by
  rw [exec, execDsuRefuse, taken_onRecord hl hi hq, if_neg fun hlive => ?_]
  obtain ⟨hs, ht, hn⟩ := liveAsk_iff.mp hlive
  exact h.elim (· hs) fun h => h.elim (· ht) (· hn)

end

/-! ## RELEASE (R72, R74) -/

theorem releasesGuided_iff {n k : Nat} :
    releasesGuided q n k = true ↔ q.state = .guided ∧ q.target = some n ∧ q.seq = some k := by
  simp [releasesGuided, and_assoc]

section
variable {y : ReleaseBody}

/-- A LATE or a CANCEL is an asker's, and no business of the DSU. -/
theorem exec_dsuRelease_asker (hl : s.resetLine = false) (h : y.reason = .late ∨ y.reason = .cancel) :
    exec (.dsuRelease b y) s = .next (s.drop (.dsuRelease b y)) := by
  have hg : (!granterReason y.reason) = true := by obtain h | h := h <;> rw [h] <;> rfl
  obtain hn | ⟨i, q, hi, hq⟩ := s.findRecord_cases y.pallet
  · rw [exec, execDsuRelease, taken_onRecord_none hl hn]
  · rw [exec, execDsuRelease, taken_onRecord hl hi hq, if_pos hg]

variable (hl : s.resetLine = false) (hi : s.findRecord y.pallet = some i) (hq : s.slotAt i = .record q)
include hl hi hq

theorem exec_dsuRelease_granter (h : y.reason ≠ .late) (h' : y.reason ≠ .cancel) :
    exec (.dsuRelease b y) s = .next
      (if releasesGuided q b y.seq then (s.drop (.dsuRelease b y)).orphanRecord i q
       else if liveAsk q b y.seq then (s.drop (.dsuRelease b y)).askUnanswered i q
       else s.drop (.dsuRelease b y)) := by
  have hg : ¬ (!granterReason y.reason) = true := by simpa using (granterReason_iff y.reason).mpr ⟨h, h'⟩
  rw [exec, execDsuRelease, taken_onRecord hl hi hq, if_neg hg]

theorem exec_dsuRelease_unmatched (h : q.target ≠ some b ∨ q.seq ≠ some y.seq) :
    exec (.dsuRelease b y) s = .next (s.drop (.dsuRelease b y)) := by
  by_cases hr : y.reason = .late ∨ y.reason = .cancel
  · exact exec_dsuRelease_asker hl hr
  · obtain ⟨h1, h2⟩ := not_or.mp hr
    rw [exec_dsuRelease_granter hl hi hq h1 h2, if_neg fun hg => ?_, if_neg fun hlive => ?_]
    · obtain ⟨-, ht, hn⟩ := liveAsk_iff.mp hlive
      exact h.elim (· ht) (· hn)
    · obtain ⟨-, ht, hn⟩ := releasesGuided_iff.mp hg
      exact h.elim (· ht) (· hn)

theorem exec_dsuRelease_neither (h : y.reason ≠ .late) (h' : y.reason ≠ .cancel)
    (hs : q.state ≠ .guided) (hs' : q.state ≠ .asked) :
    exec (.dsuRelease b y) s = .next (s.drop (.dsuRelease b y)) := by
  rw [exec_dsuRelease_granter hl hi hq h h', if_neg fun hg => hs (releasesGuided_iff.mp hg).1,
    if_neg fun hlive => hs' (liveAsk_iff.mp hlive).1]

variable (ht : q.target = some b) (hn : q.seq = some y.seq) (h : y.reason ≠ .late) (h' : y.reason ≠ .cancel)
include ht hn h h'

theorem exec_dsuRelease_guided (hs : q.state = .guided) :
    exec (.dsuRelease b y) s = .next (((s.drop (.dsuRelease b y)).setSlot i
      (.record { q with state := .orphan, guardBy := none })).hand (.noticeRaise .orphan)) := by
  rw [exec_dsuRelease_granter hl hi hq h h', if_pos (releasesGuided_iff.mpr ⟨hs, ht, hn⟩)]
  rfl

theorem exec_dsuRelease_asked (hs : q.state = .asked) :
    exec (.dsuRelease b y) s = .next ((s.drop (.dsuRelease b y)).beginSearch i (seekingAgain q)) := by
  rw [exec_dsuRelease_granter hl hi hq h h', if_neg fun hg => ?_, if_pos (liveAsk_iff.mpr ⟨hs, ht, hn⟩),
    State.askUnanswered]
  simp [(releasesGuided_iff.mp hg).1] at hs

end

end

theorem borrowerOf_eq_some {s : State} {n : Nat} {w : Borrower} :
    borrowerOf s n = some w ↔ s.dsu.borrowers[n]? = some (some w) := by
  unfold borrowerOf
  cases s.dsu.borrowers[n]? <;> simp

/-- Settles O45: a GRANT by whether it matches the live ask, or is late; a REFUSE and a RELEASE by what they match. -/
theorem answersEndAsks : Obligations.AnswersEndAsks := by
  refine ⟨fun _ _ _ => borrowerOf_eq_some, fun _ => rfl, fun b i g q s hl hi hq hs ht hn hk => ?_,
    fun b g s hl hn => exec_dsuGrant_late (exec_dsuGrant_unrecorded hl hn)
      fun hb => State.lateGrant_unrecorded (s := s.drop _) hb hn,
    fun b i g q s hl hi hq hs ht hk => exec_dsuGrant_reached hl hi hq (fun hm => ?_)
      (alreadyReached_iff.mpr ⟨ht, .inr ⟨hs, hk⟩⟩),
    fun b i g q s hl hi hq => ⟨fun hs ht hn hk => exec_dsuGrant_reached hl hi hq
      (fun hm => hn (grantMatches_iff.mp hm).1.2.2) (alreadyReached_iff.mpr ⟨ht, .inl ⟨hs, hk⟩⟩), fun ha hg => ?_⟩,
    fun b i x q s hl hi hq hs ht hn => ?_,
    fun b i y q s hl hi hq ht hn h h' => ⟨exec_dsuRelease_guided hl hi hq ht hn h h',
      exec_dsuRelease_asked hl hi hq ht hn h h', exec_dsuRelease_neither hl hi hq h h'⟩,
    fun b x y s hl => ⟨fun hn => ?_, fun hn => ?_, exec_dsuRelease_asker hl⟩,
    fun b i p q s hl hi hq => ⟨fun x hp => ?_, fun y hp => ?_⟩, fun _ _ _ _ _ => ⟨rfl, rfl⟩,
    fun _ => ⟨rfl, rfl, rfl, rfl, rfl, rfl, rfl, rfl, rfl, rfl⟩⟩
  · rw [exec_dsuGrant_matched hl hi hq (grantMatches_iff.mpr ⟨⟨hs, ht, hn⟩, hk⟩)]
    rfl
  · simp [(grantMatches_iff.mp hm).1.1] at hs
  · have unmatched : ¬ grantMatches q b g = true := fun hm => by
      obtain ⟨⟨hs, ht, -⟩, hk⟩ := grantMatches_iff.mp hm
      exact ha.elim (· hs) fun h => h.elim (· ht) (· hk)
    have unreached : ¬ alreadyReached q b g = true := fun hr => by
      obtain ⟨ht, ⟨hs, hk⟩ | ⟨hs, hk⟩⟩ := alreadyReached_iff.mp hr
      · exact ha.elim (· hs) fun h => h.elim (· ht) (· hk)
      · exact hg.elim (· hs) fun h => h.elim (· ht) (· hk)
    exact exec_dsuGrant_late (exec_dsuGrant_unmatched hl hi hq unmatched)
      fun hb => (State.lateGrant_recorded (s := s.drop _) hb hi hq).trans (if_neg unreached)
  · rw [exec_dsuRefuse_matched hl hi hq hs ht hn]
    exact ⟨fun h => congrArg _ (State.askRefused_soft h),
      fun h h' hr hb => congrArg _ (State.askRefused_room h h' hr hb),
      fun h h' hr => congrArg _ (State.askRefused_full h h' hr)⟩
  · rw [exec, execDsuRefuse, taken_onRecord_none hl hn]
  · rw [exec, execDsuRelease, taken_onRecord_none hl hn]
  · exact exec_dsuRefuse_unmatched hl (hp ▸ hi) hq
  · exact exec_dsuRelease_unmatched hl (hp ▸ hi) hq

end Sys2Proof.Machine
end

section
/-! PROOFS. Records freed by a placing, and records orphaned by a restart, an aborted CLOSE or a self-put that lapses
(R74 to R76, O46). -/

namespace Sys2Proof.Machine

/-! ## A placing (R75) -/

section
variable {s : State} {c : Instr} {i b : Nat} {q : PalletRecord} {x : Place}

/-- A placing where the record was guided, or of a record guided nowhere, frees it. -/
theorem State.recordPlaced_there
    (h : q.state ≠ .guided ∨ q.target = some b ∧ q.place.map placeKind = some (placeKind x)) :
    s.recordPlaced i q b x = s.setSlot i (slotFreed q) := by
  cases hs : q.state with
  | guided =>
    have hthere := h.resolve_left (not_not_intro hs)
    simp only [State.recordPlaced, hs, if_pos hthere, State.freeRecord_eq]
  | seeking | asked | orphan | exception => simp only [State.recordPlaced, hs, State.freeRecord_eq]

/-- A placing elsewhere frees a guided record and gives up the place it was guided to. -/
theorem State.recordPlaced_elsewhere (hs : q.state = .guided)
    (h : q.target ≠ some b ∨ q.place.map placeKind ≠ some (placeKind x)) : s.recordPlaced i q b x =
      if q.seq.isSome then s.freeWithCancel i q else s.freeWithSelfCancel i q := by
  have hn : ¬ (q.target = some b ∧ q.place.map placeKind = some (placeKind x)) := fun ⟨ht, hk⟩ => h.elim (· ht) (· hk)
  simp only [State.recordPlaced, hs, if_neg hn]
  rfl

theorem placed_elsewhere (he : exec c s = .next ((s.drop c).recordPlaced i q b x)) (hs : q.state = .guided)
    (h : q.target ≠ some b ∨ q.place.map placeKind ≠ some (placeKind x)) :
    (q.seq = none →
      exec c s = .next (((s.drop c).setSlot i (slotFreed q)).hand (.selfPutCancel q.pallet))) ∧
    (∀ n k, q.seq = some n → q.target = some k → s.offerResult = .placed →
      exec c s = .next (((s.bump.drop c).setSlot i (slotFreed q)).placeFrame (.owned
        { owner := .dsu, built := s.serial, target := k, body := .release
            { pallet := q.pallet, asker := s.own, seq := n, reason := .cancel } }))) ∧
    (∀ n k, q.seq = some n → q.target = some k → ∃ t, exec c s = .next t ∧
      (s.offerResult ≠ .placed →
        DsuReleaseRefused s ((s.drop c).setSlot i (slotFreed q)) t k
          { pallet := q.pallet, asker := s.own, seq := n, reason := .cancel })) := by
  rw [State.recordPlaced_elsewhere hs h] at he
  refine ⟨fun hn => ?_, fun n k hn ht ho => ?_, fun n k hn ht => ⟨_, he, fun _ => ?_⟩⟩
  · rw [he, hn]
    rfl
  · rw [he, hn, if_pos Option.isSome_some, State.freeWithCancel_placed (s := s.drop c) ht hn ho]
    rfl
  · rw [hn, if_pos Option.isSome_some]
    exact State.freeWithCancel_refused (s := s.drop c) ht hn

end

/-! ## Records orphaned (R76) -/

/-- A slot holds a record that meets a test. -/
def holdsRecordWhere (p : PalletRecord → Bool) : Slot → Bool
  | .record q => p q
  | .free => false
  | .lone _ => false

/-- A slot after the records that meet a test are orphaned. -/
def slotOrphaned (p : PalletRecord → Bool) : Slot → Slot
  | .record q => if p q then .record { q with state := .orphan, guardBy := none } else .record q
  | .free => .free
  | .lone o => .lone o

theorem State.slots_eq_map (s : State) : s.dsu.slots.toList = slotIndices.map s.slotAt := by
  refine List.ext_getElem? fun i => ?_
  rw [Vector.getElem?_toList, slotIndices_eq_range]
  by_cases h : i < 8
  · rw [State.slots_getElem? h]
    simp [h]
  · simp [h]

theorem recordsWhere_eq (s : State) (p : PalletRecord → Bool) :
    recordsWhere s p = slotIndices.countP fun i => holdsRecordWhere p (s.slotAt i) := by
  have h : recordsWhere s p = s.dsu.slots.toList.countP (holdsRecordWhere p) :=
    List.countP_congr fun v _ => by cases v <;> rfl
  rw [h, State.slots_eq_map, List.countP_map]
  rfl

section
variable {p : PalletRecord → Bool} {s : State}

theorem orphanStep_slotAt {i : Nat} (hi : i < 8) (j : Nat) :
    (orphanStep p s i).slotAt j = if j = i then slotOrphaned p (s.slotAt i) else s.slotAt j := by
  cases hv : s.slotAt i with
  | free =>
    rw [orphanStep_noRecord (by simp [hv]), ← hv]
    split <;> simp_all [slotOrphaned]
  | lone o =>
    rw [orphanStep_noRecord (by simp [hv]), ← hv]
    split <;> simp_all [slotOrphaned]
  | record q =>
    rw [orphanStep_eq hv, slotOrphaned]
    split
    · show (s.setSlot i (.record { q with state := .orphan, guardBy := none })).slotAt j = _
      rw [State.slotAt_setSlot]
      by_cases h : j = i
      · subst h
        simp [hi]
      · simp [h, Ne.symm h]
    · split
      · subst_vars
        exact hv
      · rfl

theorem orphanStep_handed (i : Nat) : (orphanStep p s i).handed =
    s.handed ++ List.replicate (if holdsRecordWhere p (s.slotAt i) then 1 else 0) (.noticeRaise .orphan) := by
  cases hv : s.slotAt i with
  | free => simp [orphanStep_noRecord, hv, holdsRecordWhere]
  | lone o => simp [orphanStep_noRecord, hv, holdsRecordWhere]
  | record q =>
    rw [orphanStep_eq hv, holdsRecordWhere]
    split
    · rfl
    · simp

/-- Along slots none of which comes twice, each is orphaned once, as it stands before. -/
theorem orphanSteps (l : List Nat) (hd : l.Nodup) (hl : ∀ i ∈ l, i < 8) (s : State) :
    (∀ j, (l.foldl (orphanStep p) s).slotAt j =
      if j ∈ l then slotOrphaned p (s.slotAt j) else s.slotAt j) ∧
    (l.foldl (orphanStep p) s).handed = s.handed ++
      List.replicate (l.countP fun i => holdsRecordWhere p (s.slotAt i)) (.noticeRaise .orphan) := by
  induction l generalizing s with
  | nil => simp
  | cons i l ih =>
    obtain ⟨hil, hd⟩ := List.nodup_cons.mp hd
    obtain ⟨hi, hl⟩ := List.forall_mem_cons.mp hl
    obtain ⟨hslots, hhanded⟩ := ih hd hl (orphanStep p s i)
    have later (j : Nat) (hj : j ∈ l) : (orphanStep p s i).slotAt j = s.slotAt j := by
      have hne : j ≠ i := fun e => hil (e ▸ hj)
      rw [orphanStep_slotAt hi, if_neg hne]
    refine ⟨fun j => ?_, ?_⟩
    · rw [List.foldl_cons, hslots j]
      by_cases hj : j ∈ l
      · rw [if_pos hj, if_pos (List.mem_cons_of_mem i hj), later j hj]
      · rw [if_neg hj, orphanStep_slotAt hi]
        by_cases e : j = i
        · simp [e]
        · simp [e, hj]
    · have hcount : (l.countP fun j => holdsRecordWhere p ((orphanStep p s i).slotAt j)) =
          l.countP fun j => holdsRecordWhere p (s.slotAt j) :=
        List.countP_congr fun j hj => by rw [later j hj]
      rw [List.foldl_cons, hhanded, hcount, orphanStep_handed, List.append_assoc, List.replicate_append_replicate,
        List.countP_cons, Nat.add_comm]

/-- Every record that meets the test is orphaned, ORPHAN is raised once for each, and every other slot is left. -/
theorem State.orphanWhere_orphans (s : State) (p : PalletRecord → Bool) :
    (s.orphanWhere p).handed = s.handed ++ List.replicate (recordsWhere s p) (.noticeRaise .orphan) ∧
      ∀ i, i < 8 → (s.orphanWhere p).slotAt i = slotOrphaned p (s.slotAt i) := by
  obtain ⟨hslots, hhanded⟩ := orphanSteps (p := p) slotIndices (by decide) (by decide) s
  rw [State.orphanWhere_eq, recordsWhere_eq]
  exact ⟨hhanded, fun i hi => (hslots i).trans (if_pos (by simpa [slotIndices_eq_range] using hi))⟩

end

/-! ## The commands -/

section
variable {s : State} {i b p asker : Nat} {q : PalletRecord}

theorem exec_dsuPlaced_found {x : PlacedBody} (hl : s.resetLine = false) (hi : s.findRecord x.pallet = some i)
    (hq : s.slotAt i = .record q) :
    exec (.dsuPlaced b x) s = .next ((s.drop (.dsuPlaced b x)).recordPlaced i q b x.place) := by
  rw [exec, execDsuPlaced, taken_onRecord hl hi hq]

theorem exec_placedNote_found {x : Place} (hl : s.resetLine = false) (hi : s.findRecord p = some i)
    (hq : s.slotAt i = .record q) :
    exec (.placedNote p asker x) s = .next ((s.drop (.placedNote p asker x)).recordPlaced i q s.own x) := by
  rw [exec, execPlacedNote, taken_onRecord hl hi hq]
  rfl

theorem exec_dsuRestartAdvert (hl : s.resetLine = false) : exec (.dsuRestartAdvert b) s = .next
    ((s.drop (.dsuRestartAdvert b)).orphanWhere fun q => decide (q.state = .guided ∧ q.target = some b)) := by
  rw [exec, execDsuRestartAdvert, taken_running hl]
  simp only [Bool.decide_and]

theorem exec_dsuClose_aborted {x : CloseBody} (hl : s.resetLine = false) (ha : x.aborted = true) :
    exec (.dsuClose b x) s = .next ((s.drop (.dsuClose b x)).orphanWhere fun q =>
      decide (q.state = .guided ∧ q.target = some b ∧ q.place.map placeKind = some .trailer)) := by
  rw [exec, execDsuClose, taken_running hl, if_pos ha]
  simp only [Bool.decide_and, Bool.and_assoc]

theorem exec_dsuClose_whole {x : CloseBody} (hl : s.resetLine = false) (ha : x.aborted = false) :
    exec (.dsuClose b x) s = .next (s.drop (.dsuClose b x)) := by
  rw [exec, execDsuClose, taken_running hl, if_neg (by simp [ha])]

end

/-- Settles O46: a placing by where the record was guided, a restart and an aborted CLOSE by what they orphan. -/
theorem placingsFreeRecords : Obligations.PlacingsFreeRecords := by
  refine ⟨fun b p asker x place reason s hl => ⟨fun hn => ?_, fun hn => ⟨?_, ?_⟩⟩,
    fun p i reason q s hl hi hq h => ?_, fun b i x q s hl hi hq h => ?_, fun p asker i place q s hl hi hq h => ?_,
    fun b i x q s hl hi hq => placed_elsewhere (exec_dsuPlaced_found hl hi hq),
    fun p asker i place q s hl hi hq => placed_elsewhere (exec_placedNote_found hl hi hq),
    fun b s hl => ⟨_, exec_dsuRestartAdvert hl, (State.orphanWhere_orphans _ _).1, fun i hi => ?_⟩,
    fun b x s hl ha => ⟨_, exec_dsuClose_aborted hl ha, (State.orphanWhere_orphans _ _).1, fun i hi => ?_⟩,
    fun b x s => exec_dsuClose_whole, fun p i reason q s hl hi hq hs hn => ?_⟩
  · rw [exec, execDsuPlaced, taken_onRecord_none hl hn]
  · rw [exec, execPlacedNote, taken_onRecord_none hl hn]
  · rw [exec, execSelfPutRelease, taken_onRecord_none hl hn]
  · have hn : ¬ (q.state = .guided ∧ (!guidedByPeer q) = true) := fun ⟨hs, hn⟩ =>
      h.elim (· hs) (· (by simpa [guidedByPeer] using hn))
    rw [exec, execSelfPutRelease, taken_onRecord hl hi hq, if_neg hn]
  · rw [exec_dsuPlaced_found hl hi hq, State.recordPlaced_there h]
  · rw [exec_placedNote_found hl hi hq, State.recordPlaced_there h]
  · rw [(State.orphanWhere_orphans _ _).2 i hi, State.drop_slotAt]
    cases s.slotAt i <;> simp [slotOrphaned]
  · rw [(State.orphanWhere_orphans _ _).2 i hi, State.drop_slotAt]
    cases s.slotAt i <;> simp [slotOrphaned]
  · rw [exec, execSelfPutRelease, taken_onRecord hl hi hq, if_pos ⟨hs, by simp [guidedByPeer, hn]⟩]
    rfl

end Sys2Proof.Machine
end

section
/-! PROOFS. Pallets read out of the trailer (R60 to R62, O41): the table full, an exception, a record in search, and a
re-read. -/

namespace Sys2Proof.Machine

/-! ## The handling of a destination (R61, R62) -/

theorem scaleFaulty_iff (x : Scale) : scaleFaulty x = true ↔ x = .zero ∨ x = .overload := by
  cases x <;> simp [scaleFaulty]

section
variable {c : ConfigRecord} {dest : Nat}

theorem handlingOf_unmapped (h : ∀ e ∈ c.map.toList, dest < e.first ∨ e.last < dest) :
    handlingOf c dest = .direct := by
  have hnone : c.map.toList.find? (fun e => decide (e.first ≤ dest) && decide (dest ≤ e.last)) = none := by
    refine List.find?_eq_none.mpr fun e he => ?_
    have := h e he
    simp only [Bool.and_eq_true, decide_eq_true_eq]
    omega
  rw [handlingOf, hnone]

/-- The first entry of the map that holds a destination handles it. -/
theorem handlingOf_first {i : Nat} {e : MapEntry} (he : c.map[i]? = some e) (h1 : e.first ≤ dest) (h2 : dest ≤ e.last)
    (hfirst : ∀ j x, j < i → c.map[j]? = some x → dest < x.first ∨ x.last < dest) :
    handlingOf c dest = e.handling := by
  have hfind : c.map.toList.find? (fun e => decide (e.first ≤ dest) && decide (dest ≤ e.last)) = some e := by
    rw [← Vector.getElem?_toList] at he
    obtain ⟨hi, he⟩ := List.getElem?_eq_some_iff.mp he
    refine List.find?_eq_some_iff_getElem.mpr ⟨by simp [h1, h2], i, hi, he, fun j hj => ?_⟩
    have := hfirst j _ hj (Vector.getElem?_toList.symm.trans (List.getElem?_eq_getElem (hj.trans hi)))
    simp only [Bool.not_eq_true', Bool.and_eq_false_iff, decide_eq_false_iff_not]
    omega
  rw [handlingOf, hfind]

end

section
variable {c : ConfigRecord} {r : PalletRead}

theorem validDest_iff {d : Nat} : validDest d = true ↔ 1 ≤ d ∧ d ≤ 999 := by simp [validDest]

theorem newHandling_except
    (h : r.dest = 0 ∨ 999 < r.dest ∨ r.scale = .overload ∨ handlingOf c r.dest = .except) :
    newHandling c r = .except := by
  by_cases hv : validDest r.dest = true
  · have h : r.scale = .overload ∨ handlingOf c r.dest = .except := by
      have := validDest_iff.mp hv
      obtain h | h | h := h
      · omega
      · omega
      · exact h
    rw [newHandling, if_neg (by simp [hv])]
    split
    · rfl
    · exact h.resolve_left ‹_›
  · rw [newHandling, if_pos (by simpa using hv)]

theorem newHandling_mapped (h1 : 1 ≤ r.dest) (h2 : r.dest ≤ 999) (hs : r.scale ≠ .overload) :
    newHandling c r = handlingOf c r.dest := by
  rw [newHandling, if_neg (by simp [validDest_iff.mpr ⟨h1, h2⟩]), if_neg hs]

end

/-! ## WAIT shown and a search begun (R60, R61) -/

/-- The request of a step names a record by what identifies its pallet. -/
theorem searchRequest_congr {q r : PalletRecord} (h : selfPutOf q = selfPutOf r) :
    searchRequest q = searchRequest r := by
  have hp : q.pallet = r.pallet := congrArg SelfPut.pallet h
  have hd : q.dest = r.dest := congrArg SelfPut.dest h
  funext n st
  cases st <;> simp only [searchRequest, h, hp, hd]

/-- A record with an indication just requested for it (R78). -/
def shownRecord (s : State) (q : PalletRecord) (n : IndicationName) : PalletRecord :=
  { q with indication := some (indicationOf s.own n), shown := false }

theorem State.waitAndSearch_eq {s : State} {i : Nat} {q : PalletRecord} (h : q.totalAsks < 8) :
    s.waitAndSearch i q = (s.bump.setSlot i (.record
      { shownRecord s q .wait with search := some { step := firstStep s q, token := s.serial } })).handAll
      [.indicationRequest { source := .dsu, indication := indicationOf s.own .wait, pallet := some q.pallet },
       searchRequest q s.serial (firstStep s q)] := by
  have hwait : s.waitAndSearch i q = (s.showRecord i q .wait).beginSearch i (shownRecord s q .wait) := rfl
  have hslot := s.bump.setSlot_setSlot i (.record (shownRecord s q .wait))
    (.record { shownRecord s q .wait with search := some { step := firstStep s q, token := s.serial } })
  have hreq : searchRequest (shownRecord s q .wait) = searchRequest q := searchRequest_congr rfl
  have hasks : (shownRecord s q .wait).totalAsks < 8 := h
  rw [hwait, State.beginSearch_first hasks, State.searchAt_some, hreq, ← hslot, State.handAll_pair]
  rfl

/-- A record without asks searches trailers first where its handling is direct and the bay is not muted. -/
theorem firstStep_fresh {s : State} {q : PalletRecord} (h : q.trailerAsks = 0) : firstStep s q =
    if q.handling = .direct ∧ s.fbi.mute = false then .trailerStage else .ownAssigned := by
  simp [firstStep, h]

/-! ## A new pallet (R61) -/

section
variable {s : State} {r : PalletRead} {i : Nat} (hl : s.resetLine = false) (hn : s.findRecord r.pallet = none)
include hl hn

theorem exec_readOut_tableFull (hf : s.freeSlot = none) :
    exec (.dsuDoorReadOut r) s = .next ((s.drop (.dsuDoorReadOut r)).handAll
      [.indicationRequest { source := .dsu, indication := indicationOf s.own .fullTable, pallet := none },
       .noticeRaise .tableFull]) := by
  have hf : (s.drop (.dsuDoorReadOut r)).freeSlot = none := hf
  rw [exec, execDsuDoorReadOut, taken_running hl, State.found_none (s := s.drop _) hn]
  simp only [hf, State.handAll_pair]
  rfl

theorem exec_readOut_newPallet (hf : s.freeSlot = some i) :
    exec (.dsuDoorReadOut r) s = .next ((s.drop (.dsuDoorReadOut r)).newPallet i r) := by
  have hf : (s.drop (.dsuDoorReadOut r)).freeSlot = some i := hf
  rw [exec, execDsuDoorReadOut, taken_running hl, State.found_none (s := s.drop _) hn]
  simp only [hf]

end

section
variable {s : State} {r : PalletRead} {i : Nat}

/-- SCALE_FAULT raised, where the scale status asks for it, ahead of what a new pallet hands on. -/
theorem State.newPallet_except (h : newHandling s.scu.config r = .except) : s.newPallet i r =
    (s.handAll (if scaleFaulty r.scale then [.noticeRaise .scaleFault] else [])).toException i
      (newRecord s.scu.config r) := by
  have h : (newRecord s.scu.config r).handling = .except := h
  rw [State.newPallet, ← State.raiseIf_eq]
  exact if_pos h

theorem State.newPallet_search (h : newHandling s.scu.config r ≠ .except) : s.newPallet i r =
    (s.handAll (if scaleFaulty r.scale then [.noticeRaise .scaleFault] else [])).waitAndSearch i
      (newRecord s.scu.config r) := by
  have h : ¬ (newRecord s.scu.config r).handling = .except := h
  rw [State.newPallet, ← State.raiseIf_eq]
  exact if_neg h

theorem newRecord_weight_ok {c : ConfigRecord} {kg : Nat} (h : r.scale = .ok kg) :
    (newRecord c r).weight = kg ∧ (newRecord c r).estimated = false := by
  simp [newRecord, h, scaleFaulty]

theorem newRecord_weight_zero {c : ConfigRecord} (h : r.scale = .zero) :
    (newRecord c r).weight = classMaxWeight r.height ∧ (newRecord c r).estimated = true := by
  simp [newRecord, h, scaleFaulty]

end

/-! ## A re-read (R60) -/

section
variable {s : State} {r : PalletRead} {i : Nat} {q : PalletRecord} (hl : s.resetLine = false)
  (hi : s.findRecord r.pallet = some i) (hq : s.slotAt i = .record q)
include hl hi hq

theorem exec_readOut_again : exec (.dsuDoorReadOut r) s = .next ((s.drop (.dsuDoorReadOut r)).reRead i q) := by
  rw [exec, execDsuDoorReadOut, taken_running hl, State.found_record (s := s.drop _) hi hq]

theorem exec_readOut_shownAgain {ind : Indication} (hs : q.state ≠ .orphan) (hind : q.indication = some ind) :
    exec (.dsuDoorReadOut r) s =
      .next (((s.drop (.dsuDoorReadOut r)).setSlot i (.record { q with shown := false })).hand
        (.indicationRequest { source := .dsu, indication := ind, pallet := some q.pallet })) := by
  have hagain : (s.drop (.dsuDoorReadOut r)).reRead i q = (s.drop (.dsuDoorReadOut r)).showAgain i q := by
    unfold State.reRead
    cases h : q.state with
    | orphan => exact absurd h hs
    | seeking | asked | guided | exception => rfl
  rw [exec_readOut_again hl hi hq, hagain, State.showAgain, hind]
  rfl

theorem exec_readOut_orphan (hs : q.state = .orphan) : exec (.dsuDoorReadOut r) s =
    .next ((s.drop (.dsuDoorReadOut r)).waitAndSearch i (freshOrphan q)) := by
  rw [exec_readOut_again hl hi hq]
  simp only [State.reRead, hs]

end

/-- Settles O41: the slots and the map by their rules; a read by the record, the free slot and the handling it finds. -/
theorem palletsAreRecorded : Obligations.PalletsAreRecorded := by
  refine ⟨fun i j v s hi => ⟨State.slots_getElem? hi, ?_, rfl, rfl, rfl⟩, scaleFaulty_iff,
    fun c dest => ⟨handlingOf_unmapped, fun i e he h1 h2 => handlingOf_first he h1 h2⟩, ⟨rfl, rfl, rfl, rfl⟩,
    fun r s => exec_readOut_tableFull, fun r i s hl hn hf h => ?_, fun r i s hl hn hf h1 h2 hs hx => ?_,
    fun r i q ind s hl hi hq => exec_readOut_shownAgain hl hi hq,
    fun r i q s hl hi hq hs => ⟨firstStep s (freshOrphan q), ?_, firstStep_fresh rfl⟩,
    fun p s => ⟨fun i hi => ?_, fun hn j q _ hq => s.findRecord_none p j q hn hq⟩,
    fun s => ⟨fun i => State.freeSlot_some, State.freeSlot_none⟩⟩
  · rw [State.slotAt_setSlot]
    by_cases h : j = i
    · subst h
      simp [hi]
    · simp [h, Ne.symm h]
  · refine ⟨{ newRecord s.scu.config r with
        state := .exception, answerBy := none, guardBy := none, retryAt := none, search := none
        indication := some (indicationOf s.own .except), shown := false }, ?_, rfl, rfl, rfl, newHandling_except h,
      rfl, rfl, rfl, rfl, rfl, rfl⟩
    rw [exec_readOut_newPallet hl hn hf, State.newPallet_except (s := s.drop _) (newHandling_except h),
      State.toException_eq, ← State.handAll_handAll]
    rfl
  · have hhandling := newHandling_mapped (c := s.scu.config) h1 h2 hs
    refine ⟨{ shownRecord s (newRecord s.scu.config r) .wait with
        search := some { step := firstStep s (newRecord s.scu.config r), token := s.serial } },
      firstStep s (newRecord s.scu.config r), ?_, rfl, rfl, rfl, rfl,
      fun kg => newRecord_weight_ok (c := s.scu.config), newRecord_weight_zero (c := s.scu.config), hhandling,
      rfl, rfl, rfl, rfl, rfl, rfl, rfl, rfl, firstStep_fresh rfl⟩
    rw [exec_readOut_newPallet hl hn hf, State.newPallet_search (s := s.drop _) (hhandling.trans_ne hx),
      State.waitAndSearch_eq (Nat.zero_lt_succ _), ← State.handAll_handAll]
    rfl
  · rw [exec_readOut_orphan hl hi hq hs, State.waitAndSearch_eq (Nat.zero_lt_succ _)]
    rfl
  · obtain ⟨h8, q, hq, hp⟩ := s.findRecord_some p i hi
    exact ⟨h8, ⟨q, hq, hp⟩, fun j r hj => State.findRecord_first hi hj⟩

end Sys2Proof.Machine
end

section
/-! PROOFS. The search for a home, step by step (R64 to R68, O43). -/

namespace Sys2Proof.Machine

/-! ## The candidate chosen (R65, R67) -/

/-- Under a strict order whose ties go together, nothing in the list beats the candidate chosen. -/
theorem firstBest_unbeaten {α : Type} {before : α → α → Bool}
    (hasymm : ∀ x y, before x y = true → before y x = false)
    (htrans : ∀ x y z, before x y = false → before y z = false → before x z = false)
    {l : List α} {a : α} (h : firstBest before l = some a) : ∀ x ∈ l, before x a = false := by
  have hirrefl (x : α) : before x x = false := by
    by_contra hx
    exact hx (hasymm x x (by simpa using hx))
  induction l generalizing a with
  | nil => nofun
  | cons y l ih =>
    rw [firstBest] at h
    cases hb : firstBest before l with
    | none =>
      rw [hb] at h
      cases h
      rw [(firstBest_none before l).mp hb]
      simpa using hirrefl y
    | some z =>
      rw [hb] at h
      have hz := ih hb
      dsimp only at h
      split at h <;> rename_i hbefore <;> cases h <;> refine List.forall_mem_cons.mpr ⟨?_, fun x hx => ?_⟩
      · exact hasymm _ _ hbefore
      · exact hz x hx
      · exact hirrefl y
      · exact htrans x z y (hz x hx) (by simpa using hbefore)

/-- Among candidates that meet a test the choice finds none, or one that none of them beats. -/
theorem firstBest_filter_cases {α : Type} {before : α → α → Bool} (p : α → Bool)
    (hasymm : ∀ x y, before x y = true → before y x = false)
    (htrans : ∀ x y z, before x y = false → before y z = false → before x z = false) (l : List α) :
    (firstBest before (l.filter p) = none ∧ ∀ x ∈ l, p x = false) ∨
      ∃ a ∈ l, firstBest before (l.filter p) = some a ∧ p a = true ∧
        ∀ x ∈ l, p x = true → before x a = false := by
  cases h : firstBest before (l.filter p) with
  | none =>
    have hnil := List.filter_eq_nil_iff.mp ((firstBest_none _ _).mp h)
    exact .inl ⟨rfl, fun x hx => by simpa using hnil x hx⟩
  | some a =>
    obtain ⟨ha, hp⟩ := List.mem_filter.mp (firstBest_mem _ _ _ h)
    exact .inr ⟨a, ha, rfl, hp, fun x hx hpx =>
      firstBest_unbeaten hasymm htrans h x (List.mem_filter.mpr ⟨hx, hpx⟩)⟩

theorem trailerBefore_eq_false {x y : TrailerCandidate} : trailerBefore x y = false ↔
    y.cutOff < x.cutOff ∨ y.cutOff = x.cutOff ∧ y.bay ≤ x.bay := by
  simp only [trailerBefore, Bool.or_eq_false_iff, Bool.and_eq_false_iff, decide_eq_false_iff_not]
  omega

theorem trailerBefore_asymm (x y : TrailerCandidate) (h : trailerBefore x y = true) : trailerBefore y x = false := by
  simp only [trailerBefore, Bool.or_eq_true, Bool.and_eq_true, decide_eq_true_eq] at h
  rw [trailerBefore_eq_false]
  omega

theorem trailerBefore_trans (x y z : TrailerCandidate) (h : trailerBefore x y = false)
    (h' : trailerBefore y z = false) : trailerBefore x z = false := by
  rw [trailerBefore_eq_false] at *
  omega

theorem laneBefore_eq_false {x y : LaneCandidate} : laneBefore x y = false ↔ y.bay ≤ x.bay := by
  simp [laneBefore]

theorem laneBefore_asymm (x y : LaneCandidate) (h : laneBefore x y = true) : laneBefore y x = false :=
  laneBefore_eq_false.mpr (Nat.le_of_lt (of_decide_eq_true h))

theorem laneBefore_trans (x y z : LaneCandidate) (h : laneBefore x y = false) (h' : laneBefore y z = false) :
    laneBefore x z = false :=
  laneBefore_eq_false.mpr ((laneBefore_eq_false.mp h').trans (laneBefore_eq_false.mp h))

theorem trailerFits_iff {l : List Nat} {w : Nat} {h : HeightClass} {c : TrailerCandidate} :
    trailerFits l w h c = true ↔ c.bay ∉ l ∧ w ≤ c.margin ∧ 1 ≤ openingsFor c.openings h := by
  simp [trailerFits, and_assoc]

theorem laneFits_iff {q : PalletRecord} {c : LaneCandidate} :
    (laneFits q .peerAssigned c = true ↔ c.bay ∉ q.excluded ∧ c.high = false ∧ c.fill < 8) ∧
      (laneFits q .peerFree c = true ↔ c.bay ∉ q.excluded) := by
  simp [laneFits]

/-! ## The answers of a search by the record that waits (R64) -/

section
variable {s : State} {p i n : Nat} {q : PalletRecord} {st : SearchStep}

theorem waitsOn_of_search {steps : List SearchStep} (hs : q.state = .seeking)
    (hx : q.search = some { step := st, token := n }) (hst : st ∈ steps) : waitsOn q n steps = true :=
  waitsOn_iff.mpr ⟨hs, st, hst, hx⟩

/-- A record at one step of its search does not wait on another's answer. -/
theorem not_waitsOn_step {steps : List SearchStep} (hx : q.search = some { step := st, token := n })
    (hst : st ∉ steps) : ¬ waitsOn q n steps = true := fun hw => by
  obtain ⟨-, st', hst', hx'⟩ := waitsOn_iff.mp hw
  cases hx.symm.trans hx'
  exact hst hst'

/-- A record that is not seeking, or waits under another token, waits on no answer of this one. -/
theorem not_waitsOn_token {steps : List SearchStep}
    (h : q.state ≠ .seeking ∨ ∀ st, q.search ≠ some { step := st, token := n }) : ¬ waitsOn q n steps = true :=
  fun hw => by
    obtain ⟨hs, st, -, hx⟩ := waitsOn_iff.mp hw
    exact h.elim (· hs) (· st hx)

section
variable (hl : s.resetLine = false) (hi : s.findRecord p = some i) (hq : s.slotAt i = .record q)
include hl hi hq

theorem exec_trailerAnswer_stale (h : ¬ waitsOn q n [.trailerStage] = true) (found : List TrailerCandidate) :
    exec (.trailerCandidatesAnswer p n found) s = .next (s.drop (.trailerCandidatesAnswer p n found)) := by
  rw [exec, execTrailerCandidatesAnswer, taken_onRecord hl hi hq, if_neg h]

theorem exec_laneAnswer_stale (h : ¬ waitsOn q n [.peerAssigned, .peerFree] = true) (found : List LaneCandidate) :
    exec (.laneCandidatesAnswer p n found) s = .next (s.drop (.laneCandidatesAnswer p n found)) := by
  rw [exec, execLaneCandidatesAnswer, taken_onRecord hl hi hq, if_neg h]

theorem exec_selfPutAnswer_stale (h : ¬ waitsOn q n [.ownAssigned, .ownFree] = true) (g : Option SelfPutGiven) :
    exec (.selfPutAnswer p n g) s = .next ((s.drop (.selfPutAnswer p n g)).returnSelfPut p g) := by
  rw [exec, execSelfPutAnswer, taken_running hl, State.found_record (s := s.drop _) hi hq]
  exact congrArg _ (if_neg h)

theorem exec_trailerAnswer_chosen (h : waitsOn q n [.trailerStage] = true) {found : List TrailerCandidate}
    {c : TrailerCandidate}
    (hc : firstBest trailerBefore (found.filter (trailerFits q.excluded q.weight q.height)) = some c) :
    exec (.trailerCandidatesAnswer p n found) s =
      .next ((s.drop (.trailerCandidatesAnswer p n found)).makeAsk i q c.bay .trailer) := by
  rw [exec, execTrailerCandidatesAnswer, taken_onRecord hl hi hq, if_pos h]
  simp only [hc]

theorem exec_trailerAnswer_none (h : waitsOn q n [.trailerStage] = true) {found : List TrailerCandidate}
    (hc : firstBest trailerBefore (found.filter (trailerFits q.excluded q.weight q.height)) = none) :
    exec (.trailerCandidatesAnswer p n found) s =
      .next ((s.drop (.trailerCandidatesAnswer p n found)).searchAt i q (some .ownAssigned)) := by
  rw [exec, execTrailerCandidatesAnswer, taken_onRecord hl hi hq, if_pos h]
  simp only [hc]
  rfl

section
variable (h : waitsOn q n [.peerAssigned, .peerFree] = true) (hx : q.search = some { step := st, token := n })
  {found : List LaneCandidate}
include h hx

theorem exec_laneAnswer_chosen {c : LaneCandidate}
    (hc : firstBest laneBefore (found.filter (laneFits q st)) = some c) :
    exec (.laneCandidatesAnswer p n found) s =
      .next ((s.drop (.laneCandidatesAnswer p n found)).makeAsk i q c.bay .lane) := by
  rw [exec, execLaneCandidatesAnswer, taken_onRecord hl hi hq, if_pos h]
  simp only [hx, hc]

theorem exec_laneAnswer_none (hc : firstBest laneBefore (found.filter (laneFits q st)) = none) :
    exec (.laneCandidatesAnswer p n found) s = .next
      ((s.drop (.laneCandidatesAnswer p n found)).searchAt i q (stepAfter s q st)) := by
  rw [exec, execLaneCandidatesAnswer, taken_onRecord hl hi hq, if_pos h]
  simp only [hx, hc]
  cases st <;> rfl

end

section
variable (h : waitsOn q n [.ownAssigned, .ownFree] = true)
include h

theorem exec_selfPutAnswer_given (g : SelfPutGiven) :
    exec (.selfPutAnswer p n (some g)) s = .next
      ((s.drop (.selfPutAnswer p n (some g))).showRecord i (ownGuidedRecord s q g) (.goLane g.lane)) := by
  rw [exec, execSelfPutAnswer, taken_running hl, State.found_record (s := s.drop _) hi hq]
  exact congrArg _ (if_pos h)

theorem exec_selfPutAnswer_none (hx : q.search = some { step := st, token := n }) :
    exec (.selfPutAnswer p n none) s = .next
      ((s.drop (.selfPutAnswer p n none)).searchAt i q (stepAfter s q st)) := by
  rw [exec, execSelfPutAnswer, taken_running hl, State.found_record (s := s.drop _) hi hq]
  dsimp only
  rw [if_pos h, hx]
  cases st <;> rfl

end

end

theorem exec_selfPutAnswer_unrecorded (hl : s.resetLine = false) (hn : s.findRecord p = none)
    (g : Option SelfPutGiven) :
    exec (.selfPutAnswer p n g) s = .next ((s.drop (.selfPutAnswer p n g)).returnSelfPut p g) := by
  rw [exec, execSelfPutAnswer, taken_running hl, State.found_none (s := s.drop _) hn]

/-- After the peers' lanes the own free lanes follow, or nothing is left. -/
theorem stepAfter_peer (h : st = .peerAssigned ∨ st = .peerFree) :
    stepAfter s q st = if st = .peerAssigned then some .ownFree else none := by
  obtain rfl | rfl := h <;> rfl

/-- After the own lanes the peers' follow, unless the bay is muted. -/
theorem stepAfter_own (h : st = .ownAssigned ∨ st = .ownFree) : stepAfter s q st =
    if s.fbi.mute then (if st = .ownAssigned then some .ownFree else none)
    else some (if st = .ownAssigned then .peerAssigned else .peerFree) := by
  obtain rfl | rfl := h <;> rfl

end

/-! ## An ASK made (R59, R68) -/

section
variable {s : State} {i b : Nat} {kind : PlaceKind} {q : PalletRecord}

theorem askedRecord_eq : askedRecord s q b kind = { q with
    state := .asked, seq := some s.dsu.seq, target := some b, askKind := some kind, search := none
    totalAsks := q.totalAsks + 1
    trailerAsks := q.trailerAsks + (if kind = .trailer then 1 else 0)
    answerBy := some (s.dcu.beat + s.scu.config.answerTimeout) } := by
  cases kind <;> rfl

theorem State.makeAsk_placed (h : s.offerResult = .placed) : s.makeAsk i q b kind =
    (((s.bump.takeSeq .dsu).setSlot i (.record (askedRecord s q b kind))).placeFrame (.owned
      { owner := .dsu, built := s.serial, target := b, body := .ask (askOf s q b kind) })).hand
      (.askNote (askOf s q b kind)) := by
  simp only [State.makeAsk, h]
  rfl

theorem State.makeAsk_noRoom (h : s.offerResult = .noRoom) : s.makeAsk i q b kind =
    (s.bump.takeSeq .dsu).setSlot i (.record { askedRecord s q b kind with
      owedAsk := some { built := s.serial, item := askOf s q b kind } }) := by
  simp only [State.makeAsk, h]
  rfl

theorem State.makeAsk_muted (h : s.offerResult = .muted) : s.makeAsk i q b kind =
    (s.bump.takeSeq .dsu).beginSearch i (seekingAgain (askedRecord s q b kind)) := by
  simp only [State.makeAsk, h]
  rfl

/-- The sequence taken is marked as its borrower's, and every other mark stands. -/
theorem takeSeq_borrowers {w : Borrower} :
    (s.dsu.seq ≤ 255 → (s.takeSeq w).dsu.borrowers[s.dsu.seq]? = some (some w)) ∧
      ∀ n, n ≠ s.dsu.seq → (s.takeSeq w).dsu.borrowers[n]? = s.dsu.borrowers[n]? := by
  unfold State.takeSeq
  refine ⟨fun h => ?_, fun n hn => ?_⟩
  · exact Vector.getElem?_setIfInBounds_self_of_lt (by omega)
  · exact Vector.getElem?_setIfInBounds_ne (Ne.symm hn)

end

/-- Settles O43: the steps by what their answers find, an ASK by what its offer meets. -/
theorem searchesGoStepByStep : Obligations.SearchesGoStepByStep := by
  refine ⟨fun p n s hl hn => ⟨fun found => ?_, fun found => ?_, exec_selfPutAnswer_unrecorded hl hn none⟩,
    fun p i n st q s hl hi hq hx => ⟨fun hst => exec_trailerAnswer_stale hl hi hq (not_waitsOn_step hx (by simpa)),
      fun h1 h2 => exec_laneAnswer_stale hl hi hq (not_waitsOn_step hx (by simp [h1, h2])), fun h1 h2 => ?_⟩,
    fun i q s => State.beginSearch_exhausted, fun i q s => ⟨rfl, State.toException_eq⟩,
    fun _ _ _ _ => trailerFits_iff, fun _ _ => laneFits_iff,
    fun q n => ⟨selfPutOf q, rfl, rfl, rfl, rfl, rfl, rfl, rfl, rfl, rfl, rfl, rfl⟩,
    fun i q s => State.beginSearch_first, fun i q st s => State.searchAt_some st,
    fun p i n q found s hl hi hq hs hx => ?_, fun p i n st q found s hl hi hq hs hx hst => ?_,
    fun p i n g st q s hl hi hq hs hx hst => ?_, fun p n g s hl hn => exec_selfPutAnswer_unrecorded hl hn (some g),
    fun s => ⟨rfl, takeSeq_borrowers.1, takeSeq_borrowers.2, rfl, rfl⟩,
    fun i b kind q s ho => ⟨askOf s q b kind, rfl, rfl, rfl, rfl, rfl, rfl, rfl, rfl, askedRecord s q b kind,
      askedRecord_eq, State.makeAsk_placed, State.makeAsk_noRoom⟩,
    fun i b kind q s h => ?_, fun p i n q s hl hi hq h => ?_⟩
  · rw [exec, execTrailerCandidatesAnswer, taken_onRecord_none hl hn]
  · rw [exec, execLaneCandidatesAnswer, taken_onRecord_none hl hn]
  · have hw : ¬ waitsOn q n [.ownAssigned, .ownFree] = true := not_waitsOn_step hx (by simp [h1, h2])
    exact ⟨fun x => exec_selfPutAnswer_stale hl hi hq hw (some x), exec_selfPutAnswer_stale hl hi hq hw none⟩
  · have hw : waitsOn q n [.trailerStage] = true := waitsOn_of_search hs hx (by simp)
    obtain ⟨hc, hnone⟩ | ⟨c, hmem, hc, hfits, hbest⟩ := firstBest_filter_cases
      (trailerFits q.excluded q.weight q.height) trailerBefore_asymm trailerBefore_trans found
    · exact .inl ⟨hnone, exec_trailerAnswer_none hl hi hq hw hc⟩
    · exact .inr ⟨c, hmem, hfits, fun d hd hfd => trailerBefore_eq_false.mp (hbest d hd hfd),
        exec_trailerAnswer_chosen hl hi hq hw hc⟩
  · have hw : waitsOn q n [.peerAssigned, .peerFree] = true := waitsOn_of_search hs hx (by simpa using hst)
    obtain ⟨hc, hnone⟩ | ⟨c, hmem, hc, hfits, hbest⟩ := firstBest_filter_cases (laneFits q st)
      laneBefore_asymm laneBefore_trans found
    · refine .inl ⟨hnone, ?_⟩
      rw [exec_laneAnswer_none hl hi hq hw hx hc, stepAfter_peer hst]
    · exact .inr ⟨c, hmem, hfits, fun d hd hfd => laneBefore_eq_false.mp (hbest d hd hfd),
        exec_laneAnswer_chosen hl hi hq hw hx hc⟩
  · have hw : waitsOn q n [.ownAssigned, .ownFree] = true := waitsOn_of_search hs hx (by simpa using hst)
    refine ⟨exec_selfPutAnswer_given hl hi hq hw g, ?_⟩
    rw [exec_selfPutAnswer_none hl hi hq hw hx, stepAfter_own hst]
  · rw [State.makeAsk_muted h, askedRecord_eq]
    rfl
  · have hw {steps : List SearchStep} : ¬ waitsOn q n steps = true := not_waitsOn_token h
    exact ⟨exec_trailerAnswer_stale hl hi hq hw, exec_laneAnswer_stale hl hi hq hw,
      fun x => exec_selfPutAnswer_stale hl hi hq hw (some x), exec_selfPutAnswer_stale hl hi hq hw none⟩

end Sys2Proof.Machine
end

section
/-! PROOFS. Positions of the load plan: a stack read after it is written, its top tier, where a pallet ID stands, and
the weight of what the plan holds (R84, R86, R103, R104). -/

namespace Sys2Proof.Machine

/-! ## The 26 positions -/

theorem mem_rowNumbers {row : Nat} : row ∈ rowNumbers ↔ 1 ≤ row ∧ row ≤ 13 := by
  simp only [rowNumbers, List.mem_cons, List.not_mem_nil, or_false]
  omega

theorem mem_positionsIn {rows : List Nat} {pos : Nat × Side} : pos ∈ positionsIn rows ↔ pos.1 ∈ rows := by
  obtain ⟨row, sd⟩ := pos
  cases sd <;> simp [positionsIn]

theorem mem_allPositions {pos : Nat × Side} : pos ∈ allPositions ↔ 1 ≤ pos.1 ∧ pos.1 ≤ 13 :=
  mem_positionsIn.trans mem_rowNumbers

theorem allPositions_nodup : allPositions.Nodup := by decide

theorem stackIndex_lt {row : Nat} (h : row ≤ 13) (sd : Side) : stackIndex row sd < 26 := by
  cases sd <;> simp only [stackIndex, sideIndex] <;> omega

/-- The stacks read position by position are the stacks of the plan. -/
theorem map_stackAt_allPositions (p : Plan) :
    (allPositions.map fun pos => stackAt p pos.1 pos.2) = p.floorStacks.toList := by
  have hidx : (allPositions.map fun pos => stackIndex pos.1 pos.2) = List.range 26 := by decide
  calc (allPositions.map fun pos => stackAt p pos.1 pos.2)
      = (allPositions.map fun pos => stackIndex pos.1 pos.2).map fun i => p.floorStacks[i]?.getD [] := by
        rw [List.map_map]
        rfl
    _ = p.floorStacks.toList := by
        rw [hidx]
        refine List.ext_getElem (by simp) fun i hi _ => ?_
        have hi : i < 26 := by simpa using hi
        simp [hi]

theorem stackAt_mem {row : Nat} (h : row ≤ 13) (p : Plan) (sd : Side) : stackAt p row sd ∈ p.floorStacks.toList := by
  have hi := stackIndex_lt h sd
  simp [stackAt, hi]

/-- Beyond the last row there is no position. -/
theorem stackAt_beyond {row : Nat} (h : 13 < row) (p : Plan) (sd : Side) : stackAt p row sd = [] := by
  have hi : ¬ stackIndex row sd < 26 := by
    cases sd <;> simp only [stackIndex, sideIndex] <;> omega
  simp [stackAt, hi]

@[simp] theorem stackAt_addWeight (c : TrailerClass) (p : Plan) (row n : Nat) (w : Int) (sd : Side) :
    stackAt (addWeight c p row w) n sd = stackAt p n sd := rfl

/-! ## The top of a stack -/

/-- A stack without its reservations. -/
def landedPart (st : List Tier) : List Tier := st.filter fun t => !isReserved t

theorem isReserved_iff (t : Tier) : isReserved t = true ↔ ∃ r, t = .reserved r := by
  cases t <;> simp [isReserved]

theorem not_isReserved_iff (t : Tier) : isReserved t = false ↔ ∃ l, t = .landed l := by
  cases t <;> simp [isReserved]

theorem mem_landedPart {t : Tier} {st : List Tier} : t ∈ landedPart st ↔ t ∈ st ∧ isReserved t = false := by
  simp [landedPart]

theorem landedPart_eq_self {st : List Tier} : landedPart st = st ↔ ∀ t ∈ st, isReserved t = false := by
  simp [landedPart, List.filter_eq_self]

theorem landedPart_append (st st' : List Tier) : landedPart (st ++ st') = landedPart st ++ landedPart st' :=
  List.filter_append ..

@[simp] theorem landedPart_landedPart (st : List Tier) : landedPart (landedPart st) = landedPart st :=
  landedPart_eq_self.mpr fun _ ht => (mem_landedPart.mp ht).2

theorem holdsLanded_iff (st : List Tier) : holdsLanded st = true ↔ ∃ l, .landed l ∈ st := by
  simp only [holdsLanded, List.any_eq_true, Bool.not_eq_true', not_isReserved_iff]
  exact ⟨fun ⟨t, ht, l, e⟩ => ⟨l, e ▸ ht⟩, fun ⟨l, hl⟩ => ⟨_, hl, l, rfl⟩⟩

@[simp] theorem holdsLanded_landedPart (st : List Tier) : holdsLanded (landedPart st) = holdsLanded st := by
  rw [Bool.eq_iff_iff, holdsLanded_iff, holdsLanded_iff]
  simp [mem_landedPart, isReserved]

/-- A position's reservation is its top tier. -/
theorem topReservation_eq_some {st : List Tier} {r : Reservation} :
    topReservation st = some r ↔ ∃ below, st = below ++ [.reserved r] := by
  rw [← List.getLast?_eq_some_iff, topReservation]
  rcases st.getLast? with _ | l | q <;> simp

theorem topReservation_isSome {st : List Tier} :
    (topReservation st).isSome = true ↔ ∃ r, st.getLast? = some (.reserved r) := by
  rw [topReservation]
  rcases st.getLast? with _ | l | q <;> simp

/-! ## Stacks in form (R84) -/

theorem stackFits_append {below : List Tier} {t : Tier} :
    StackFits (below ++ [t]) ↔ below.length ≤ 2 ∧ ∀ x ∈ below, isReserved x = false := by
  rw [StackFits, List.dropLast_concat, List.length_append, List.length_singleton]
  exact and_congr_left fun _ => ⟨Nat.le_of_succ_le_succ, Nat.succ_le_succ⟩

theorem StackFits.dropLast {st : List Tier} (h : StackFits st) : StackFits st.dropLast where
  left := st.dropLast_sublist.length_le.trans h.1
  right _ ht := h.2 _ (List.mem_of_mem_dropLast ht)

/-- In a stack in form a reservation is the top tier. -/
theorem StackFits.topReservation {st : List Tier} (h : StackFits st) {r : Reservation} (hr : .reserved r ∈ st) :
    topReservation st = some r := by
  obtain rfl | ⟨below, t, rfl⟩ := st.eq_nil_or_concat'
  · cases hr
  · obtain hb | ht := List.mem_append.mp hr
    · simpa [isReserved] using (stackFits_append.mp h).2 _ hb
    · exact topReservation_eq_some.mpr ⟨below, by rw [List.mem_singleton.mp ht]⟩

/-- Without a reservation on top, a stack in form has none. -/
theorem StackFits.landedPart_of_none {st : List Tier} (h : StackFits st) (hn : Machine.topReservation st = none) :
    landedPart st = st := by
  refine landedPart_eq_self.mpr fun t ht => ?_
  cases t with
  | landed l => rfl
  | reserved r => simp [h.topReservation ht] at hn

/-- Without the reservation on top, a stack in form is its landed part. -/
theorem StackFits.landedPart_of_top {below : List Tier} {r : Reservation} (h : StackFits (below ++ [.reserved r])) :
    landedPart (below ++ [.reserved r]) = below := by
  have hb : landedPart below = below := landedPart_eq_self.mpr (stackFits_append.mp h).2
  rw [landedPart_append, hb]
  exact List.append_nil below

/-! ## Weights (R103) -/

/-- The weight that a stack counts for in the payload sum. -/
def stackWeight (st : List Tier) : Nat := (st.map tierWeight).sum

theorem stackWeight_append (below : List Tier) (t : Tier) :
    stackWeight (below ++ [t]) = stackWeight below + tierWeight t := by
  simp [stackWeight]

@[simp] theorem contentsWeight_addWeight (c : TrailerClass) (p : Plan) (row : Nat) (w : Int) :
    contentsWeight (addWeight c p row w) = contentsWeight p := rfl

/-- A stack written counts in the place of the one that stood there. -/
theorem contentsWeight_setStack {row : Nat} (h : row ≤ 13) (p : Plan) (sd : Side) (st : List Tier) :
    contentsWeight (setStack p row sd st) + stackWeight (stackAt p row sd) =
      contentsWeight p + stackWeight st := by
  have hi : stackIndex row sd < p.floorStacks.toList.length := by simpa using stackIndex_lt h sd
  have hold : stackAt p row sd = p.floorStacks.toList[stackIndex row sd] := by
    simp [stackAt, stackIndex_lt h sd]
  have hnew : (setStack p row sd st).floorStacks.toList = p.floorStacks.toList.set (stackIndex row sd) st := by
    simp [setStack]
  have hsum (l : List (List Tier)) :
      (l.map fun st => (st.map tierWeight).sum).sum = (l.map stackWeight).sum := rfl
  rw [contentsWeight, contentsWeight, hsum, hsum, hold, hnew]
  generalize stackIndex row sd = i at hi
  generalize p.floorStacks.toList = l at hi
  have hsplit := congrArg (fun m => (m.map stackWeight).sum) (List.take_append_drop i l)
  rw [List.drop_eq_getElem_cons hi] at hsplit
  simp only [List.set_eq_take_append_cons_drop, hi, if_true, List.map_append, List.map_cons, List.sum_append,
    List.sum_cons] at hsplit ⊢
  omega

/-! ## Where a pallet ID stands -/

theorem findInStack_some {pallet : Nat} {st : List Tier} {n k : Nat} {t : Tier}
    (h : findInStack pallet st n = some (k, t)) : ∃ i, k = n + i ∧ st[i]? = some t ∧ tierPallet t = pallet := by
  induction st generalizing n with
  | nil => cases h
  | cons x rest ih =>
    rw [findInStack] at h
    split at h
    · cases h
      exact ⟨0, rfl, rfl, ‹_›⟩
    · obtain ⟨i, rfl, hi, hp⟩ := ih h
      exact ⟨i + 1, by omega, hi, hp⟩

/-- A pallet found in the plan stands where it is said to stand. -/
theorem findInPlan_some {p : Plan} {pallet : Nat} {x : Standing} (h : findInPlan p pallet = some x) :
    1 ≤ x.row ∧ x.row ≤ 13 ∧ (stackAt p x.row x.side)[x.beneath]? = some x.tier ∧ tierPallet x.tier = pallet := by
  obtain ⟨pos, hpos, hf⟩ := List.exists_of_findSome?_eq_some h
  obtain ⟨⟨k, t⟩, hk, rfl⟩ := Option.map_eq_some_iff.mp hf
  obtain ⟨i, hi, ht, hp⟩ := findInStack_some hk
  obtain ⟨h1, h13⟩ := mem_allPositions.mp hpos
  rw [Nat.zero_add] at hi
  exact ⟨h1, h13, hi ▸ ht, hp⟩

end Sys2Proof.Machine
end

section
/-! PROOFS. What the changes of a load plan keep of its form: tiers set and taken off, reservations dropped, and the
steps after a change of contents (R84, R86, R87, R103, R104). -/

namespace Sys2Proof.Machine

/-! ## Contents in form -/

/-- The part of a plan's form that each change of contents keeps before the steps of R87: the stacks and the payload
sum (R84, R103, R104). -/
structure ContentsFit (p : Plan) : Prop where
  stacked : ∀ st ∈ p.floorStacks.toList, StackFits st
  payload : p.payload = (contentsWeight p : Int)

theorem PlanFits.contents {p : Plan} (h : PlanFits p) : ContentsFit p := ⟨h.stacked, h.payload⟩

section
variable {p : Plan} (h : ContentsFit p) {row : Nat} (hr : row ≤ 13) {sd : Side} (c : TrailerClass)
include h hr

theorem ContentsFit.stack (sd : Side) : StackFits (stackAt p row sd) := h.stacked _ (stackAt_mem hr p sd)

/-- A stack written whose change of weight is counted (R104). -/
theorem ContentsFit.write {st : List Tier} {w : Int} (hst : StackFits st)
    (hw : w = (stackWeight st : Int) - stackWeight (stackAt p row sd)) :
    ContentsFit (addWeight c (setStack p row sd st) row w) where
  stacked q hq := by
    have hq : q ∈ p.floorStacks.toList.set (stackIndex row sd) st := by simpa [addWeight, setStack] using hq
    obtain hq | rfl := List.mem_or_eq_of_mem_set hq
    · exact h.stacked q hq
    · exact hst
  payload := by
    have hpay : (addWeight c (setStack p row sd st) row w).payload = p.payload + w := rfl
    have hcon := contentsWeight_setStack hr p sd st
    have hold := h.payload
    rw [hpay, contentsWeight_addWeight]
    omega

/-- A tier set on top of a stack with room and no reservation. -/
theorem ContentsFit.push (hl : (stackAt p row sd).length ≤ 2) (hn : ∀ x ∈ stackAt p row sd, isReserved x = false)
    (t : Tier) : ContentsFit (addWeight c (pushTier p row sd t) row (tierWeight t)) :=
  h.write hr c (stackFits_append.mpr ⟨hl, hn⟩) (by rw [stackWeight_append]; omega)

/-- The top tier taken off. -/
theorem ContentsFit.pop {below : List Tier} {t : Tier} (ht : stackAt p row sd = below ++ [t]) :
    ContentsFit (addWeight c (popTier p row sd) row (-(tierWeight t : Int))) := by
  refine h.write hr c (h.stack hr sd).dropLast ?_
  rw [ht, List.dropLast_concat, stackWeight_append]
  omega

/-- The top tier put in the place of another. -/
theorem ContentsFit.swap {below : List Tier} {t : Tier} (ht : stackAt p row sd = below ++ [t]) (u : Tier) :
    ContentsFit (addWeight c (setStack p row sd (below ++ [u])) row ((tierWeight u : Int) - tierWeight t)) := by
  refine h.write hr c (stackFits_append.mpr (stackFits_append.mp (ht ▸ h.stack hr sd))) ?_
  rw [ht, stackWeight_append, stackWeight_append]
  omega

end

/-! ## The face row (R86) -/

/-- The face row is told by which rows hold a landed pallet. -/
theorem faceOf_congr {p q : Plan} (h : ∀ row sd, 1 ≤ row → row ≤ 13 →
    holdsLanded (stackAt q row sd) = holdsLanded (stackAt p row sd)) : faceOf q = faceOf p := by
  rw [faceOf, faceOf]
  refine congrArg (Option.getD · 0) (List.find?_congr fun row hrow => ?_)
  obtain ⟨h1, h13⟩ := mem_rowNumbers.mp (List.mem_reverse.mp hrow)
  rw [rowHoldsLanded, rowHoldsLanded, h row .left h1 h13, h row .right h1 h13]

/-- No row beyond the face row holds a landed pallet, and the face row, where there is one, does. -/
theorem faceOf_spec (p : Plan) : (∀ row, 1 ≤ row → row ≤ 13 → rowHoldsLanded p row = true → row ≤ faceOf p) ∧
    (faceOf p ≠ 0 → 1 ≤ faceOf p ∧ faceOf p ≤ 13 ∧ rowHoldsLanded p (faceOf p) = true) := by
  cases hf : rowNumbers.reverse.find? fun r => rowHoldsLanded p r with
  | none =>
    have hface : faceOf p = 0 := by rw [faceOf, hf]; rfl
    refine ⟨fun row h1 h13 hrow => ?_, fun h => absurd hface h⟩
    exact absurd hrow (List.find?_eq_none.mp hf row (List.mem_reverse.mpr (mem_rowNumbers.mpr ⟨h1, h13⟩)))
  | some face =>
    have hface : faceOf p = face := by rw [faceOf, hf]; rfl
    have hmem := mem_rowNumbers.mp (List.mem_reverse.mp (List.mem_of_find?_eq_some hf))
    rw [hface]
    refine ⟨fun row h1 h13 hrow => ?_, fun _ => ⟨hmem.1, hmem.2, List.find?_some hf⟩⟩
    obtain ⟨-, before, after, hsplit, hbefore⟩ := List.find?_eq_some_iff_append.mp hf
    have hsorted : (before ++ face :: after).Pairwise (· > ·) := by
      rw [← hsplit]
      decide
    have hrow' : row ∈ before ++ face :: after := hsplit ▸ List.mem_reverse.mpr (mem_rowNumbers.mpr ⟨h1, h13⟩)
    obtain hb | hb := List.mem_append.mp hrow'
    · have := hbefore row hb
      simp [hrow] at this
    · obtain rfl | ha := List.mem_cons.mp hb
      · rfl
      · exact Nat.le_of_lt (List.rel_of_pairwise_cons (List.pairwise_append.mp hsorted).2.1 ha)

theorem row_le_faceOf {p : Plan} {row : Nat} {sd : Side} {l : Landed} (h1 : 1 ≤ row) (h13 : row ≤ 13)
    (hl : .landed l ∈ stackAt p row sd) : row ≤ faceOf p := by
  refine (faceOf_spec p).1 row h1 h13 ?_
  have hst : holdsLanded (stackAt p row sd) = true := (holdsLanded_iff _).mpr ⟨l, hl⟩
  cases sd <;> simp [rowHoldsLanded, hst]

theorem exists_landed_of_faceOf {p : Plan} (h : faceOf p ≠ 0) : ∃ sd l, .landed l ∈ stackAt p (faceOf p) sd := by
  obtain ⟨-, -, hrow⟩ := (faceOf_spec p).2 h
  obtain hs | hs := (Bool.or_eq_true _ _).mp hrow
  · exact ⟨.left, (holdsLanded_iff _).mp hs⟩
  · exact ⟨.right, (holdsLanded_iff _).mp hs⟩

/-- The rows of the open band are rows of the trailer. -/
theorem mem_openBand {face row : Nat} (h : row ∈ openBand face) : 1 ≤ row ∧ row ≤ 13 := by
  unfold openBand at h
  split at h
  · simp at h; omega
  · split at h
    · simp at h; omega
    · simp at h; omega

/-- Where each row holds landed pallets as before, and reservations only where it held some, face row and band stand. -/
theorem PlanFits.of_rows {p q : Plan} (h : PlanFits p) (hc : ContentsFit q) (hf : q.face = p.face)
    (hl : ∀ row sd, 1 ≤ row → row ≤ 13 → holdsLanded (stackAt q row sd) = holdsLanded (stackAt p row sd))
    (hr : ∀ row sd r, 1 ≤ row → row ≤ 13 → .reserved r ∈ stackAt q row sd → ∃ r', .reserved r' ∈ stackAt p row sd) :
    PlanFits q where
  stacked := hc.stacked
  payload := hc.payload
  face := hf.trans (h.face.trans (faceOf_congr hl).symm)
  band row sd r h1 h13 hq := by
    obtain ⟨r', hp⟩ := hr row sd r h1 h13 hq
    exact hf ▸ h.band row sd r' h1 h13 hp

/-! ## A reservation dropped (R104) -/

section
variable (c : TrailerClass) (p : Plan) (row : Nat) (sd : Side)

theorem dropTopReservation_none (h : topReservation (stackAt p row sd) = none) :
    dropTopReservation c p row sd = p := by
  rw [dropTopReservation, h]

theorem dropTopReservation_some {r : Reservation} (h : topReservation (stackAt p row sd) = some r) :
    dropTopReservation c p row sd = addWeight c (popTier p row sd) row (-(r.grant : Int)) := by
  rw [dropTopReservation, h]

@[simp] theorem dropTopReservation_face : (dropTopReservation c p row sd).face = p.face := by
  cases h : topReservation (stackAt p row sd) with
  | none => rw [dropTopReservation_none c p row sd h]
  | some r => rw [dropTopReservation_some c p row sd h]; rfl

end

section
variable {p : Plan} (h : ContentsFit p) {row : Nat} (c : TrailerClass) {sd : Side}
include h

theorem ContentsFit.dropTop (hr : row ≤ 13) : ContentsFit (dropTopReservation c p row sd) := by
  cases ht : topReservation (stackAt p row sd) with
  | none => rwa [dropTopReservation_none c p row sd ht]
  | some r =>
    rw [dropTopReservation_some c p row sd ht]
    obtain ⟨below, hb⟩ := topReservation_eq_some.mp ht
    exact h.pop hr c hb

/-- A position whose reservation is dropped keeps its landed part, and every other its stack. -/
theorem ContentsFit.stackAt_dropTop (h1 : 1 ≤ row) (hr : row ≤ 13) {n : Nat} (hn : 1 ≤ n) (sd' : Side) :
    stackAt (dropTopReservation c p row sd) n sd' =
      if row = n ∧ sd = sd' then landedPart (stackAt p row sd) else stackAt p n sd' := by
  cases ht : topReservation (stackAt p row sd) with
  | none =>
    rw [dropTopReservation_none c p row sd ht, (h.stack hr sd).landedPart_of_none ht]
    split
    · rename_i e
      rw [e.1, e.2]
    · rfl
  | some r =>
    obtain ⟨below, hb⟩ := topReservation_eq_some.mp ht
    have hl : landedPart (stackAt p row sd) = (stackAt p row sd).dropLast := by
      rw [hb, List.dropLast_concat]
      exact StackFits.landedPart_of_top (hb ▸ h.stack hr sd)
    rw [dropTopReservation_some c p row sd ht, stackAt_addWeight, popTier,
      stackAt_setStack p row n sd sd' _ h1 hr hn, hl]

end

/-! ## Several reservations dropped -/

/-- The reservations at some positions dropped, one after the other (R87 step 2, R166 step 1). -/
def dropAll (c : TrailerClass) (p : Plan) (l : List (Nat × Side × Reservation)) : Plan :=
  l.foldl (fun q x => dropTopReservation c q x.1 x.2.1) p

theorem dropAll_cons (c : TrailerClass) (p : Plan) (x : Nat × Side × Reservation)
    (l : List (Nat × Side × Reservation)) :
    dropAll c p (x :: l) = dropAll c (dropTopReservation c p x.1 x.2.1) l := rfl

@[simp] theorem dropAll_face (c : TrailerClass) (p : Plan) (l : List (Nat × Side × Reservation)) :
    (dropAll c p l).face = p.face := by
  induction l generalizing p with
  | nil => rfl
  | cons x l ih => rw [dropAll_cons, ih, dropTopReservation_face]

/-- The positions of some reservations. -/
def heldAt (l : List (Nat × Side × Reservation)) : List (Nat × Side) := l.map fun x => (x.1, x.2.1)

/-- Every one of a list stands in a row of the trailer. -/
def InTrailer (l : List (Nat × Side × Reservation)) : Prop := ∀ x ∈ l, 1 ≤ x.1 ∧ x.1 ≤ 13

section
variable {p : Plan} (h : ContentsFit p) (c : TrailerClass) {l : List (Nat × Side × Reservation)}
  (hl : InTrailer l)
include h hl

theorem ContentsFit.dropAll : ContentsFit (dropAll c p l) := by
  induction l generalizing p with
  | nil => exact h
  | cons x l ih =>
    obtain ⟨hx, hl⟩ := List.forall_mem_cons.mp hl
    exact ih (h.dropTop c hx.2) hl

/-- Positions whose reservations are dropped keep their landed part, and every other its stack. -/
theorem ContentsFit.stackAt_dropAll {n : Nat} (hn : 1 ≤ n) (sd : Side) :
    stackAt (Machine.dropAll c p l) n sd =
      if (n, sd) ∈ heldAt l then landedPart (stackAt p n sd) else stackAt p n sd := by
  induction l generalizing p with
  | nil => rfl
  | cons x l ih =>
    obtain ⟨row, sd', r⟩ := x
    obtain ⟨hx, hl⟩ := List.forall_mem_cons.mp hl
    rw [dropAll_cons, ih (h.dropTop c hx.2) hl, h.stackAt_dropTop c hx.1 hx.2 hn]
    have hmem : (n, sd) ∈ heldAt ((row, sd', r) :: l) ↔ (row = n ∧ sd' = sd) ∨ (n, sd) ∈ heldAt l := by
      rw [heldAt, List.map_cons, List.mem_cons, Prod.mk.injEq, eq_comm (a := n), eq_comm (a := sd)]
      rfl
    by_cases e : row = n ∧ sd' = sd
    · obtain ⟨rfl, rfl⟩ := e
      simp [hmem]
    · simp [hmem, e]

/-- Dropping reservations moves no face row. -/
theorem ContentsFit.faceOf_dropAll : faceOf (Machine.dropAll c p l) = faceOf p := by
  refine faceOf_congr fun row sd h1 _ => ?_
  rw [h.stackAt_dropAll c hl h1]
  split
  · exact holdsLanded_landedPart _
  · rfl

end

/-! ## After a change of contents (R87) -/

theorem mem_reservationsAt {p : Plan} {ps : List (Nat × Side)} {x : Nat × Side × Reservation} :
    x ∈ reservationsAt p ps ↔ (x.1, x.2.1) ∈ ps ∧ topReservation (stackAt p x.1 x.2.1) = some x.2.2 := by
  obtain ⟨row, sd, r⟩ := x
  simp only [reservationsAt, List.mem_filterMap, Option.map_eq_some_iff, Prod.mk.injEq, Prod.exists]
  constructor
  · rintro ⟨row, sd, hm, r, hr, rfl, rfl, rfl⟩
    exact ⟨hm, hr⟩
  · rintro ⟨hm, hr⟩
    exact ⟨row, sd, hm, r, hr, rfl, rfl, rfl⟩

/-- The reservations that step 2 of R87 drops: those outside the open band, face row judged. -/
def outsideBand (p : Plan) : List (Nat × Side × Reservation) :=
  reservationsAt p (allPositions.filter fun pos => !(openBand (faceOf p)).contains pos.1)

theorem restow_eq (c : TrailerClass) (p : Plan) : restow c p =
    { plan := withOver c (dropAll c { p with face := faceOf p } (outsideBand p))
      stranded := (outsideBand p).map fun x => x.2.2 } := rfl

theorem mem_outsideBand {p : Plan} {x : Nat × Side × Reservation} : x ∈ outsideBand p ↔
    (1 ≤ x.1 ∧ x.1 ≤ 13) ∧ x.1 ∉ openBand (faceOf p) ∧
      topReservation (stackAt p x.1 x.2.1) = some x.2.2 := by
  simp [outsideBand, mem_reservationsAt, mem_allPositions, and_assoc]

theorem outsideBand_inTrailer (p : Plan) : InTrailer (outsideBand p) := fun _ hx => (mem_outsideBand.mp hx).1

/-- The steps of R87 bring a plan whose contents are in form into form. -/
theorem ContentsFit.restow {p : Plan} (h : ContentsFit p) (c : TrailerClass) : PlanFits (restow c p).plan := by
  have h' : ContentsFit { p with face := faceOf p } := ⟨h.stacked, h.payload⟩
  have hl := outsideBand_inTrailer p
  have fit := h'.dropAll c hl
  have face := h'.faceOf_dropAll c hl
  rw [restow_eq]
  refine ⟨fit.stacked, fit.payload, ?_, fun row sd r h1 h13 hr => ?_⟩
  · exact (dropAll_face c _ _).trans face.symm
  · have hr : .reserved r ∈ stackAt (Machine.dropAll c { p with face := faceOf p } (outsideBand p)) row sd := hr
    have hb : (withOver c (Machine.dropAll c { p with face := faceOf p } (outsideBand p))).face = faceOf p :=
      dropAll_face c _ _
    rw [h'.stackAt_dropAll c hl h1] at hr
    rw [hb]
    by_contra hout
    split at hr
    · simp [mem_landedPart, isReserved] at hr
    · rename_i hn
      exact hn (List.mem_map_of_mem (f := fun x => (x.1, x.2.1))
        (mem_outsideBand (x := (row, sd, r)).mpr ⟨⟨h1, h13⟩, hout, (h.stack h13 sd).topReservation hr⟩))

/-- A plan in form whose face row and band stand strands nothing; only OVER is judged again. -/
theorem PlanFits.restow {p : Plan} (h : PlanFits p) (c : TrailerClass) :
    Machine.restow c p = { plan := withOver c p, stranded := [] } := by
  have hnil : outsideBand p = [] := by
    refine List.eq_nil_iff_forall_not_mem.mpr fun x hx => ?_
    obtain ⟨⟨h1, h13⟩, hout, htop⟩ := mem_outsideBand.mp hx
    obtain ⟨below, hb⟩ := topReservation_eq_some.mp htop
    exact hout (h.face ▸ h.band x.1 x.2.1 x.2.2 h1 h13 (by simp [hb]))
  have hface : { p with face := faceOf p } = p := by rw [← h.face]
  rw [restow_eq, hnil, hface]
  rfl

end Sys2Proof.Machine
end

section
/-! PROOFS. The search for a spot in the open band (O49): its order, what a spot named by it meets, and why none is
named (R86, R88 to R90, R102, R107). -/

namespace Sys2Proof.Machine

/-! ## Candidates (R88, R90) -/

/-- The fourth test of R88. -/
theorem restsOn_iff {w : Option Nat} {stackable : Bool} {st : List Tier} : restsOn w stackable st = true ↔
    ∀ x, st.getLast? = some x → stackable = true ∧
      ∃ l, x = .landed l ∧ l.stackable = true ∧ ∀ n, w = some n → n ≤ l.grant := by
  unfold restsOn
  rcases st.getLast? with _ | l | r
  · simp
  · cases w <;> simp [and_comm, and_assoc]
  · simp

theorem isCandidate_iff {c : TrailerClass} {h : HeightClass} {stackable : Bool} {w : Option Nat} {st : List Tier} :
    isCandidate c h stackable w st = true ↔
      (∀ x ∈ st, isReserved x = false) ∧ st.length < 3 ∧ stackHeight st + nominalHeight h ≤ c.h ∧
        restsOn w stackable st = true := by
  simp [isCandidate, and_assoc]

theorem reservationBlocked_iff {c : TrailerClass} {h : HeightClass} {stackable : Bool} {w : Nat} {st : List Tier} :
    reservationBlocked c h stackable w st = true ↔
      (∃ r, st.getLast? = some (.reserved r)) ∧ isCandidate c h stackable (some w) st.dropLast = true := by
  rw [reservationBlocked, Bool.and_eq_true, topReservation_isSome]

/-! ## The order of the band (R86) -/

/-- A position comes before another: in a row before its row, or LEFT of it in the same row. -/
def ComesBefore (a b : Nat × Side) : Prop := a.1 < b.1 ∨ a.1 = b.1 ∧ a.2 = .left ∧ b.2 = .right

theorem openBand_cases (face : Nat) : (face = 0 ∧ openBand face = [1]) ∨ (13 ≤ face ∧ openBand face = [13]) ∨
    (1 ≤ face ∧ face ≤ 12 ∧ openBand face = [face, face + 1]) := by
  unfold openBand
  split
  · exact .inl ⟨‹_›, rfl⟩
  · split
    · exact .inr (.inl ⟨‹_›, rfl⟩)
    · exact .inr (.inr ⟨by omega, by omega, rfl⟩)

theorem bandPositions_pairwise (p : Plan) : (bandPositions p).Pairwise ComesBefore := by
  unfold bandPositions
  obtain ⟨-, e⟩ | ⟨-, e⟩ | ⟨-, -, e⟩ := openBand_cases p.face <;> rw [e] <;> simp [positionsIn, ComesBefore]

theorem mem_bandPositions {p : Plan} {pos : Nat × Side} : pos ∈ bandPositions p ↔ pos.1 ∈ openBand p.face :=
  mem_positionsIn

/-- The first of a list in order that meets a test comes before every other that meets it. -/
theorem first_comesBefore {l : List (Nat × Side)} {f : Nat × Side → Bool} {a b : Nat × Side}
    (hl : l.Pairwise ComesBefore) (ha : l.find? f = some a) (hb : b ∈ l) (hf : f b = true) :
    b = a ∨ ComesBefore a b := by
  obtain ⟨-, before, after, rfl, hbefore⟩ := List.find?_eq_some_iff_append.mp ha
  obtain hm | hm := List.mem_append.mp hb
  · have := hbefore b hm
    simp [hf] at this
  · obtain rfl | hm := List.mem_cons.mp hm
    · exact .inl rfl
    · exact .inr (List.rel_of_pairwise_cons (List.pairwise_append.mp hl).2.1 hm)

/-! ## The outcomes of the search (R89, R90) -/

section
variable {c : TrailerClass} {p : Plan} {w : Nat} {h : HeightClass} {stackable : Bool}

/-- The candidates of the open band, in its order. -/
def bandCandidates (c : TrailerClass) (p : Plan) (w : Nat) (h : HeightClass) (stackable : Bool) :
    List (Nat × Side) :=
  (bandPositions p).filter fun pos => isCandidate c h stackable (some w) (stackAt p pos.1 pos.2)

theorem bandCandidates_pairwise : (bandCandidates c p w h stackable).Pairwise ComesBefore :=
  (bandPositions_pairwise p).filter _

theorem mem_bandCandidates {pos : Nat × Side} : pos ∈ bandCandidates c p w h stackable ↔
    pos ∈ bandPositions p ∧ isCandidate c h stackable (some w) (stackAt p pos.1 pos.2) = true := by
  simp [bandCandidates]

theorem bandCandidates_nil (hn : bandCandidates c p w h stackable = []) : ∀ pos ∈ bandPositions p,
    isCandidate c h stackable (some w) (stackAt p pos.1 pos.2) = false := by
  simpa [bandCandidates] using hn

theorem exists_bandCandidate (hn : bandCandidates c p w h stackable ≠ []) : ∃ pos ∈ bandPositions p,
    isCandidate c h stackable (some w) (stackAt p pos.1 pos.2) = true := by
  obtain ⟨pos, hpos⟩ := List.exists_mem_of_ne_nil _ hn
  exact ⟨pos, mem_bandCandidates.mp hpos⟩

theorem grossFits_iff {payload : Int} : grossFits c payload w = true ↔ c.k0 + c.b0 + (payload + w) ≤ c.gmax := by
  simp [grossFits]

/-- What the search answers, test by test. -/
theorem searchSpot_cases (c : TrailerClass) (p : Plan) (w : Nat) (h : HeightClass) (stackable : Bool) :
    (bandCandidates c p w h stackable = [] ∧
      ((∃ pos ∈ bandPositions p, reservationBlocked c h stackable w (stackAt p pos.1 pos.2) = true) ∧
          searchSpot c p w h stackable = .nowhere .busy ∨
        (∀ pos ∈ bandPositions p, reservationBlocked c h stackable w (stackAt p pos.1 pos.2) = false) ∧
          searchSpot c p w h stackable = .nowhere .full)) ∨
    (bandCandidates c p w h stackable ≠ [] ∧
      (grossFits c p.payload w = false ∧ searchSpot c p w h stackable = .nowhere .gross ∨
        grossFits c p.payload w = true ∧
          ((∀ pos ∈ bandCandidates c p w h stackable, axlesFit c p.payload p.moment pos.1 w = false) ∧
              searchSpot c p w h stackable = .nowhere .axle ∨
            ∃ pos, (bandCandidates c p w h stackable).find?
                (fun pos => axlesFit c p.payload p.moment pos.1 w) = some pos ∧
              searchSpot c p w h stackable =
                .spot pos.1 pos.2 ((stackAt p pos.1 pos.2).length + 1)))) := by
  by_cases hn : bandCandidates c p w h stackable = []
  · refine .inl ⟨hn, ?_⟩
    have hs : searchSpot c p w h stackable =
        if (bandPositions p).any fun pos => reservationBlocked c h stackable w (stackAt p pos.1 pos.2)
        then .nowhere .busy else .nowhere .full := if_pos hn
    rw [hs]
    split
    · exact .inl ⟨List.any_eq_true.mp ‹_›, rfl⟩
    · rename_i hb
      exact .inr ⟨by simpa using hb, rfl⟩
  · refine .inr ⟨hn, ?_⟩
    have hs : searchSpot c p w h stackable = if !grossFits c p.payload w then .nowhere .gross else
        match (bandCandidates c p w h stackable).find? fun pos => axlesFit c p.payload p.moment pos.1 w with
        | some pos => .spot pos.1 pos.2 ((stackAt p pos.1 pos.2).length + 1)
        | none => .nowhere .axle := if_neg hn
    cases hg : grossFits c p.payload w with
    | false => exact .inl ⟨rfl, by rw [hs, hg]; rfl⟩
    | true =>
      refine .inr ⟨rfl, ?_⟩
      cases hf : (bandCandidates c p w h stackable).find? fun pos => axlesFit c p.payload p.moment pos.1 w with
      | none =>
        exact .inl ⟨fun pos hpos => by simpa using List.find?_eq_none.mp hf pos hpos, by rw [hs, hg, hf]; rfl⟩
      | some pos => exact .inr ⟨pos, rfl, by rw [hs, hg, hf]; rfl⟩

/-- A spot named by the search is a candidate of the open band, at the tier above its stack; it passes the checks of
R107, and no candidate that does comes before it. -/
theorem searchSpot_spot {row tier : Nat} {sd : Side} (hs : searchSpot c p w h stackable = .spot row sd tier) :
    row ∈ openBand p.face ∧ isCandidate c h stackable (some w) (stackAt p row sd) = true ∧
      tier = (stackAt p row sd).length + 1 ∧ grossFits c p.payload w = true ∧
      axlesFit c p.payload p.moment row w = true ∧
      ∀ pos ∈ bandPositions p, isCandidate c h stackable (some w) (stackAt p pos.1 pos.2) = true →
        axlesFit c p.payload p.moment pos.1 w = true → pos = (row, sd) ∨ ComesBefore (row, sd) pos := by
  obtain ⟨-, ⟨-, e⟩ | ⟨-, e⟩⟩ | ⟨-, ⟨-, e⟩ | ⟨hg, ⟨-, e⟩ | ⟨pos, hf, e⟩⟩⟩ := searchSpot_cases c p w h stackable <;>
    rw [e] at hs <;> cases hs
  obtain ⟨hband, hcand⟩ := mem_bandCandidates.mp (List.mem_of_find?_eq_some hf)
  have haxles : axlesFit c p.payload p.moment pos.1 w = true :=
    (List.find?_eq_some_iff_append.mp hf).1
  refine ⟨mem_bandPositions.mp hband, hcand, rfl, hg, haxles, fun q hq hc ha => ?_⟩
  have hq' : q ∈ bandCandidates c p w h stackable := mem_bandCandidates.mpr ⟨hq, hc⟩
  exact first_comesBefore bandCandidates_pairwise hf hq' ha

/-- Without a spot the reason says which test failed (R90, R107). -/
theorem searchSpot_nowhere {reason : RefuseReason} (hs : searchSpot c p w h stackable = .nowhere reason) :
    (reason = .busy ∧
        (∀ pos ∈ bandPositions p, isCandidate c h stackable (some w) (stackAt p pos.1 pos.2) = false) ∧
        ∃ pos ∈ bandPositions p, reservationBlocked c h stackable w (stackAt p pos.1 pos.2) = true) ∨
      (reason = .full ∧
        (∀ pos ∈ bandPositions p, isCandidate c h stackable (some w) (stackAt p pos.1 pos.2) = false) ∧
        ∀ pos ∈ bandPositions p, reservationBlocked c h stackable w (stackAt p pos.1 pos.2) = false) ∨
      (reason = .gross ∧
        (∃ pos ∈ bandPositions p, isCandidate c h stackable (some w) (stackAt p pos.1 pos.2) = true) ∧
        c.gmax < c.k0 + c.b0 + (p.payload + w)) ∨
      (reason = .axle ∧
        (∃ pos ∈ bandPositions p, isCandidate c h stackable (some w) (stackAt p pos.1 pos.2) = true) ∧
        c.k0 + c.b0 + (p.payload + w) ≤ c.gmax ∧
        ∀ pos ∈ bandPositions p, isCandidate c h stackable (some w) (stackAt p pos.1 pos.2) = true →
          axlesFit c p.payload p.moment pos.1 w = false) := by
  obtain ⟨hn, ⟨hb, e⟩ | ⟨hb, e⟩⟩ | ⟨hn, ⟨hg, e⟩ | ⟨hg, ⟨ha, e⟩ | ⟨pos, hf, e⟩⟩⟩ :=
    searchSpot_cases c p w h stackable <;> rw [e] at hs <;> cases hs
  · exact .inl ⟨rfl, bandCandidates_nil hn, hb⟩
  · exact .inr (.inl ⟨rfl, bandCandidates_nil hn, hb⟩)
  · have hover : ¬ c.k0 + c.b0 + (p.payload + w) ≤ c.gmax := fun hle => by simp [grossFits_iff.mpr hle] at hg
    exact .inr (.inr (.inl ⟨rfl, exists_bandCandidate hn, by omega⟩))
  · exact .inr (.inr (.inr ⟨rfl, exists_bandCandidate hn, grossFits_iff.mp hg,
      fun pos hpos hc => ha pos (mem_bandCandidates.mpr ⟨hpos, hc⟩)⟩))

end

theorem axlesFit_iff {c : TrailerClass} {payload moment : Int} {row w : Nat} :
    axlesFit c payload moment row w = true ↔
      (loadsOf c (payload + w) (moment + w * rowDistance c row)).bogie ≤ c.bmax ∧
        (loadsOf c (payload + w) (moment + w * rowDistance c row)).kingpin ≤ c.kmax := by
  simp [axlesFit]

/-- An even pitch gives the distance of a row's centre line without rounding (R101, R102). -/
theorem two_mul_rowDistance (c : TrailerClass) (row : Nat) (h : c.p % 2 = 0) :
    2 * rowDistance c row = 2 * c.d + c.p * (2 * (row : Int) - 1) := by
  have hp : c.p = 2 * (c.p / 2) := by omega
  rw [rowDistance]
  linear_combination hp

/-- Settles O49: the tests of a candidate, the order of the band, and the outcomes of the search. -/
theorem spotsAreTheFirstThatFit : Obligations.SpotsAreTheFirstThatFit := by
  refine ⟨fun p row => ⟨rfl, rfl⟩, isReserved_iff, fun c h stackable w st => ?_, fun c h stackable w st => ?_,
    ⟨rfl, rfl, rfl, rfl, rfl, fun _ _ => rfl, fun _ _ => rfl⟩, ⟨rfl, rfl, fun face h1 h12 => ?_⟩, fun p => rfl,
    fun p => ⟨fun row sd l h1 h13 hl => row_le_faceOf h1 h13 hl, fun h =>
      ⟨((faceOf_spec p).2 h).2.1, exists_landed_of_faceOf h⟩⟩, two_mul_rowDistance,
    fun c p w h stackable row sd tier hs => ?_, fun c p w h stackable reason hs => searchSpot_nowhere hs⟩
  · rw [isCandidate_iff, restsOn_iff]
    simp only [not_isReserved_iff]
  · exact reservationBlocked_iff
  · obtain ⟨rfl, -⟩ | ⟨h13, -⟩ | ⟨-, -, e⟩ := openBand_cases face
    · omega
    · omega
    · exact e
  · obtain ⟨hband, hcand, htier, hgross, haxles, hfirst⟩ := searchSpot_spot hs
    obtain ⟨hlanded, hlen, hheight, hrests⟩ := isCandidate_iff.mp hcand
    obtain ⟨hbogie, hkingpin⟩ := axlesFit_iff.mp haxles
    refine ⟨hband, hlanded, htier, by omega, hheight, fun x hx => ?_, grossFits_iff.mp hgross, hbogie, hkingpin,
      fun pos hpos hc ha => ?_⟩
    · obtain ⟨hstack, l, hl, hls, hw⟩ := restsOn_iff.mp hrests x hx
      exact ⟨hstack, l, hl, hls, hw w rfl⟩
    · obtain rfl | hlt | ⟨hrow, -, hright⟩ := hfirst pos hpos hc ha
      · exact .inr ⟨rfl, id⟩
      · exact .inl hlt
      · exact .inr ⟨hrow, fun _ => hright⟩

end Sys2Proof.Machine
end

section
/-! PROOFS. The load plan unit after a reset (O19): the table of R100. -/

namespace Sys2Proof.Machine

/-- Settles O19: either reset leaves the reset values of the LPU and an empty transmit queue. -/
theorem lpuAfterReset : Obligations.LpuAfterReset := by
  intro c s h
  obtain ⟨t, ht, has, -⟩ := exec_anyReset h
  have hplan : t.plan = absentPlan := congrArg Lpu.plan has.lpu
  refine ⟨t, ht, ?_⟩
  rw [hplan, has.lpu, has.fbi]
  exact ⟨rfl, stackAt_absentPlan, by simp, rfl, rfl, rfl, rfl, rfl, rfl, rfl, rfl, rfl, rfl, rfl⟩

end Sys2Proof.Machine
end

section
/-! PROOFS. The plan of a state: the operations that leave it, the plan after a change of contents, and the changes that
the events of the load plan unit make to it (R87, R104, R115 to R128). -/

namespace Sys2Proof.Machine

/-! ## Operations that leave the plan -/

@[simp] theorem allBut_lpu_fbi : allBut .lpu .fbi = true := by decide
@[simp] theorem allBut_lpu_dsu : allBut .lpu .dsu = true := by decide
@[simp] theorem allBut_lpu_mlu : allBut .lpu .mlu = true := by decide

theorem State.plan_of_lpu {s t : State} (h : t.lpu = s.lpu) : t.plan = s.plan := congrArg Lpu.plan h

theorem Only.plan_eq {s t : State} (h : Only (allBut .lpu) s t) : t.plan = s.plan := State.plan_of_lpu (h .lpu rfl)

section
variable (s : State)

@[simp] theorem State.setPlan_plan (p : Plan) : (s.setPlan p).plan = p := rfl

@[simp] theorem State.raiseIf_plan (b : Bool) (k : NoticeKind) : (s.raiseIf b k).plan = s.plan :=
  Only.plan_eq (by simp)

@[simp] theorem State.offerAnswer_plan (o : Owner) (n : Nat) (b : Body) : (s.offerAnswer o n b).plan = s.plan :=
  Only.plan_eq (by simp)

@[simp] theorem State.lpuOwe_plan (f : OwnedFrame) : (s.lpuOwe f).plan = s.plan := by
  obtain ⟨-, e⟩ | ⟨-, e⟩ := s.lpuOwe_cases f <;> simp [e, State.plan]

@[simp] theorem State.lpuOweClose_plan (f : OwnedFrame) : (s.lpuOweClose f).plan = s.plan := by
  obtain e | ⟨_, -, -, e⟩ := s.lpuOweClose_cases f <;> simp [e, State.plan]

@[simp] theorem State.lpuOffer_plan (n : Nat) (b : Body) : (s.lpuOffer n b).plan = s.plan := by
  obtain ⟨-, e⟩ | ⟨-, e⟩ | ⟨-, e⟩ := s.lpuOffer_cases n b <;> simp [e]

@[simp] theorem State.lpuOfferClose_plan (b : CloseBody) : (s.lpuOfferClose b).plan = s.plan := by
  obtain ⟨-, e⟩ | ⟨-, e⟩ | ⟨-, e⟩ := s.lpuOfferClose_cases b <;> simp [e]

@[simp] theorem State.giveUp_plan (x : ReleaseReason) (r : Reservation) : (s.giveUp x r).plan = s.plan := by
  unfold State.giveUp
  split <;> simp

@[simp] theorem State.giveUpAll_plan (x : ReleaseReason) (l : List Reservation) :
    (s.giveUpAll x l).plan = s.plan := by
  induction l generalizing s with
  | nil => rfl
  | cons r l ih => exact (ih _).trans (s.giveUp_plan x r)

@[simp] theorem State.reportIfEmpty_plan : s.reportIfEmpty.plan = s.plan := Only.plan_eq (by simp)

@[simp] theorem State.announcePlaced_plan (a b c : Nat) (sd : Side) (d : Nat) :
    (s.announcePlaced a b c sd d).plan = s.plan := by
  simp [State.announcePlaced]

@[simp] theorem State.formClosing_plan (b : Bool) : (s.formClosing b).plan = s.plan := by
  rw [State.formClosing]
  exact (State.lpuOfferClose_plan _ _).trans (State.raiseIf_plan _ _ _)

@[simp] theorem State.storePlan_plan (p : Plan) : (s.storePlan p).plan = p := by simp [State.storePlan]

/-- The plan after a change of contents is the changed one after the steps of R87. -/
theorem State.changePlan_plan (p : Plan) {f : State → State} (hf : ∀ u, (f u).plan = u.plan)
    (l : List Reservation) : (s.changePlan p f l).plan = (restow s.planClass p).plan := by
  simp [State.changePlan, hf]

end

/-! ## Where a reservation and a landed pallet stand -/

/-- The top of a stack, told by its place. -/
theorem eq_append_of_getElem? {st : List Tier} {n : Nat} {t : Tier} (h : st[n]? = some t) (hn : n + 1 = st.length) :
    ∃ below, st = below ++ [t] ∧ below.length = n := by
  have hlast : st.getLast? = some t := by
    rw [List.getLast?_eq_getElem?, ← hn]
    exact h
  obtain ⟨below, rfl⟩ := List.getLast?_eq_some_iff.mp hlast
  exact ⟨below, rfl, by simpa using hn.symm⟩

/-- A reservation found in a plan in form is the top tier of its position (R84). -/
theorem ContentsFit.top_of_found {p : Plan} (h : ContentsFit p) {pallet : Nat} {x : Standing} {r : Reservation}
    (hx : findInPlan p pallet = some x) (hr : x.tier = .reserved r) :
    ∃ below, stackAt p x.row x.side = below ++ [.reserved r] := by
  obtain ⟨-, h13, ht, -⟩ := findInPlan_some hx
  exact topReservation_eq_some.mp ((h.stack h13 x.side).topReservation (hr ▸ List.mem_of_getElem? ht))

/-- The reservation of a pallet stands in a row of the trailer. -/
theorem State.findReservation_some {s : State} {pallet row : Nat} {sd : Side} {r : Reservation}
    (h : s.findReservation pallet = some (row, sd, r)) : 1 ≤ row ∧ row ≤ 13 := by
  unfold State.findReservation at h
  split at h
  · rename_i x hx
    obtain ⟨h1, h13, -, -⟩ := findInPlan_some hx
    split at h
    · cases h
      exact ⟨h1, h13⟩
    · cases h
  · cases h

/-! ## The verdict on an ask (R114) -/

/-- An ask is granted the spot that the search names. -/
theorem judgeAsk_grant {s : State} {a : PlaceAsk} {row tier : Nat} {sd : Side} {drop : Phase}
    (h : judgeAsk s a = .grant row sd tier drop) :
    searchSpot s.planClass s.plan a.weight a.height a.stackable = .spot row sd tier := by
  unfold judgeAsk judgeAccepted searchForAsk at h
  repeat' split at h
  all_goals cases h
  assumption

/-- An ask is granted again the reservation that its pallet has. -/
theorem judgeAsk_regrant {s : State} {a : PlaceAsk} {row tier : Nat} {sd : Side} {r : Reservation}
    (h : judgeAsk s a = .regrant row sd tier r) :
    ∃ x, findInPlan s.plan a.pallet = some x ∧ x.tier = .reserved r ∧ x.row = row ∧ x.side = sd := by
  unfold judgeAsk judgeAccepted searchForAsk at h
  repeat' split at h
  all_goals cases h
  exact ⟨_, ‹_›, ‹_›, rfl, rfl⟩

/-! ## The plan after each change of contents -/

section
variable {s : State} (h : ContentsFit s.plan)
include h

/-- A spot that a search named takes one more tier. -/
theorem ContentsFit.pushAtSpot {w : Nat} {hc : HeightClass} {b : Bool} {row tier : Nat} {sd : Side}
    (hs : searchSpot s.planClass s.plan w hc b = .spot row sd tier) (t : Tier) :
    ContentsFit (addWeight s.planClass (pushTier s.plan row sd t) row (tierWeight t)) := by
  obtain ⟨hband, hcand, -, -, -, -⟩ := searchSpot_spot hs
  obtain ⟨hlanded, hlen, -, -⟩ := isCandidate_iff.mp hcand
  exact h.push (mem_openBand hband).2 _ (Nat.le_of_lt_succ hlen) hlanded t

/-- R116: a reservation set at the spot found. -/
theorem ContentsFit.reserving {w : Nat} {hc : HeightClass} {b : Bool} {row tier : Nat} {sd : Side}
    (hs : searchSpot s.planClass s.plan w hc b = .spot row sd tier) (r : Reservation) :
    ContentsFit (planWithReservation s row sd r) := h.pushAtSpot hs (.reserved r)

/-- R124: a walk-in landed at the spot found. -/
theorem ContentsFit.walkin {w : Nat} {hc : HeightClass} {b : Bool} {row tier : Nat} {sd : Side}
    (hs : searchSpot s.planClass s.plan w hc b = .spot row sd tier) (r : PalletRead) (d : Phase) :
    ContentsFit (planWithWalkin s row sd r d) := h.pushAtSpot hs (.landed (walkinLanded r d))

/-- R121: a reservation landed. -/
theorem ContentsFit.landing {pallet : Nat} {x : Standing} {r : Reservation} (hx : findInPlan s.plan pallet = some x)
    (hr : x.tier = .reserved r) (m : Nat) : ContentsFit (planWithLanding s x.row x.side r m) := by
  obtain ⟨-, h13, -, -⟩ := findInPlan_some hx
  obtain ⟨below, hb⟩ := h.top_of_found hx hr
  have := h.swap h13 s.planClass hb (.landed (landedFrom r m))
  rwa [planWithLanding, hb, List.dropLast_concat]

/-- R126: a landed top removed. -/
theorem ContentsFit.without {pallet : Nat} {x : Standing} {l : Landed} (hx : findInPlan s.plan pallet = some x)
    (hl : x.tier = .landed l) (hn : x.beneath + 1 = (stackAt s.plan x.row x.side).length) :
    ContentsFit (planWithout s x.row x.side l) := by
  obtain ⟨-, h13, ht, -⟩ := findInPlan_some hx
  obtain ⟨below, hb, -⟩ := eq_append_of_getElem? ht hn
  exact h.pop h13 s.planClass (t := .landed l) (hl ▸ hb)

/-- R127: a landed pallet removed with the reservation above it. -/
theorem ContentsFit.withoutBoth {pallet : Nat} {x : Standing} {l : Landed} {r : Reservation}
    (hx : findInPlan s.plan pallet = some x) (hl : x.tier = .landed l)
    (hn : x.beneath + 2 = (stackAt s.plan x.row x.side).length)
    (hr : topReservation (stackAt s.plan x.row x.side) = some r) :
    ContentsFit (planWithoutBoth s x.row x.side l) := by
  obtain ⟨h1, h13, ht, -⟩ := findInPlan_some hx
  obtain ⟨below, hb⟩ := topReservation_eq_some.mp hr
  have hlen : x.beneath + 1 = below.length := by simpa [hb] using hn
  rw [hb, List.getElem?_append_left (by omega)] at ht
  obtain ⟨below', hb', -⟩ := eq_append_of_getElem? ht hlen
  have hst : stackAt (dropTopReservation s.planClass s.plan x.row x.side) x.row x.side = below' ++ [.landed l] := by
    rw [h.stackAt_dropTop s.planClass h1 h13 h1, if_pos ⟨rfl, rfl⟩, hb, ← hl, ← hb']
    exact StackFits.landedPart_of_top (hb ▸ h.stack h13 x.side)
  exact (h.dropTop s.planClass h13).pop h13 s.planClass hst

end

/-- R115: a reservation given another ask sequence leaves the plan in form. -/
theorem PlanFits.withReservationSeq {p : Plan} (h : PlanFits p) {row : Nat} (h1 : 1 ≤ row) (h13 : row ≤ 13)
    {sd : Side} {below : List Tier} {r : Reservation} (hb : stackAt p row sd = below ++ [.reserved r])
    (q : Option Nat) : PlanFits (Machine.withReservationSeq p row sd q r) := by
  have hset : Machine.withReservationSeq p row sd q r =
      setStack p row sd (below ++ [.reserved { r with seq := q }]) := by
    rw [Machine.withReservationSeq, hb, List.dropLast_concat]
  have hst (n : Nat) (sd' : Side) (hn : 1 ≤ n) := stackAt_setStack p row n sd sd'
    (below ++ [.reserved { r with seq := q }]) h1 h13 hn
  have hfit := h.contents.swap h13 defaultClass hb (.reserved { r with seq := q })
  have hzero : (tierWeight (.reserved { r with seq := q }) : Int) - tierWeight (.reserved r) = 0 := Int.sub_self _
  have hpay := hfit.payload
  rw [hzero, contentsWeight_addWeight] at hpay
  rw [hset]
  refine h.of_rows ⟨hfit.stacked, (Int.add_zero _).symm.trans hpay⟩ rfl (fun n sd' hn _ => ?_)
    fun n sd' x hn _ hx => ?_
  · rw [hst n sd' hn]
    split
    · rename_i e
      rw [← e.1, ← e.2, hb]
      simp [holdsLanded, isReserved]
    · rfl
  · rw [hst n sd' hn] at hx
    split at hx
    · rename_i e
      exact ⟨r, by rw [← e.1, ← e.2, hb]; simp⟩
    · exact ⟨x, hx⟩

end Sys2Proof.Machine
end

section
/-! PROOFS. The form of the load plan is kept by every step (O11): by the events of the load plan unit, and by those in
which frames leave the queue or the phase is switched. -/

namespace Sys2Proof.Machine

/-! ## Changes of contents -/

/-- The form of a plan does not speak of its state, class, destinations, phase and marks. -/
theorem PlanFits.of_contents {p q : Plan} (h : PlanFits p) (hs : q.floorStacks = p.floorStacks)
    (hp : q.payload = p.payload) (hf : q.face = p.face) : PlanFits q := by
  have hst (row : Nat) (sd : Side) : stackAt q row sd = stackAt p row sd := by rw [stackAt, stackAt, hs]
  refine h.of_rows ⟨hs ▸ h.stacked, ?_⟩ hf (fun row sd _ _ => by rw [hst]) fun row sd r _ _ hr => ⟨r, hst row sd ▸ hr⟩
  rw [hp, h.payload, contentsWeight, contentsWeight, hs]

/-- A change of contents brings contents in form into form, whatever its answer (R87). -/
theorem ContentsFit.changePlan {s : State} {p : Plan} (h : ContentsFit p) {f : State → State}
    (hf : ∀ u, (f u).plan = u.plan) (l : List Reservation) : PlanFits (s.changePlan p f l).plan := by
  rw [State.changePlan_plan s p hf]
  exact h.restow _

section
variable {s : State} (h : PlanFits s.plan)
include h

theorem PlanFits.removeReservation {row : Nat} (h13 : row ≤ 13) (sd : Side) {f : State → State}
    (hf : ∀ u, (f u).plan = u.plan) : PlanFits (s.removeReservation row sd f).plan :=
  (h.contents.dropTop s.planClass h13).changePlan hf []

theorem PlanFits.land {r : PalletRead} {x : Standing} {res : Reservation} (hx : findInPlan s.plan r.pallet = some x)
    (hr : x.tier = .reserved res) (tier : Nat) : PlanFits (s.land r x.row x.side tier res).plan := by
  rw [State.land, State.indicate_plan]
  exact (h.contents.landing hx hr (landingWeight r res)).changePlan (fun u => u.announcePlaced_plan _ _ _ _ _) []

theorem PlanFits.judgeWalkin (r : PalletRead) : PlanFits (s.judgeWalkin r).plan := by
  unfold State.judgeWalkin
  repeat' split
  · exact h
  · exact h
  · rw [State.landWalkin, State.indicate_plan]
    exact (h.contents.walkin ‹_› r _).changePlan (fun u => u.announcePlaced_plan _ _ _ _ _) []
  all_goals exact h

theorem PlanFits.removeLanded {pallet : Nat} {x : Standing} {l : Landed} (hx : findInPlan s.plan pallet = some x)
    (hl : x.tier = .landed l) : PlanFits (s.removeLanded x l).plan := by
  have mismatch : PlanFits s.mismatchRead.plan := h.of_contents rfl rfl rfl
  unfold State.removeLanded
  dsimp only
  split
  · exact mismatch
  · split
    · exact (h.contents.without hx hl ‹_›).changePlan (fun _ => rfl) []
    · split
      · split
        · exact (h.contents.withoutBoth hx hl ‹_› ‹_›).changePlan (fun _ => rfl) _
        · exact mismatch
      · exact mismatch

/-- R166 step 1: each reservation released in its turn. -/
theorem PlanFits.releaseEvery (x : ReleaseReason) : PlanFits (s.releaseEvery x).plan := by
  unfold State.releaseEvery
  have hl : InTrailer (allReservations s.plan) := fun y hy => mem_allPositions.mp (mem_reservationsAt.mp hy).1
  generalize allReservations s.plan = l at hl
  induction l generalizing s with
  | nil => exact h
  | cons y l ih =>
    obtain ⟨hy, hl⟩ := List.forall_mem_cons.mp hl
    exact ih (h.removeReservation hy.2 _ fun u => u.giveUp_plan _ _) hl

/-! ## Frames that leave the queue -/

theorem PlanFits.lpuGrantFailed (b : GrantBody) : PlanFits (s.lpuGrantFailed b).plan := by
  unfold State.lpuGrantFailed
  split
  · split
    · exact h.removeReservation (State.findReservation_some ‹_›).2 _ fun _ => rfl
    · exact h
  · exact h

theorem PlanFits.grantFailed (o : Owner) (b : GrantBody) : PlanFits (s.grantFailed o b).plan := by
  cases o with
  | lpu => exact h.lpuGrantFailed b
  | mlu => exact (Only.plan_eq (by simp : Only (allBut .lpu) s (s.mluGrantFailed b))) ▸ h
  | dsu => exact h

end

section
variable (s : State)

theorem State.askFailed_plan (o : Owner) (a : AskBody) : (s.askFailed o a).plan = s.plan := by
  cases o with
  | lpu => rfl
  | mlu =>
    refine Only.plan_eq ?_
    simp only [State.askFailed, State.mluAskFailed]
    split <;> simp
  | dsu =>
    refine Only.plan_eq (only_onRecord _ _ fun i r => ?_)
    split <;> simp

theorem State.oweAgain_plan (f : OwnedFrame) : (s.oweAgain f).plan = s.plan := by
  unfold State.oweAgain
  split
  · split <;> simp
  · exact Only.plan_eq (by simp)
  · split
    · exact Only.plan_eq (by simp)
    · rfl

theorem State.serveFrame_plan (f : OwnedFrame) : (s.serveFrame f).plan = s.plan := by
  have hnote (u : State) (b : Body) : (u.noteAsk b).plan = u.plan := by cases b <;> rfl
  have howed : (s.noLongerOwed f).plan = s.plan := by
    unfold State.noLongerOwed
    cases f.owner <;> rfl
  rw [State.serveFrame, State.setFbi_plan, hnote, State.placeFrame_plan, howed]

theorem State.serveOwed_plan (n : Nat) : (State.serveOwed n s).plan = s.plan := by
  induction n generalizing s with
  | zero => rfl
  | succ n ih =>
    unfold State.serveOwed
    repeat' split
    · exact (ih _).trans (s.serveFrame_plan _)
    · rfl
    · rfl

theorem State.spaceEvent_plan : s.spaceEvent.plan = s.plan := by
  unfold State.spaceEvent
  repeat' split
  · rfl
  · rfl
  · exact (State.serveOwed_plan _ _).trans (Only.plan_eq (by simp))

end

section
variable {s : State} (h : PlanFits s.plan)
include h

theorem PlanFits.tellFailed (o : Outgoing) : PlanFits (s.tellFailed o).plan := by
  cases o with
  | advert => exact h
  | owned f =>
    simp only [State.tellFailed, State.toldFailed]
    split
    · exact s.askFailed_plan _ _ ▸ h
    · exact h.grantFailed _ _
    · exact s.oweAgain_plan f ▸ h
    · exact s.oweAgain_plan f ▸ h
    · exact s.oweAgain_plan f ▸ h
    · exact h
    · exact h

theorem PlanFits.tellMuted (o : Outgoing) : PlanFits (s.tellMuted o).plan := by
  cases o with
  | advert => exact h
  | owned f =>
    simp only [State.tellMuted, State.toldMuted]
    split
    · exact s.askFailed_plan _ _ ▸ h
    · exact h.grantFailed _ _
    all_goals exact h

theorem PlanFits.setMute : PlanFits s.setMute.plan := by
  suffices ∀ (l : List Outgoing) (u : State), PlanFits u.plan → PlanFits (l.foldl State.tellMuted u).plan from
    this _ _ h
  intro l
  induction l with
  | nil => exact fun _ hu => hu
  | cons o l ih => exact fun u hu => ih _ (hu.tellMuted o)

theorem PlanFits.takeFrame (f : Frame) : PlanFits (s.takeFrame f).plan := by
  have hseq : (s.compareSequence f).plan = s.plan := Only.plan_eq (by simp)
  unfold State.takeFrame State.bayClash
  split
  · split
    · exact h
    · exact h.setMute
  · exact hseq ▸ h

end

/-! ## The commands -/

section
variable {s t : State} {f : State → State} (h : PlanFits s.plan)
include h

theorem PlanFits.afterEvent (hf : PlanFits (f s).plan) (he : event s f = .next t) : PlanFits t.plan := by
  cases he
  split
  · exact h
  · exact hf

theorem PlanFits.afterTaken {c : Instr} (hf : ∀ u : State, PlanFits u.plan → PlanFits (f u).plan)
    (he : taken c s f = .next t) : PlanFits t.plan := by
  cases he
  split
  · exact h
  · exact hf (s.drop c) h

end

/-- An event of the resets discards the plan or, where it takes no reset, leaves the LPU. -/
theorem exec_reset_lpu {c : Instr} {s t : State} (hc : takesReset c = true) (he : exec c s = .next t) :
    t.lpu = resetLpu ∨ t.lpu = s.lpu := by
  have reset (u : State) : u.floorReset.lpu = resetLpu := u.floorReset_asReset.lpu
  cases c <;> simp only [takesReset, Bool.false_eq_true] at hc <;> cases he
  case powerOnReset => exact .inl rfl
  case resetLineReleased =>
    split
    · exact .inl (reset _)
    · exact .inr rfl
  case floorResetTaken =>
    split
    · exact .inr rfl
    · exact .inl (reset s)
  case serviceAnswerSent =>
    split
    · exact .inr rfl
    · dsimp only
      split
      · exact .inr rfl
      · split
        · exact .inl (reset s)
        · exact .inr rfl

section
variable {s t : State} (h : PlanFits s.plan)
include h

/-- R114 to R116: an ask leaves the plan, gives a reservation a new sequence, or makes one at the spot found. -/
theorem PlanFits.exec_lpuAsk {n : Nat} {b : AskBody} (he : exec (.lpuAsk n b) s = .next t) : PlanFits t.plan := by
  rw [Machine.exec, execLpuAsk] at he
  refine h.afterTaken (fun u hu => ?_) he
  dsimp only
  split
  · rwa [State.offerAnswer_plan]
  · rename_i hj
    split
    · obtain ⟨x, hx, hr, rfl, rfl⟩ := judgeAsk_regrant hj
      obtain ⟨h1, h13, -, -⟩ := findInPlan_some hx
      obtain ⟨below, hb⟩ := hu.contents.top_of_found hx hr
      exact hu.withReservationSeq h1 h13 hb _
    · exact hu
  · rename_i hj
    split
    · exact (hu.contents.reserving (judgeAsk_grant hj) _).changePlan (fun v => v.offerAnswer_plan _ _ _) []
    · exact hu

theorem PlanFits.exec_ownTrailerAsk {a : OwnAsk} (he : exec (.ownTrailerAsk a) s = .next t) : PlanFits t.plan := by
  rw [Machine.exec, execOwnTrailerAsk] at he
  refine h.afterTaken (fun u hu => ?_) he
  split
  · exact hu
  · exact hu
  · rename_i hj
    exact (hu.contents.reserving (judgeAsk_grant hj) _).changePlan (fun v => v.hand_plan _) []

/-- Each event of the LPU keeps the plan in form, and so does each in which frames leave the queue. -/
theorem PlanFits.exec {c : Instr} (he : exec c s = .next t) : PlanFits t.plan := by
  by_cases hw : writesLpu c = false
  · rwa [State.plan_of_lpu (exec_leaves c s t he .lpu hw)]
  by_cases hc : takesReset c = true
  · obtain e | e := exec_reset_lpu hc he
    · have hplan : t.plan = absentPlan := congrArg Lpu.plan e
      exact hplan ▸ planFits_absentPlan
    · exact State.plan_of_lpu e ▸ h
  cases c with
  | lpuAsk n b => exact h.exec_lpuAsk he
  | ownTrailerAsk a => exact h.exec_ownTrailerAsk he
  | cardRead r =>
    rw [Machine.exec, execCardRead] at he
    refine h.afterEvent ?_ he
    repeat' split
    · exact h
    · exact h
    · exact h
    · unfold State.acceptCard
      rw [State.plan_of_lpu (State.farCutAtOnce_lpu _)]
      split <;> exact h
  | farCutExpiry =>
    rw [Machine.exec, execFarCutExpiry] at he
    refine h.afterTaken (fun u hu => ?_) he
    dsimp only
    repeat' split
    · unfold State.switchPhase
      dsimp only [State.plan]
      split
      · exact hu.of_contents rfl rfl rfl
      · exact hu
    · exact hu
    · exact hu
  | beginPlan cls near far ph =>
    rw [Machine.exec, execBeginPlan] at he
    refine h.afterTaken (fun u _ => ?_) he
    rw [State.raiseIf_plan]
    exact planFits_absentPlan.of_contents rfl rfl rfl
  | reservationExpiry p =>
    rw [Machine.exec, execReservationExpiry] at he
    refine h.afterTaken (fun u hu => ?_) he
    repeat' split
    · exact hu.removeReservation (State.findReservation_some ‹_›).2 _ fun v => v.giveUp_plan _ _
    · exact hu
    · exact hu
  | lpuRelease n b =>
    rw [Machine.exec, execLpuRelease] at he
    refine h.afterTaken (fun u hu => ?_) he
    repeat' split
    · exact hu.removeReservation (State.findReservation_some ‹_›).2 _ fun _ => rfl
    · exact hu
    · exact hu
  | ownDrainRelease p x =>
    rw [Machine.exec, execOwnDrainRelease] at he
    refine h.afterTaken (fun u hu => ?_) he
    repeat' split
    · exact hu.removeReservation (State.findReservation_some ‹_›).2 _ fun _ => rfl
    · exact hu
    · exact hu
  | lpuDoorReadInto r =>
    rw [Machine.exec, execLpuDoorReadInto] at he
    refine h.afterTaken (fun u hu => ?_) he
    repeat' split
    · exact hu.land ‹_› ‹_› _
    · exact hu
    · refine PlanFits.judgeWalkin ?_ r
      rwa [State.raiseIf_plan]
  | lpuDoorReadOut r =>
    rw [Machine.exec, execLpuDoorReadOut] at he
    refine h.afterTaken (fun u hu => ?_) he
    repeat' split
    · exact hu.removeLanded ‹_› ‹_›
    · exact hu
    · exact hu
    · exact hu
  | closeRequestClosed =>
    rw [Machine.exec, execCloseRequestClosed] at he
    refine h.afterTaken (fun u hu => ?_) he
    split
    · refine PlanFits.of_contents (p := ((u.releaseEvery .cutoff).formClosing false).plan) ?_ rfl rfl rfl
      rw [State.formClosing_plan]
      exact hu.releaseEvery _
    · exact hu
  | departureRequest =>
    rw [Machine.exec, execDepartureRequest] at he
    refine h.afterTaken (fun _ _ => ?_) he
    exact planFits_absentPlan
  | abortRequest =>
    rw [Machine.exec, execAbortRequest] at he
    refine h.afterTaken (fun _ _ => ?_) he
    exact planFits_absentPlan
  | clearHold =>
    rw [Machine.exec, execClearHold] at he
    cases he
    split
    · exact h
    · dsimp only
      split
      · exact h.of_contents rfl rfl rfl
      · exact h
  | frameSent =>
    rw [Machine.exec, execFrameSent] at he
    refine h.afterEvent ?_ he
    split
    · rw [State.spaceEvent_plan]
      exact h
    · exact h
  | collision =>
    rw [Machine.exec, execCollision] at he
    refine h.afterEvent ?_ he
    split
    · dsimp only
      split
      · exact h
      · rw [State.discardHead, State.spaceEvent_plan]
        refine PlanFits.tellFailed ?_ _
        exact h
    · exact h
  | frameTaking =>
    rw [Machine.exec, execFrameTaking] at he
    refine h.afterEvent ?_ he
    split
    · refine PlanFits.takeFrame ?_ _
      exact h
    · exact h
  | _ => first | exact absurd rfl hw | exact absurd rfl hc

end

/-- Settles O11: a step is a command of one of the two queues, or a millisecond of the lamps. -/
theorem planKeepsItsForm : Obligations.PlanKeepsItsForm := by
  intro s t h hs
  unfold step at hs
  split at hs
  · refine PlanFits.exec ?_ hs
    exact h
  · exact h.exec hs
  · cases hs
    unfold State.idle
    split <;> exact h

end Sys2Proof.Machine
end

section
/-! PROOFS. Frames that the load plan unit offers one after the other: placed while there is room, then owed up to 8 in
all, and dropped when muted (R31 to R33, R125, R130, R168). -/

namespace Sys2Proof.Machine

/-! ## Room in the transmit queue (R32, R33) -/

/-- The transmit queue refuses blocks' offers whatever its length (R33). -/
def State.refuses (s : State) : Bool :=
  s.reading || s.inState .listen || s.inState .unconfigured || s.fbi.restartMark

theorem State.offerResult_eq (s : State) : s.offerResult =
    if s.fbi.mute then .muted else if s.refuses || decide (12 ≤ s.fbi.tx.length) then .noRoom else .placed := rfl

theorem roomFor_eq (s : State) :
    roomFor s = if s.fbi.mute = false ∧ s.refuses = false then 12 - s.fbi.tx.length else 0 := by
  unfold roomFor
  rw [State.offerResult_eq]
  cases s.fbi.mute <;> cases s.refuses <;> simp
  omega

theorem State.offerResult_of_muted {s : State} (h : s.fbi.mute = true) : s.offerResult = .muted := by
  rw [State.offerResult_eq, h]
  rfl

/-- With room an offer is placed. -/
theorem State.offerResult_of_room {s : State} (h : 0 < roomFor s) : s.offerResult = .placed := by
  unfold roomFor at h
  by_contra hn
  simp [hn] at h

/-- Without room an offer that is not muted is refused. -/
theorem State.offerResult_of_noRoom {s : State} (hm : s.fbi.mute = false) (h : roomFor s = 0) :
    s.offerResult = .noRoom := by
  rw [State.offerResult_eq, hm]
  rw [roomFor_eq, hm] at h
  cases hr : s.refuses
  · simp [hr] at h ⊢
    omega
  · rfl

/-! ## Offers one after the other -/

/-- From one state to the next the LPU offers frames in order, each numbered as built, and no other block does. -/
structure LpuOffers (s t : State) (l : List OwnedFrame) : Prop where
  dcu : t.dcu = s.dcu
  mute : t.fbi.mute = s.fbi.mute
  mark : t.fbi.restartMark = s.fbi.restartMark
  closePlace : t.lpu.owedClose = s.lpu.owedClose
  frames : FramesOffered s t s.lpu.owed t.lpu.owed l
  serial : s.fbi.mute = false → t.serial = s.serial + l.length

/-- What touches neither the queue nor what the LPU owes offers nothing. -/
theorem LpuOffers.none {s t : State} (hd : t.dcu = s.dcu) (hf : t.fbi = s.fbi) (ho : t.lpu.owed = s.lpu.owed)
    (hc : t.lpu.owedClose = s.lpu.owedClose) (hs : t.serial = s.serial) : LpuOffers s t [] where
  dcu := hd
  mute := by rw [hf]
  mark := by rw [hf]
  closePlace := hc
  frames := ⟨fun _ => ⟨hf, ho⟩, fun _ => by simp [hf, ho]⟩
  serial _ := hs

/-- Muted, every frame is dropped, whatever it was. -/
theorem LpuOffers.congr {s t : State} {l m : List OwnedFrame} (h : LpuOffers s t l)
    (e : s.fbi.mute = false → l = m) : LpuOffers s t m where
  dcu := h.dcu
  mute := h.mute
  mark := h.mark
  closePlace := h.closePlace
  frames := ⟨h.frames.1, fun hm => e hm ▸ h.frames.2 hm⟩
  serial hm := e hm ▸ h.serial hm

/-- The room left behind the frames offered. -/
theorem LpuOffers.roomFor {s t : State} {l : List OwnedFrame} (h : LpuOffers s t l) (hm : s.fbi.mute = false) :
    roomFor t = roomFor s - l.length := by
  have hlen := congrArg List.length (h.frames.2 hm).1
  rw [List.length_append, List.length_map, List.length_take] at hlen
  have hrefuses : t.refuses = s.refuses := by
    simp only [State.refuses, State.reading, State.inState, h.dcu, h.mark]
  have hs := roomFor_eq s
  rw [roomFor_eq, h.mute, hrefuses]
  split at hs
  · simp_all
    omega
  · simp_all

theorem LpuOffers.trans {s t u : State} {l m : List OwnedFrame} (h : LpuOffers s t l) (g : LpuOffers t u m) :
    LpuOffers s u (l ++ m) where
  dcu := g.dcu.trans h.dcu
  mute := g.mute.trans h.mute
  mark := g.mark.trans h.mark
  closePlace := g.closePlace.trans h.closePlace
  frames := by
    refine ⟨fun hm => ?_, fun hm => ?_⟩
    · obtain ⟨hf, ho⟩ := h.frames.1 hm
      obtain ⟨gf, go⟩ := g.frames.1 (h.mute.trans hm)
      exact ⟨gf.trans hf, go.trans ho⟩
    · obtain ⟨hf, ho⟩ := h.frames.2 hm
      obtain ⟨gf, go⟩ := g.frames.2 (h.mute.trans hm)
      rw [h.roomFor hm] at gf go
      refine ⟨?_, ?_⟩
      · rw [gf, hf, List.take_append, List.map_append, List.append_assoc]
      · have hlen := congrArg List.length ho
        rw [List.length_append, List.length_take] at hlen
        have hleft : 8 - t.lpu.owed.length = 8 - s.lpu.owed.length - (l.drop (Machine.roomFor s)).length := by omega
        rw [go, ho, List.drop_append, List.take_append, List.append_assoc, ← ho, hleft]
  serial hm := by
    rw [g.serial (h.mute.trans hm), h.serial hm, List.length_append]
    omega

/-- A PLACED or RELEASE offered (R130). -/
theorem State.lpuOffer_offers (s : State) (n : Nat) (b : Body) : LpuOffers s (s.lpuOffer n b)
    [{ owner := .lpu, built := s.serial, target := n, body := b }] := by
  have dropped (h : s.fbi.mute = false) {P : Prop} (hm : s.fbi.mute = true) : P := by simp [h] at hm
  cases hm : s.fbi.mute
  case true =>
    have e : s.lpuOffer n b = s := by simp [State.lpuOffer, State.offerResult_of_muted hm]
    rw [e]
    exact ⟨rfl, rfl, rfl, rfl, ⟨fun _ => ⟨rfl, rfl⟩, fun h => dropped h hm⟩, fun h => dropped h hm⟩
  case false =>
    obtain hroom | hroom := Nat.eq_zero_or_pos (roomFor s)
    · have e : s.lpuOffer n b = s.bump.lpuOwe { owner := .lpu, built := s.serial, target := n, body := b } := by
        simp [State.lpuOffer, State.offerResult_of_noRoom hm hroom, State.frameNow]
      rw [e]
      obtain ⟨hl, e⟩ | ⟨hl, e⟩ := s.bump.lpuOwe_cases { owner := .lpu, built := s.serial, target := n, body := b }
      · have hl : 1 ≤ 8 - s.lpu.owed.length := Nat.le_sub_of_add_le' hl
        rw [e]
        refine ⟨rfl, rfl, rfl, rfl, ⟨dropped hm, fun _ => ⟨by simp [hroom], ?_⟩⟩, fun _ => rfl⟩
        rw [hroom, List.drop_zero, List.take_of_length_le hl]
        rfl
      · have hl : 8 - s.lpu.owed.length = 0 := Nat.sub_eq_zero_of_le hl
        rw [e]
        exact ⟨rfl, rfl, rfl, rfl, ⟨dropped hm, fun _ => ⟨by simp [hroom], by simp [hl]⟩⟩, fun _ => rfl⟩
    · have e : s.lpuOffer n b =
          s.bump.placeFrame (.owned { owner := .lpu, built := s.serial, target := n, body := b }) := by
        simp [State.lpuOffer, State.offerResult_of_room hroom, State.frameNow]
      rw [e]
      refine ⟨rfl, rfl, rfl, rfl, ⟨dropped hm, fun _ => ⟨?_, ?_⟩⟩, fun _ => rfl⟩
      · rw [List.take_of_length_le hroom]
        rfl
      · rw [List.drop_of_length_le hroom]
        simp

/-! ## A CLOSE offered behind other frames (R168) -/

/-- A CLOSE offered behind the frames of its event. -/
theorem LpuOffers.closesBehind {s t : State} {l : List OwnedFrame} (h : LpuOffers s t l) (c : CloseBody) :
    ClosesBehind s (t.lpuOfferClose c) l c := by
  refine ⟨fun hm => ?_, fun hm hroom => ?_, fun hm hroom => ?_⟩
  · obtain ⟨hf, ho⟩ := h.frames.1 hm
    have hmuted := State.offerResult_of_muted (h.mute.trans hm)
    have e : t.lpuOfferClose c = t := by simp [State.lpuOfferClose, hmuted]
    rw [e]
    exact ⟨hf, ho, h.closePlace⟩
  · obtain ⟨hf, ho⟩ := h.frames.2 hm
    have hplaced := State.offerResult_of_room (s := t) (by rw [h.roomFor hm]; omega)
    have e : t.lpuOfferClose c =
        t.bump.placeFrame (.owned { owner := .lpu, built := t.serial, target := 0, body := .close c }) := by
      simp [State.lpuOfferClose, hplaced, State.frameNow]
    rw [List.take_of_length_le (Nat.le_of_lt hroom)] at hf
    rw [List.drop_of_length_le (Nat.le_of_lt hroom)] at ho
    rw [e]
    refine ⟨?_, ho.trans (by simp), h.closePlace⟩
    rw [State.placeFrame_fbi, framePlaced, State.bump_fbi, hf, h.serial hm]
    simp
  · obtain ⟨hf, ho⟩ := h.frames.2 hm
    have hnoRoom := State.offerResult_of_noRoom (h.mute.trans hm) (by rw [h.roomFor hm]; omega)
    have e : t.lpuOfferClose c =
        t.bump.lpuOweClose { owner := .lpu, built := t.serial, target := 0, body := .close c } := by
      simp [State.lpuOfferClose, hnoRoom, State.frameNow]
    rw [e]
    refine ⟨(State.lpuOweClose_fbi _ _).symm ▸ hf, ?_, fun hclose => ?_⟩
    · obtain e' | ⟨_, -, -, e'⟩ := t.bump.lpuOweClose_cases
        { owner := .lpu, built := t.serial, target := 0, body := .close c } <;> rw [e'] <;> exact ho
    · have hfree : t.bump.lpu.owedClose = Option.none := h.closePlace.trans hclose
      rw [State.lpuOweClose, hfree, h.serial hm]

end Sys2Proof.Machine
end

section
/-! PROOFS. A plan whose reservations have all been released: what stands at each position, and the two sums (R104,
R166, R167). -/

namespace Sys2Proof.Machine

/-! ## What dropping reservations leaves of the plan -/

/-- A reservation dropped changes the stacks and the sums alone. -/
theorem dropTopReservation_eq (c : TrailerClass) (p : Plan) (row : Nat) (sd : Side) :
    ∃ v x m, dropTopReservation c p row sd = { p with floorStacks := v, payload := x, moment := m } := by
  cases h : topReservation (stackAt p row sd) with
  | none => exact ⟨_, _, _, dropTopReservation_none c p row sd h⟩
  | some r => exact ⟨_, _, _, dropTopReservation_some c p row sd h⟩

theorem dropAll_eq (c : TrailerClass) (p : Plan) (l : List (Nat × Side × Reservation)) :
    ∃ v x m, dropAll c p l = { p with floorStacks := v, payload := x, moment := m } := by
  induction l generalizing p with
  | nil => exact ⟨_, _, _, rfl⟩
  | cons y l ih =>
    obtain ⟨v, x, m, e⟩ := ih (dropTopReservation c p y.1 y.2.1)
    obtain ⟨v', x', m', e'⟩ := dropTopReservation_eq c p y.1 y.2.1
    exact ⟨v, x, m, by rw [dropAll_cons, e, e']⟩

/-- The positions that hold a reservation, in order. -/
theorem heldAt_reservationsAt (p : Plan) (ps : List (Nat × Side)) :
    heldAt (reservationsAt p ps) = ps.filter fun pos => (topReservation (stackAt p pos.1 pos.2)).isSome := by
  induction ps with
  | nil => rfl
  | cons pos ps ih =>
    rw [heldAt, reservationsAt] at ih ⊢
    cases h : topReservation (stackAt p pos.1 pos.2) <;> simp [h, ih]

theorem allReservations_inTrailer (p : Plan) : InTrailer (allReservations p) :=
  fun _ hx => mem_allPositions.mp (mem_reservationsAt.mp hx).1

theorem allReservations_nodup (p : Plan) : (heldAt (allReservations p)).Nodup := by
  rw [allReservations, heldAt_reservationsAt]
  exact allPositions_nodup.filter _

theorem mem_heldAt_allReservations {p : Plan} {row : Nat} {sd : Side} : (row, sd) ∈ heldAt (allReservations p) ↔
    (1 ≤ row ∧ row ≤ 13) ∧ (topReservation (stackAt p row sd)).isSome = true := by
  rw [allReservations, heldAt_reservationsAt, List.mem_filter, mem_allPositions]

/-- The reservations of a plan in form, by its tiers (R84). -/
theorem PlanFits.mem_reservationList {p : Plan} (h : PlanFits p) {r : Reservation} : r ∈ reservationList p ↔
    ∃ row sd, 1 ≤ row ∧ row ≤ 13 ∧ .reserved r ∈ stackAt p row sd := by
  simp only [reservationList, List.mem_map, allReservations, mem_reservationsAt, mem_allPositions]
  constructor
  · rintro ⟨⟨row, sd, r⟩, ⟨⟨h1, h13⟩, ht⟩, rfl⟩
    obtain ⟨below, hb⟩ := topReservation_eq_some.mp ht
    exact ⟨row, sd, h1, h13, by rw [hb]; exact List.mem_append_right _ (List.mem_singleton_self _)⟩
  · rintro ⟨row, sd, h1, h13, hr⟩
    exact ⟨(row, sd, r), ⟨⟨h1, h13⟩, (h.contents.stack h13 sd).topReservation hr⟩, rfl⟩

/-! ## The sums (R104) -/

/-- Reservations that stand at different positions, each on top of its own. -/
structure StandApart (p : Plan) (l : List (Nat × Side × Reservation)) : Prop where
  inTrailer : InTrailer l
  apart : (heldAt l).Nodup
  onTop : ∀ x ∈ l, topReservation (stackAt p x.1 x.2.1) = some x.2.2

theorem allReservations_standApart (p : Plan) : StandApart p (allReservations p) where
  inTrailer := allReservations_inTrailer p
  apart := allReservations_nodup p
  onTop _ hx := (mem_reservationsAt.mp hx).2

/-- With the first dropped, the others stand as they stood. -/
theorem StandApart.tail {p : Plan} (h : ContentsFit p) {x : Nat × Side × Reservation}
    {l : List (Nat × Side × Reservation)} (hl : StandApart p (x :: l)) (c : TrailerClass) :
    StandApart (dropTopReservation c p x.1 x.2.1) l := by
  obtain ⟨hx, hin⟩ := List.forall_mem_cons.mp hl.inTrailer
  obtain ⟨hnot, hapart⟩ := List.nodup_cons.mp hl.apart
  refine ⟨hin, hapart, fun y hy => ?_⟩
  rw [h.stackAt_dropTop c hx.1 hx.2 (hin y hy).1, if_neg fun e => hnot ?_]
  · exact hl.onTop y (List.mem_cons_of_mem x hy)
  · exact List.mem_map.mpr ⟨y, hy, Prod.ext e.1.symm e.2.symm⟩

/-- The grant weights of reservations dropped leave the payload sum. -/
theorem dropAll_payload {p : Plan} (h : ContentsFit p) (c : TrailerClass) {l : List (Nat × Side × Reservation)}
    (hl : StandApart p l) : (dropAll c p l).payload = p.payload - ((l.map fun x => x.2.2.grant).sum : Nat) := by
  induction l generalizing p with
  | nil => exact (Int.sub_zero _).symm
  | cons x l ih =>
    have hx := dropTopReservation_some c p x.1 x.2.1 (hl.onTop x List.mem_cons_self)
    have hpay : (dropTopReservation c p x.1 x.2.1).payload = p.payload + -(x.2.2.grant : Int) := by rw [hx]; rfl
    rw [dropAll_cons, ih (h.dropTop c (hl.inTrailer x List.mem_cons_self).2) (hl.tail h c), hpay, List.map_cons,
      List.sum_cons]
    omega

/-- The moments of reservations dropped leave the moment sum. -/
theorem dropAll_moment {p : Plan} (h : ContentsFit p) (c : TrailerClass) {l : List (Nat × Side × Reservation)}
    (hl : StandApart p l) : (dropAll c p l).moment =
      p.moment - (l.map fun x => (x.2.2.grant : Int) * rowDistance c x.1).sum := by
  induction l generalizing p with
  | nil => exact (Int.sub_zero _).symm
  | cons x l ih =>
    have hx := dropTopReservation_some c p x.1 x.2.1 (hl.onTop x List.mem_cons_self)
    have hmom : (dropTopReservation c p x.1 x.2.1).moment =
        p.moment + -(x.2.2.grant : Int) * rowDistance c x.1 := by rw [hx]; rfl
    rw [dropAll_cons, ih (h.dropTop c (hl.inTrailer x List.mem_cons_self).2) (hl.tail h c), hmom, List.map_cons,
      List.sum_cons]
    ring

/-! ## All reservations released (R166 step 1) -/

/-- A plan after the reservations of a list have been released one by one: OVER is judged at each (R87). -/
def releasedPlan (c : TrailerClass) (p : Plan) (l : List (Nat × Side × Reservation)) : Plan :=
  if l = [] then p else withOver c (dropAll c p l)

/-- The mark OVER has no part in what is dropped. -/
theorem dropTopReservation_overLimit (c : TrailerClass) (p : Plan) (b : Bool) (row : Nat) (sd : Side) :
    dropTopReservation c { p with overLimit := b } row sd =
      { dropTopReservation c p row sd with overLimit := b } := by
  have hst : stackAt { p with overLimit := b } row sd = stackAt p row sd := rfl
  unfold dropTopReservation
  rw [hst]
  cases topReservation (stackAt p row sd) <;> rfl

theorem dropAll_overLimit (c : TrailerClass) (p : Plan) (b : Bool) (l : List (Nat × Side × Reservation)) :
    dropAll c { p with overLimit := b } l = { dropAll c p l with overLimit := b } := by
  induction l generalizing p with
  | nil => rfl
  | cons x l ih => rw [dropAll_cons, dropTopReservation_overLimit, ih, dropAll_cons]

/-- OVER is judged by the plan as it stands, whatever it was before. -/
theorem withOver_dropAll_withOver (c : TrailerClass) (p : Plan) (l : List (Nat × Side × Reservation)) :
    withOver c (dropAll c (withOver c p) l) = withOver c (dropAll c p l) := by
  rw [withOver.eq_def c p, dropAll_overLimit]
  rfl

theorem releasedPlan_cons (c : TrailerClass) (p : Plan) (x : Nat × Side × Reservation)
    (l : List (Nat × Side × Reservation)) :
    releasedPlan c (withOver c (dropTopReservation c p x.1 x.2.1)) l = releasedPlan c p (x :: l) := by
  cases l with
  | nil => rfl
  | cons y l => exact withOver_dropAll_withOver c _ (y :: l)

section
variable {p : Plan} (h : PlanFits p) (c : TrailerClass)
include h

/-- Every position keeps its landed tiers. -/
theorem PlanFits.stackAt_released (row : Nat) (sd : Side) :
    stackAt (releasedPlan c p (allReservations p)) row sd = landedPart (stackAt p row sd) := by
  have inside {n : Nat} (h1 : 1 ≤ n) (h13 : n ≤ 13) :
      stackAt (releasedPlan c p (allReservations p)) n sd = landedPart (stackAt p n sd) := by
    have hdrop : stackAt (releasedPlan c p (allReservations p)) n sd =
        stackAt (dropAll c p (allReservations p)) n sd := by
      unfold releasedPlan
      split
      · rename_i e
        rw [e]
        rfl
      · rfl
    rw [hdrop, h.contents.stackAt_dropAll c (allReservations_inTrailer p) h1]
    split
    · rfl
    · rename_i hn
      refine ((h.contents.stack h13 sd).landedPart_of_none ?_).symm
      simpa [mem_heldAt_allReservations, h1, h13] using hn
  obtain rfl | h1 := Nat.eq_zero_or_pos row
  · exact inside (n := 1) (by omega) (by omega)
  · by_cases h13 : row ≤ 13
    · exact inside h1 h13
    · rw [stackAt_beyond (by omega), stackAt_beyond (by omega)]
      rfl

theorem PlanFits.released_payload : (releasedPlan c p (allReservations p)).payload = releasedPayload p := by
  have hd := dropAll_payload h.contents c (allReservations_standApart p)
  have hsum : releasedPayload p = (dropAll c p (allReservations p)).payload := by
    rw [hd, releasedPayload, reservationList, List.map_map]
    rfl
  rw [hsum, releasedPlan]
  split
  · rename_i e
    rw [e]
    rfl
  · rfl

theorem PlanFits.released_moment : (releasedPlan c p (allReservations p)).moment = releasedMoment c p := by
  have hd : (dropAll c p (allReservations p)).moment = releasedMoment c p :=
    dropAll_moment h.contents c (allReservations_standApart p)
  rw [← hd, releasedPlan]
  split
  · rename_i e
    rw [e]
    rfl
  · rfl

/-- No landed pallet goes with the reservations. -/
theorem PlanFits.landedCount_released (d : Phase) :
    landedCount (releasedPlan c p (allReservations p)) d = landedCount p d := by
  unfold landedCount
  refine congrArg List.sum (List.map_congr_left fun pos _ => ?_)
  rw [h.stackAt_released c, landedPart, List.countP_filter]
  refine List.countP_congr fun t _ => ?_
  cases t <;> simp [isReserved]

end

/-- Nothing of the plan's header goes with the reservations. -/
theorem releasedPlan_eq (c : TrailerClass) (p : Plan) (l : List (Nat × Side × Reservation)) : ∃ v x m b,
    releasedPlan c p l = { p with floorStacks := v, payload := x, moment := m, overLimit := b } := by
  unfold releasedPlan
  split
  · exact ⟨_, _, _, _, rfl⟩
  · obtain ⟨v, x, m, e⟩ := dropAll_eq c p l
    exact ⟨_, _, _, _, by rw [e]; rfl⟩

end Sys2Proof.Machine
end

section
/-! PROOFS. Reservations given up in order, and the closing record formed behind them (R117, R166, R167, R168, R18). -/

namespace Sys2Proof.Machine

/-! ## What an offer of the LPU leaves -/

section
variable (s : State)

/-- Besides the queue and the building numbers, an offer may change the owed list alone. -/
theorem State.lpuOffer_eq (n : Nat) (b : Body) : ∃ f k o,
    s.lpuOffer n b = { s with fbi := f, serial := k, lpu := { s.lpu with owed := o } } := by
  obtain ⟨-, e⟩ | ⟨-, e⟩ | ⟨-, e⟩ := s.lpuOffer_cases n b
  · exact ⟨_, _, _, e⟩
  · obtain ⟨-, e'⟩ | ⟨-, e'⟩ := s.bump.lpuOwe_cases { owner := .lpu, built := s.serial, target := n, body := b } <;>
      exact ⟨_, _, _, e.trans e'⟩
  · exact ⟨_, _, _, e⟩

/-- Besides the queue and the building numbers, a CLOSE offered may change the CLOSE place alone. -/
theorem State.lpuOfferClose_eq (b : CloseBody) : ∃ f k o,
    s.lpuOfferClose b = { s with fbi := f, serial := k, lpu := { s.lpu with owedClose := o } } := by
  obtain ⟨-, e⟩ | ⟨-, e⟩ | ⟨-, e⟩ := s.lpuOfferClose_cases b
  · exact ⟨_, _, _, e⟩
  · obtain e' | ⟨_, -, -, e'⟩ := s.bump.lpuOweClose_cases
      { owner := .lpu, built := s.serial, target := 0, body := .close b } <;> exact ⟨_, _, _, e.trans e'⟩
  · exact ⟨_, _, _, e⟩

theorem State.handAll_nil : s.handAll [] = s := by simp [State.handAll]

theorem State.raiseIf_eq_handAll (b : Bool) (k : NoticeKind) :
    s.raiseIf b k = s.handAll (if b then [.noticeRaise k] else []) := by
  cases b
  · exact s.handAll_nil.symm
  · rfl

end

/-! ## Reservations given up in order (R117, R166) -/

theorem releaseFrames_append (x : ReleaseReason) (n : Nat) (l m : List Reservation) :
    releaseFrames x n (l ++ m) = releaseFrames x n l ++ releaseFrames x (n + (releaseFrames x n l).length) m := by
  induction l generalizing n with
  | nil => rfl
  | cons r l ih =>
    simp only [List.cons_append, releaseFrames]
    split
    · exact ih n
    · rw [ih (n + 1), List.cons_append, List.length_cons, Nat.add_right_comm, Nat.add_assoc]

theorem releaseAnswers_append (x : ReleaseReason) (l m : List Reservation) :
    releaseAnswers x (l ++ m) = releaseAnswers x l ++ releaseAnswers x m := by
  simp [releaseAnswers]

/-- From one state to the next the LPU gives reservations up in order: the frames to peers are offered, the bay's own
MLU is told, and no indication is requested. -/
structure GivesUp (x : ReleaseReason) (s t : State) (l : List Reservation) : Prop where
  offers : LpuOffers s t (releaseFrames x s.serial l)
  handed : ∃ m, HandsOn s t m ∧ (∀ r, .indicationRequest r ∉ m) ∧ (releaseAnswers x l).Sublist m
  binding : t.lpu.binding = s.lpu.binding
  scu : t.scu = s.scu

theorem GivesUp.trans {x : ReleaseReason} {s t u : State} {l m : List Reservation} (h : GivesUp x s t l)
    (g : GivesUp x t u m) : GivesUp x s u (l ++ m) where
  offers := (h.offers.trans g.offers).congr fun hm => by
    rw [releaseFrames_append, h.offers.serial hm]
  handed := by
    obtain ⟨a, ha, hna, hsa⟩ := h.handed
    obtain ⟨b, hb, hnb, hsb⟩ := g.handed
    refine ⟨a ++ b, hb.trans (by rw [ha, List.append_assoc]), fun r hr => ?_, ?_⟩
    · exact (List.mem_append.mp hr).elim (hna r) (hnb r)
    · rw [releaseAnswers_append]
      exact hsa.append hsb
  binding := g.binding.trans h.binding
  scu := g.scu.trans h.scu

section
variable (x : ReleaseReason) (s : State)

/-- The plan stored and other events handed on give nothing up. -/
theorem givesUp_nil (p : Plan) {l : List Instr} (hl : ∀ r, .indicationRequest r ∉ l) :
    GivesUp x s ((s.setPlan p).handAll l) [] where
  offers := .none rfl rfl rfl rfl rfl
  handed := ⟨l, rfl, hl, List.nil_sublist l⟩
  binding := rfl
  scu := rfl

theorem GivesUp.refl : GivesUp x s s [] := by
  have h := givesUp_nil x s s.plan (l := []) (by simp)
  rwa [State.handAll_nil] at h

theorem State.storePlan_givesUp (p : Plan) : GivesUp x s (s.storePlan p) [] := by
  rw [State.storePlan, State.raiseIf_eq_handAll]
  exact givesUp_nil x s p (by split <;> simp)

theorem State.reportIfEmpty_givesUp : GivesUp x s s.reportIfEmpty [] := by
  unfold State.reportIfEmpty
  split
  · exact givesUp_nil x s s.plan (l := [.noReservationReport]) (by simp)
  · exact .refl x s

/-- A reservation given up: to the bay's own MLU within the bay, to a peer by a frame (R117). -/
theorem State.giveUp_givesUp (r : Reservation) : GivesUp x s (s.giveUp x r) [r] := by
  unfold State.giveUp
  split
  · rename_i hr
    refine ⟨?_, ⟨[_], rfl, by simp, by simp [releaseAnswers, hr]⟩, rfl, rfl⟩
    simp only [releaseFrames, hr, if_true]
    exact .none rfl rfl rfl rfl rfl
  · rename_i hr
    have hoffers := s.lpuOffer_offers r.asker
      (.release { pallet := r.pallet, asker := r.asker, seq := r.seq.getD 0, reason := x })
    obtain ⟨f, k, o, e⟩ := s.lpuOffer_eq r.asker
      (.release { pallet := r.pallet, asker := r.asker, seq := r.seq.getD 0, reason := x })
    rw [e] at hoffers ⊢
    refine ⟨?_, ⟨[], (List.append_nil _).symm, by simp, by simp [releaseAnswers, hr]⟩, rfl, rfl⟩
    simpa only [releaseFrames, hr, if_false] using hoffers

end

/-! ## Every reservation released (R166 step 1) -/

/-- A reservation dropped leaves the plan in form: face row and band stand. -/
theorem PlanFits.dropTop {p : Plan} (h : PlanFits p) (c : TrailerClass) {row : Nat} (h1 : 1 ≤ row) (h13 : row ≤ 13)
    (sd : Side) : PlanFits (dropTopReservation c p row sd) := by
  have hst (n : Nat) (sd' : Side) (hn : 1 ≤ n) := h.contents.stackAt_dropTop c (sd := sd) h1 h13 hn sd'
  refine h.of_rows (h.contents.dropTop c h13) (dropTopReservation_face c p row sd) (fun n sd' hn _ => ?_)
    fun n sd' r hn _ hr => ⟨r, ?_⟩
  · rw [hst n sd' hn]
    split
    · rename_i e
      rw [← e.1, ← e.2, holdsLanded_landedPart]
    · rfl
  · rw [hst n sd' hn] at hr
    split at hr
    · simp [mem_landedPart, isReserved] at hr
    · exact hr

theorem State.planClass_congr {s t : State} (hs : t.scu = s.scu) (hc : t.plan.cls = s.plan.cls) :
    t.planClass = s.planClass := by
  rw [State.planClass, State.planClass, State.trailerClass, State.trailerClass, hs, hc]

section
variable {s : State} (h : PlanFits s.plan) (x : ReleaseReason)
include h

/-- A reservation removed and given up strands no other. -/
theorem State.removeReservation_givesUp {row : Nat} (h1 : 1 ≤ row) (h13 : row ≤ 13) (sd : Side) (r : Reservation) :
    GivesUp x s (s.removeReservation row sd fun t => t.giveUp x r) [r] ∧
      (s.removeReservation row sd fun t => t.giveUp x r).plan =
        withOver s.planClass (dropTopReservation s.planClass s.plan row sd) := by
  have hrestow := (h.dropTop s.planClass h1 h13 sd).restow s.planClass
  refine ⟨?_, ?_⟩
  · rw [State.removeReservation, State.changePlan, hrestow]
    exact ((s.storePlan_givesUp x _).trans (State.giveUp_givesUp x _ r)).trans (State.reportIfEmpty_givesUp x _)
  · rw [State.removeReservation, State.changePlan_plan _ _ fun u => u.giveUp_plan x r, hrestow]

/-- Reservations released one by one are given up in order, and the plan is left without them. -/
theorem State.releases_givesUp {l : List (Nat × Side × Reservation)} (hl : InTrailer l) :
    GivesUp x s (l.foldl (fun s y => s.removeReservation y.1 y.2.1 fun t => t.giveUp x y.2.2) s)
        (l.map fun y => y.2.2) ∧
      (l.foldl (fun s y => s.removeReservation y.1 y.2.1 fun t => t.giveUp x y.2.2) s).plan =
        releasedPlan s.planClass s.plan l := by
  induction l generalizing s with
  | nil => exact ⟨.refl x s, rfl⟩
  | cons y l ih =>
    obtain ⟨hy, hl⟩ := List.forall_mem_cons.mp hl
    obtain ⟨hg, hp⟩ := State.removeReservation_givesUp h x hy.1 hy.2 y.2.1 y.2.2
    have hfit : PlanFits (s.removeReservation y.1 y.2.1 fun t => t.giveUp x y.2.2).plan :=
      h.removeReservation hy.2 _ fun u => u.giveUp_plan _ _
    obtain ⟨hg', hp'⟩ := ih hfit hl
    have hcls : (s.removeReservation y.1 y.2.1 fun t => t.giveUp x y.2.2).planClass = s.planClass := by
      refine State.planClass_congr hg.scu ?_
      obtain ⟨v, n, m, e⟩ := dropTopReservation_eq s.planClass s.plan y.1 y.2.1
      rw [hp, e]
      rfl
    refine ⟨hg.trans hg', ?_⟩
    rw [List.foldl_cons, hp', hcls, hp, releasedPlan_cons]

theorem State.releaseEvery_givesUp : GivesUp x s (s.releaseEvery x) (reservationList s.plan) ∧
    (s.releaseEvery x).plan = releasedPlan s.planClass s.plan (allReservations s.plan) :=
  State.releases_givesUp h x (allReservations_inTrailer s.plan)

end

/-! ## The closing record (R110, R111, R167) -/

/-- The record formed from a plan as the releases left it. -/
theorem closingRecordFits_released {s t : State} (h : PlanFits s.plan) (aborted : Bool)
    (hb : t.lpu.binding = s.lpu.binding) (hs : t.scu = s.scu) (hd : t.dcu = s.dcu)
    (hp : t.plan = releasedPlan s.planClass s.plan (allReservations s.plan)) :
    ClosingRecordFits s (closingRecordOf t aborted) := by
  obtain ⟨v, n, m, o, e⟩ := releasedPlan_eq s.planClass s.plan (allReservations s.plan)
  have hcls : t.planClass = s.planClass := State.planClass_congr hs (by rw [hp, e])
  have hpay : t.plan.payload = releasedPayload s.plan := hp ▸ h.released_payload s.planClass
  have hmom : t.plan.moment = releasedMoment s.planClass s.plan := hp ▸ h.released_moment s.planClass
  have hcount (d : Phase) : landedCount t.plan d = landedCount s.plan d :=
    hp ▸ h.landedCount_released s.planClass d
  have hloads : loadsOf t.planClass t.plan.payload t.plan.moment =
      loadsOf s.planClass (releasedPayload s.plan) (releasedMoment s.planClass s.plan) := by rw [hcls, hpay, hmom]
  constructor
  case trailer =>
    intro b hbind
    simp only [closingRecordOf, State.boundTrailerId, hb, hbind]
  case cls => rw [closingRecordOf, hp, e]
  case near => rw [closingRecordOf, hp, e]
  case far => rw [closingRecordOf, hp, e]
  case landedNear => exact hcount .near
  case landedFar => exact hcount .far
  case payload => exact hpay
  case gross => exact congrArg Loads.gross hloads
  case kingpin => exact congrArg Loads.kingpin hloads
  case bogie => exact congrArg Loads.bogie hloads
  case overKept =>
    intro hnil
    have hover : t.plan.overLimit = s.plan.overLimit := by rw [hp, releasedPlan, if_pos hnil]
    exact hover
  case overJudged =>
    intro hne
    have hover : t.plan.overLimit = overLoaded s.planClass t.plan.payload t.plan.moment := by
      rw [hp, releasedPlan, if_neg hne]
      rfl
    rw [hpay, hmom] at hover
    exact hover
  case lightNose =>
    rw [← hcls]
    exact decide_eq_true_iff
  case mismatch => rw [closingRecordOf, hp, e]
  case formedAt => exact congrArg Dcu.beat hd

/-- The record kept, LIGHT_NOSE raised where it is set, and CLOSE offered (R166 steps 2 and 3). -/
theorem State.formClosing_spec {s t : State} {l : List OwnedFrame} (h : LpuOffers s t l) (aborted : Bool) :
    (t.formClosing aborted).lpu.closing = some (closingRecordOf t aborted) ∧
      (t.formClosing aborted).lpu.binding = t.lpu.binding ∧ (t.formClosing aborted).scu = t.scu ∧
      HandsOn t (t.formClosing aborted)
        (if (closingRecordOf t aborted).body.lightNose then [.noticeRaise .lightNose] else []) ∧
      ClosesBehind s (t.formClosing aborted) l (closingRecordOf t aborted).body := by
  rw [State.formClosing, State.raiseIf_eq_handAll]
  generalize hu : State.handAll _ _ = u
  have hl : LpuOffers s u l := by
    have hnone : LpuOffers t u [] := by
      rw [← hu]
      exact .none rfl rfl rfl rfl rfl
    exact l.append_nil ▸ h.trans hnone
  have hclose := hl.closesBehind (closingRecordOf t aborted).body
  obtain ⟨f, k, o, e⟩ := u.lpuOfferClose_eq (closingRecordOf t aborted).body
  rw [e] at hclose ⊢
  subst hu
  exact ⟨rfl, rfl, rfl, rfl, hclose⟩

end Sys2Proof.Machine
end

section
/-! PROOFS. The life of the load plan (O54): it begins empty, is closed or aborted with its record formed, and ends
ABSENT (R82, R83, R162, R166 to R171). -/

namespace Sys2Proof.Machine

/-- The landed tiers of a drop, over all stacks (R167). -/
theorem landedCount_eq (p : Plan) (d : Phase) : landedCount p d = p.floorStacks.toList.flatten.countP fun y =>
    match y with
    | .landed l => decide (l.drop = d)
    | .reserved _ => false := by
  rw [List.countP_flatten, ← map_stackAt_allPositions, List.map_map]
  rfl

/-! ## Begin (R82) -/

/-- OVER of a plan with nothing in it goes by the tare alone. -/
theorem overLoaded_empty (c : TrailerClass) : overLoaded c 0 0 = true ↔
    c.gmax < c.k0 + c.b0 ∨ c.bmax < c.b0 ∨ c.kmax < c.k0 := by
  simp [overLoaded, loadsOf, floorQuot, ceilQuot, or_assoc]

/-- The plan that BEGIN PLAN leaves. -/
def begunPlan (c : TrailerClass) (cls near : Nat) (far : Option Nat) (ph : Phase) : Plan :=
  withOver c { absentPlan with state := .opened, cls := cls, near := near, far := far, phase := some ph }

theorem exec_beginPlan {s : State} (hl : s.resetLine = false) (cls near : Nat) (far : Option Nat) (ph : Phase) :
    exec (.beginPlan cls near far ph) s =
      .next (((s.drop (.beginPlan cls near far ph)).setPlan (begunPlan (s.trailerClass cls) cls near far ph)).handAll
        (if (begunPlan (s.trailerClass cls) cls near far ph).overLimit then [.noticeRaise .overLimit] else [])) := by
  rw [exec, execBeginPlan, taken_running hl, ← State.raiseIf_eq_handAll]
  rfl

/-! ## The request to close (R162, R166) -/

theorem exec_closeRequestClosing_empty {s : State} (hl : s.resetLine = false) (ho : s.plan.state = .opened)
    (hn : allReservations s.plan = []) :
    exec .closeRequestClosing s = .next ((s.drop .closeRequestClosing).hand .noReservationReport) := by
  rw [exec, execCloseRequestClosing, taken_running hl]
  simp [planOpen, ho, hn]

theorem exec_closeRequestClosing_other {s : State} (hl : s.resetLine = false)
    (h : s.plan.state ≠ .opened ∨ allReservations s.plan ≠ []) :
    exec .closeRequestClosing s = .next (s.drop .closeRequestClosing) := by
  rw [exec, execCloseRequestClosing, taken_running hl]
  obtain h | h := h <;> simp [planOpen, h]

theorem exec_closeRequestClosed_opened {s : State} (hl : s.resetLine = false) (ho : s.plan.state = .opened) :
    exec .closeRequestClosed s = .next
      (((((s.drop .closeRequestClosed).releaseEvery .cutoff).formClosing false).indicate .lpu .closed none).setPlan
        { ((s.drop .closeRequestClosed).releaseEvery .cutoff).plan with state := .final }) := by
  have hopen : planOpen (s.drop .closeRequestClosed) = true := by simp [planOpen, ho]
  rw [exec, execCloseRequestClosed, taken_running hl, if_pos hopen]
  simp only [State.indicate_plan, State.formClosing_plan]

theorem exec_closeRequestClosed_other {s : State} (hl : s.resetLine = false) (ho : s.plan.state ≠ .opened) :
    exec .closeRequestClosed s = .next (s.drop .closeRequestClosed) := by
  rw [exec, execCloseRequestClosed, taken_running hl]
  simp [planOpen, ho]

/-! ## The abort (R18, R171) -/

/-- The plan ABSENT and the binding dropped, the record staying (R83, R170). -/
def State.planEnded (s : State) : State := { s with lpu := { s.lpu with plan := absentPlan, binding := none } }

theorem exec_abortRequest_opened {s : State} (hl : s.resetLine = false) (ho : s.plan.state = .opened) :
    exec .abortRequest s =
      .next (((s.drop .abortRequest).releaseEvery .undock).formClosing true).planEnded := by
  have hopen : planOpen (s.drop .abortRequest) = true := by simp [planOpen, ho]
  rw [exec, execAbortRequest, taken_running hl, if_pos hopen]
  rfl

theorem exec_abortRequest_other {s : State} (hl : s.resetLine = false) (ho : s.plan.state ≠ .opened) :
    exec .abortRequest s = .next (s.drop .abortRequest).planEnded := by
  have hopen : ¬ planOpen (s.drop .abortRequest) = true := by simp [planOpen, ho]
  rw [exec, execAbortRequest, taken_running hl, if_neg hopen]
  rfl

/-! ## Closed and aborted -/

section
variable {s : State} (hl : s.resetLine = false) (ho : s.plan.state = .opened) (h : PlanFits s.plan)
include hl ho h

/-- R166: an OPEN plan closed. -/
theorem closeRequestClosed_closes : ∃ t x, exec .closeRequestClosed s = .next t ∧ t.lpu.closing = some x ∧
    ClosingRecordFits s x ∧ x.body.aborted = false ∧ t.plan.state = .final ∧
    (∀ row sd, stackAt t.plan row sd = (stackAt s.plan row sd).filter fun y => !isReserved y) ∧
    t.plan.face = s.plan.face ∧ t.plan.payload = releasedPayload s.plan ∧
    t.plan.moment = releasedMoment s.planClass s.plan ∧ t.plan.overLimit = x.body.overLimit ∧
    t.lpu.binding = s.lpu.binding ∧
    (x.body.lightNose = true → .noticeRaise .lightNose ∈ t.handed) ∧
    t.handed.getLast? = some (.indicationRequest
      { source := .lpu, indication := indicationOf s.own .closed, pallet := none }) ∧
    List.Sublist (releaseAnswers .cutoff (reservationList s.plan)) t.handed ∧
    ClosesBehind s t (releaseFrames .cutoff s.serial (reservationList s.plan)) x.body := by
  have hd : PlanFits (s.drop .closeRequestClosed).plan := h
  obtain ⟨hg, hplan⟩ := State.releaseEvery_givesUp hd .cutoff
  have hexec := exec_closeRequestClosed_opened hl ho
  generalize (s.drop .closeRequestClosed).releaseEvery .cutoff = u at hg hplan hexec
  obtain ⟨hclosing, hbinding, hscu, hhands, hclose⟩ := State.formClosing_spec hg.offers false
  obtain ⟨m, hm, -, hsub⟩ := hg.handed
  have hplan : u.plan = releasedPlan s.planClass s.plan (allReservations s.plan) := hplan
  have hown : (u.formClosing false).own = s.own := by rw [State.own, hscu, hg.scu]; rfl
  have hhanded := hhands.trans (congrArg (· ++ _) hm)
  refine ⟨_, closingRecordOf u false, hexec, hclosing,
    closingRecordFits_released h false hg.binding hg.scu hg.offers.dcu hplan, rfl, rfl, fun row sd => ?_, ?_, ?_, ?_,
    rfl, hbinding.trans hg.binding, fun hn => ?_, ?_, ?_, hclose⟩
  · have hst : stackAt u.plan row sd = landedPart (stackAt s.plan row sd) := by
      rw [hplan, h.stackAt_released]
    exact hst
  · obtain ⟨v, n, k, o, e⟩ := releasedPlan_eq s.planClass s.plan (allReservations s.plan)
    have hface : u.plan.face = s.plan.face := by rw [hplan, e]
    exact hface
  · exact (congrArg Plan.payload hplan).trans (h.released_payload _)
  · exact (congrArg Plan.moment hplan).trans (h.released_moment _)
  · rw [State.setPlan_handed, State.indicate_handed, hhanded, hn]
    simp
  · rw [State.setPlan_handed, State.indicate_handed, hown]
    exact List.getLast?_concat
  · rw [State.setPlan_handed, State.indicate_handed, hhanded]
    exact (hsub.trans (List.sublist_append_right _ m)).trans
      ((List.sublist_append_left _ _).trans (List.sublist_append_left _ _))

/-- R18, R171: an OPEN plan aborted. -/
theorem abortRequest_aborts : ∃ t x, exec .abortRequest s = .next t ∧ t.lpu.closing = some x ∧
    ClosingRecordFits s x ∧ x.body.aborted = true ∧ t.plan = absentPlan ∧ t.lpu.binding = none ∧
    (x.body.lightNose = true → .noticeRaise .lightNose ∈ t.handed) ∧
    (∃ l, HandsOn (s.drop .abortRequest) t l ∧ (∀ r, .indicationRequest r ∉ l) ∧
      List.Sublist (releaseAnswers .undock (reservationList s.plan)) l) ∧
    ClosesBehind s t (releaseFrames .undock s.serial (reservationList s.plan)) x.body := by
  have hd : PlanFits (s.drop .abortRequest).plan := h
  obtain ⟨hg, hplan⟩ := State.releaseEvery_givesUp hd .undock
  have hexec := exec_abortRequest_opened hl ho
  generalize (s.drop .abortRequest).releaseEvery .undock = u at hg hplan hexec
  obtain ⟨hclosing, -, -, hhands, hclose⟩ := State.formClosing_spec hg.offers true
  obtain ⟨m, hm, hnone, hsub⟩ := hg.handed
  have hhanded := hhands.trans (congrArg (· ++ _) hm)
  refine ⟨_, closingRecordOf u true, hexec, hclosing,
    closingRecordFits_released h true hg.binding hg.scu hg.offers.dcu hplan, rfl, rfl, rfl, fun hn => ?_,
    ⟨_, hhanded.trans (List.append_assoc _ _ _), fun r hr => ?_, hsub.trans (List.sublist_append_left _ _)⟩, hclose⟩
  · have hmem : .noticeRaise .lightNose ∈ (u.formClosing true).handed := by
      rw [hhanded, hn]
      simp
    exact hmem
  · obtain hr | hr := List.mem_append.mp hr
    · exact hnone r hr
    · split at hr <;> simp at hr

end

/-- Settles O54: the reservations and the counts by the plan's tiers, then each event of the plan's life. -/
theorem plansBeginAndEnd : Obligations.PlansBeginAndEnd := by
  refine ⟨fun p r => ⟨rfl, fun h => h.mem_reservationList⟩, landedCount_eq,
    ⟨rfl, rfl, rfl, rfl, rfl, rfl, rfl, stackAt_absentPlan⟩, fun cls near far ph s hl => ?_, fun s hl => ?_,
    fun s hl ho h => closeRequestClosed_closes hl ho h, fun s hl ho => exec_closeRequestClosed_other hl ho,
    fun s hl => ?_, fun s hl ho h => abortRequest_aborts hl ho h, fun s hl ho => exec_abortRequest_other hl ho⟩
  · exact ⟨_, exec_beginPlan hl cls near far ph, rfl, rfl, rfl, rfl, rfl, rfl, rfl, rfl, rfl, stackAt_absentPlan,
      overLoaded_empty _⟩
  · exact ⟨exec_closeRequestClosing_empty hl, exec_closeRequestClosing_other hl⟩
  · rw [exec, execDepartureRequest, taken_running hl]
    rfl

end Sys2Proof.Machine
end

section
/-! PROOFS. The rounded loads (O47): rounding down and up by the whole numbers at or beyond the quotient, the checks of
the rounded loads as those of the exact loads, and where the loads are reported (R99, R106 to R110). -/

namespace Sys2Proof.Machine

/-! ## The two quotients (R106 steps 1 and 2) -/

section
variable {m l : Int} (hl : 0 < l)
include hl

theorem le_floorQuot_iff {x : Int} : x ≤ floorQuot m l ↔ x * l ≤ m := Int.le_ediv_iff_mul_le hl

theorem ceilQuot_le_iff {x : Int} : ceilQuot m l ≤ x ↔ m ≤ x * l :=
  calc ceilQuot m l ≤ x ↔ -x ≤ -m / l := neg_le
    _ ↔ -x * l ≤ -m := Int.le_ediv_iff_mul_le hl
    _ ↔ m ≤ x * l := by rw [neg_mul, neg_le_neg_iff]

theorem floorQuot_mul_le : floorQuot m l * l ≤ m := (le_floorQuot_iff hl).mp le_rfl

theorem le_ceilQuot_mul : m ≤ ceilQuot m l * l := (ceilQuot_le_iff hl).mp le_rfl

theorem lt_floorQuot_add_one_mul : m < (floorQuot m l + 1) * l := by
  rw [← not_le, ← le_floorQuot_iff hl]
  omega

theorem ceilQuot_sub_one_mul_lt : (ceilQuot m l - 1) * l < m := by
  rw [← not_le, ← ceilQuot_le_iff hl]
  omega

theorem floorQuot_le_ceilQuot : floorQuot m l ≤ ceilQuot m l :=
  le_of_mul_le_mul_right ((floorQuot_mul_le hl).trans (le_ceilQuot_mul hl)) hl

/-- The two roundings meet only at an exact quotient. -/
theorem ceilQuot_le_floorQuot_iff : ceilQuot m l ≤ floorQuot m l ↔ l ∣ m := by
  rw [ceilQuot_le_iff hl]
  exact ⟨fun h => Dvd.intro_left _ ((floorQuot_mul_le hl).antisymm h), fun h => (Int.ediv_mul_cancel h).ge⟩

theorem ceilQuot_of_dvd (h : l ∣ m) : ceilQuot m l = floorQuot m l :=
  ((ceilQuot_le_floorQuot_iff hl).mpr h).antisymm (floorQuot_le_ceilQuot hl)

theorem ceilQuot_of_not_dvd (h : ¬ l ∣ m) : ceilQuot m l = floorQuot m l + 1 := by
  have hlt : floorQuot m l < ceilQuot m l := not_le.mp fun hle => h ((ceilQuot_le_floorQuot_iff hl).mp hle)
  have hle : ceilQuot m l ≤ floorQuot m l + 1 := (ceilQuot_le_iff hl).mpr (lt_floorQuot_add_one_mul hl).le
  omega

end

/-! ## The rounded checks (R107 to R109) -/

section
variable {c : TrailerClass} {payload moment : Int}

theorem overLoaded_iff : overLoaded c payload moment = true ↔ c.gmax < (loadsOf c payload moment).gross ∨
    c.bmax < (loadsOf c payload moment).bogie ∨ c.kmax < (loadsOf c payload moment).kingpin := by
  simp [overLoaded, or_assoc]

section
variable (hl : 0 < c.l)
include hl

/-- R108 for the bogie: the exact load rounded up. -/
theorem bogie_le_iff {x : Int} :
    (loadsOf c payload moment).bogie ≤ x ↔ c.b0 * c.l + moment ≤ x * c.l :=
  calc c.b0 + ceilQuot moment c.l ≤ x ↔ ceilQuot moment c.l ≤ x - c.b0 := le_sub_iff_add_le'.symm
    _ ↔ moment ≤ (x - c.b0) * c.l := ceilQuot_le_iff hl
    _ ↔ c.b0 * c.l + moment ≤ x * c.l := by rw [sub_mul, le_sub_iff_add_le']

/-- R108 for the kingpin: the quotient rounded down is taken off, and so the load is rounded up. -/
theorem kingpin_le_iff {x : Int} :
    (loadsOf c payload moment).kingpin ≤ x ↔ (c.k0 + payload) * c.l - moment ≤ x * c.l :=
  calc c.k0 + payload - floorQuot moment c.l ≤ x ↔ c.k0 + payload - x ≤ floorQuot moment c.l := sub_le_comm
    _ ↔ (c.k0 + payload - x) * c.l ≤ moment := le_floorQuot_iff hl
    _ ↔ (c.k0 + payload) * c.l - moment ≤ x * c.l := by rw [sub_mul, sub_le_comm]

/-- The axle checks of a candidate as those of the exact loads of the trial sums. -/
theorem axlesFit_iff_exact {row w : Nat} : axlesFit c payload moment row w = true ↔
    c.b0 * c.l + (moment + w * rowDistance c row) ≤ c.bmax * c.l ∧
      (c.k0 + (payload + w)) * c.l - (moment + w * rowDistance c row) ≤ c.kmax * c.l := by
  rw [axlesFit_iff, bogie_le_iff hl, kingpin_le_iff hl]

/-- OVER as the exact loads have it. -/
theorem overLoaded_iff_exact : overLoaded c payload moment = true ↔
    c.gmax < c.k0 + c.b0 + payload ∨ c.bmax * c.l < c.b0 * c.l + moment ∨
      c.kmax * c.l < (c.k0 + payload) * c.l - moment := by
  have hbogie : c.bmax < (loadsOf c payload moment).bogie ↔ c.bmax * c.l < c.b0 * c.l + moment :=
    lt_iff_lt_of_le_iff_le (bogie_le_iff hl)
  have hkingpin : c.kmax < (loadsOf c payload moment).kingpin ↔ c.kmax * c.l < (c.k0 + payload) * c.l - moment :=
    lt_iff_lt_of_le_iff_le (kingpin_le_iff hl)
  rw [overLoaded_iff, hbogie, hkingpin]
  rfl

end

end

/-- The excess of the two rounded loads over the gross load (R106). -/
theorem bogie_add_kingpin (c : TrailerClass) (payload moment : Int) :
    (loadsOf c payload moment).bogie + (loadsOf c payload moment).kingpin =
      (loadsOf c payload moment).gross + (ceilQuot moment c.l - floorQuot moment c.l) := by
  simp only [loadsOf]
  ring

/-! ## Where the loads are reported (R99) -/

theorem reportedLoads_of_plan {s : State} (h : s.plan.state ≠ .absent) :
    reportedLoads s = loadsOf s.planClass s.plan.payload s.plan.moment := if_neg h

theorem exec_readPlan_ready {s : State} (h : s.ready = true) :
    ∃ r, exec .readPlan s = .next (s.bump.answer .readPlan .ok (.plan r)) ∧ r.loads = reportedLoads s := by
  rw [exec, execReadPlan, request_ready h]
  exact ⟨_, rfl, rfl⟩

/-- Settles O47: the two quotients, the checks by exact loads, and the loads read back and kept at close. -/
theorem loadsAreRoundedUp : Obligations.LoadsAreRoundedUp := by
  refine ⟨fun c payload moment hl => ?_, fun c payload moment x hl => ⟨bogie_le_iff hl, kingpin_le_iff hl⟩,
    fun c payload moment row w hl => ⟨axlesFit_iff_exact hl, grossFits_iff, overLoaded_iff_exact hl⟩,
    fun s hr hp => ?_, fun s aborted => ⟨rfl, rfl, rfl⟩⟩
  · exact ⟨floorQuot moment c.l, ceilQuot moment c.l, floorQuot_mul_le hl, lt_floorQuot_add_one_mul hl,
      ceilQuot_sub_one_mul_lt hl, le_ceilQuot_mul hl, ceilQuot_of_dvd hl, ceilQuot_of_not_dvd hl, rfl, rfl, rfl,
      bogie_add_kingpin c payload moment⟩
  · obtain ⟨r, hexec, hloads⟩ := exec_readPlan_ready hr
    exact ⟨_, r, hexec, rfl, hloads.trans (reportedLoads_of_plan hp)⟩

end Sys2Proof.Machine
end

section
/-! PROOFS. The verdict on an ask for a trailer place (O48), check by check: where the pallet stands, its destination
against the phase, the marks, the weight and the search (R91, R114 to R116). -/

namespace Sys2Proof.Machine

/-! ## A pallet ID that stands nowhere -/

theorem findInStack_none {pallet : Nat} {st : List Tier} {n : Nat} (h : findInStack pallet st n = none) :
    ∀ t ∈ st, tierPallet t ≠ pallet := by
  induction st generalizing n with
  | nil => simp
  | cons x rest ih =>
    rw [findInStack] at h
    split at h
    · cases h
    · exact List.forall_mem_cons.mpr ⟨‹_›, ih h⟩

/-- A pallet not found in the plan is at no tier of any position. -/
theorem findInPlan_none {p : Plan} {pallet : Nat} (h : findInPlan p pallet = none) {row : Nat} (h1 : 1 ≤ row)
    (h13 : row ≤ 13) (sd : Side) : ∀ t ∈ stackAt p row sd, tierPallet t ≠ pallet :=
  findInStack_none (Option.map_eq_none_iff.mp
    (List.findSome?_eq_none_iff.mp h (row, sd) (mem_allPositions.mpr ⟨h1, h13⟩)))

/-- The pallet ID of a tier, landed or reserved. -/
theorem tierPallet_iff {t : Tier} {pallet : Nat} : tierPallet t = pallet ↔
    (∃ l, t = .landed l ∧ l.pallet = pallet) ∨ ∃ r, t = .reserved r ∧ r.pallet = pallet := by
  cases t <;> simp [tierPallet]

/-! ## Destinations (R91) -/

section
variable {p : Plan} {ph : Phase} {dest : Nat}

/-- With a phase the accepting drop comes first, then the trunk's other one. -/
theorem judgeDest_of_phase (hp : p.phase = some ph) : judgeDest p dest =
    if validDest dest = true ∧ dest = acceptingDest p then .accepted ph
    else if validDest dest = true ∧ otherDest p = some dest then .other else .neither := by
  rw [judgeDest, hp]

theorem judgeDest_no_phase (hp : p.phase = none) : judgeDest p dest = .neither := by
  rw [judgeDest, hp]

/-- The accepting destination is that of the phase. -/
theorem eq_acceptingDest_iff (hp : p.phase = some ph) : dest = acceptingDest p ↔
    ph = .far ∧ dest = p.far.getD 0 ∨ ph = .near ∧ dest = p.near := by
  cases ph <;> simp [acceptingDest, hp]

/-- The phase's drop is accepted. -/
theorem judgeDest_accepted_iff {drop : Phase} : judgeDest p dest = .accepted drop ↔
    p.phase = some drop ∧ 1 ≤ dest ∧ dest ≤ 999 ∧
      (drop = .far ∧ dest = p.far.getD 0 ∨ drop = .near ∧ dest = p.near) := by
  cases hp : p.phase with
  | none => simp [judgeDest_no_phase hp]
  | some ph =>
    rw [judgeDest_of_phase hp]
    constructor
    · intro h
      split at h
      · rename_i hd
        cases h
        obtain ⟨h1, h999⟩ := validDest_iff.mp hd.1
        exact ⟨rfl, h1, h999, (eq_acceptingDest_iff hp).mp hd.2⟩
      · split at h <;> cases h
    · rintro ⟨e, h1, h999, hd⟩
      cases e
      exact if_pos ⟨validDest_iff.mpr ⟨h1, h999⟩, (eq_acceptingDest_iff hp).mpr hd⟩

/-- The other drop of a two-drop trunk. -/
theorem judgeDest_other (hp : p.phase = some ph) (h1 : 1 ≤ dest) (h999 : dest ≤ 999)
    (h : ph = .far ∧ dest = p.near ∧ p.far ≠ none ∧ p.far ≠ some dest ∨
      ph = .near ∧ p.far = some dest ∧ dest ≠ p.near) : judgeDest p dest = .other := by
  have hvalid := validDest_iff.mpr ⟨h1, h999⟩
  obtain ⟨rfl, hnear, hfar, hne⟩ | ⟨rfl, hfar, hne⟩ := h
  · obtain ⟨f, hf⟩ := Option.ne_none_iff_exists'.mp hfar
    have hne' : dest ≠ f := fun e => hne (e ▸ hf)
    simp [judgeDest, acceptingDest, otherDest, hp, hf, hvalid, hne', ← hnear]
  · simp [judgeDest, acceptingDest, otherDest, hp, hfar, hvalid, hne]

theorem otherDest_some (h : otherDest p = some dest) : dest = p.near ∨ p.far = some dest := by
  unfold otherDest at h
  split at h <;> cases h
  · exact .inl rfl
  · exact .inr ‹_›

/-- A destination of neither drop, or none at all. -/
theorem judgeDest_neither (h : dest = 0 ∨ 999 < dest ∨ dest ≠ p.near ∧ p.far ≠ some dest) :
    judgeDest p dest = .neither := by
  cases hp : p.phase with
  | none => exact judgeDest_no_phase hp
  | some ph =>
    have hout (hv : validDest dest = true) : dest ≠ 0 ∧ dest ≠ p.near ∧ p.far ≠ some dest := by
      have := validDest_iff.mp hv
      exact ⟨by omega, h.elim (by omega) (·.elim (by omega) id)⟩
    have haccepting (hv : validDest dest = true) : dest ≠ acceptingDest p := fun hd => by
      obtain ⟨h0, hnear, hfar⟩ := hout hv
      obtain ⟨-, e⟩ | ⟨-, e⟩ := (eq_acceptingDest_iff hp).mp hd
      · exact (Option.getD_eq_iff.mp e.symm).elim hfar fun g => h0 g.2.symm
      · exact hnear e
    have hother (hv : validDest dest = true) : otherDest p ≠ some dest := fun hd => by
      obtain ⟨-, hnear, hfar⟩ := hout hv
      exact (otherDest_some hd).elim hnear hfar
    rw [judgeDest_of_phase hp, if_neg fun g => haccepting g.1 g.2, if_neg fun g => hother g.1 g.2]

end

/-! ## The checks in their order (R114) -/

section
variable {s : State} {a : PlaceAsk} {ph : Phase}

/-- Check 1: not OUTBOUND, or no OPEN plan. -/
theorem judgeAsk_closed (h : s.dcu.bayState ≠ some .outbound ∨ s.plan.state ≠ .opened) :
    judgeAsk s a = .refuse .closed := by
  have hout : (s.inState .outbound && planOpen s) = false := by
    rw [Bool.eq_false_iff, Ne, outboundOpen_iff]
    exact fun ⟨hb, ho⟩ => h.elim (· hb) (· ho)
  simp [judgeAsk, hout]

section
variable (hb : s.dcu.bayState = some .outbound) (ho : s.plan.state = .opened)
include hb ho

/-- Check 2: the other drop of a two-drop trunk. -/
theorem judgeAsk_order (h : judgeDest s.plan a.dest = .other) : judgeAsk s a = .refuse .order := by
  simp [judgeAsk, (outboundOpen_iff s).mpr ⟨hb, ho⟩, h]

/-- Check 2: neither drop. -/
theorem judgeAsk_wrongDest (h : judgeDest s.plan a.dest = .neither) : judgeAsk s a = .refuse .wrongDest := by
  simp [judgeAsk, (outboundOpen_iff s).mpr ⟨hb, ho⟩, h]

/-- Past check 2 the drop is that of the phase. -/
theorem judgeAsk_accepted (h : judgeDest s.plan a.dest = .accepted ph) :
    judgeAsk s a = judgeAccepted s a ph := by
  simp [judgeAsk, (outboundOpen_iff s).mpr ⟨hb, ho⟩, h]

end

/-- Check 3: the pallet is reserved for the asker. -/
theorem judgeAccepted_regrant {x : Standing} {r : Reservation} (hx : findInPlan s.plan a.pallet = some x)
    (hr : x.tier = .reserved r) (h : r.asker = a.asker) :
    judgeAccepted s a ph = .regrant x.row x.side (x.beneath + 1) r := by
  simp [judgeAccepted, hx, hr, h]

/-- Check 3: the pallet stands in the plan otherwise. -/
theorem judgeAccepted_duplicate {x : Standing} (hx : findInPlan s.plan a.pallet = some x)
    (h : ∀ r, x.tier = .reserved r → r.asker ≠ a.asker) : judgeAccepted s a ph = .refuse .duplicate := by
  cases ht : x.tier with
  | landed l => simp [judgeAccepted, hx, ht]
  | reserved r => simp [judgeAccepted, hx, ht, h r ht]

/-- Check 4: a mark holds the plan. -/
theorem judgeAccepted_held (hx : findInPlan s.plan a.pallet = none)
    (h : s.dcu.suspended = true ∨ s.plan.overLimit = true ∨ s.plan.mismatch = true) :
    judgeAccepted s a ph = .refuse .held := by
  have hheld : s.held = true := by simpa [State.held, or_assoc] using h
  simp [judgeAccepted, hx, hheld]

/-- Check 5: the search is made. -/
theorem judgeAccepted_search (hx : findInPlan s.plan a.pallet = none) (hs : s.dcu.suspended = false)
    (ho : s.plan.overLimit = false) (hm : s.plan.mismatch = false) :
    judgeAccepted s a ph = searchForAsk s a ph := by
  simp [judgeAccepted, hx, State.held, hs, ho, hm]

theorem validWeight_iff {w : Nat} : validWeight w = true ↔ 1 ≤ w ∧ w ≤ 1500 :=
  (Bool.and_eq_true _ _).to_iff.trans (and_congr decide_eq_true_iff decide_eq_true_iff)

/-- R116: a weight no place may carry. -/
theorem searchForAsk_gross (h : a.weight = 0 ∨ 1500 < a.weight) : searchForAsk s a ph = .refuse .gross := by
  have hw : validWeight a.weight = false := by
    rw [Bool.eq_false_iff, Ne, validWeight_iff]
    omega
  simp [searchForAsk, hw]

/-- R116: the search over the plan decides. -/
theorem searchForAsk_spot (h1 : 1 ≤ a.weight) (hmax : a.weight ≤ 1500) {row tier : Nat} {sd : Side}
    (h : searchSpot s.planClass s.plan a.weight a.height a.stackable = .spot row sd tier) :
    searchForAsk s a ph = .grant row sd tier ph := by
  simp [searchForAsk, validWeight_iff.mpr ⟨h1, hmax⟩, h]

theorem searchForAsk_nowhere (h1 : 1 ≤ a.weight) (hmax : a.weight ≤ 1500) {reason : RefuseReason}
    (h : searchSpot s.planClass s.plan a.weight a.height a.stackable = .nowhere reason) :
    searchForAsk s a ph = .refuse reason := by
  simp [searchForAsk, validWeight_iff.mpr ⟨h1, hmax⟩, h]

end

/-- Settles O48: a pallet found or not found in the plan, then the five checks of R114. -/
theorem placeAsksAreJudged : Obligations.PlaceAsksAreJudged := by
  refine ⟨fun p pallet => ⟨fun x hx => ?_, fun hn row sd h1 h13 => ?_⟩, fun _ _ _ => ⟨rfl, rfl⟩,
    fun a s h => judgeAsk_closed h, fun a ph s hb ho hp => ⟨fun h1 h999 h => ?_, fun h => ?_⟩,
    fun a ph s hb ho hp h1 h999 hfar hnear => ?_⟩
  · obtain ⟨h1, h13, ht, hpallet⟩ := findInPlan_some hx
    exact ⟨h1, h13, ht, tierPallet_iff.mp hpallet⟩
  · exact ⟨fun l hl => findInPlan_none hn h1 h13 sd _ hl, fun r hr => findInPlan_none hn h1 h13 sd _ hr⟩
  · exact judgeAsk_order hb ho (judgeDest_other hp h1 h999 h)
  · exact judgeAsk_wrongDest hb ho (judgeDest_neither h)
  · have haccepted : judgeDest s.plan a.dest = .accepted ph := by
      refine judgeDest_accepted_iff.mpr ⟨hp, h1, h999, ?_⟩
      cases ph with
      | far => exact .inl ⟨rfl, by rw [hfar rfl]; rfl⟩
      | near => exact .inr ⟨rfl, hnear rfl⟩
    rw [judgeAsk_accepted hb ho haccepted]
    refine ⟨fun x r hx hr h => judgeAccepted_regrant hx hr h, fun x hx h => judgeAccepted_duplicate hx h,
      fun hx h => judgeAccepted_held hx h, fun hx hs hover hm => ?_⟩
    rw [judgeAccepted_search hx hs hover hm]
    exact ⟨searchForAsk_gross, fun h1 hmax => ⟨fun row sd tier h => searchForAsk_spot h1 hmax h,
      fun reason h => searchForAsk_nowhere h1 hmax h⟩⟩

end Sys2Proof.Machine
end

section
/-! PROOFS. Asks granted (O50): a spot found takes the reservation without a load over its limit, and the answer goes
out or nothing is made (R87, R104, R112, R114 to R116, R31 to R33). -/

namespace Sys2Proof.Machine

/-! ## Offers to the transmit queue (R31 to R33) -/

theorem State.offerResult_muted_iff (s : State) : s.offerResult = .muted ↔ s.fbi.mute = true := by
  rw [State.offerResult_eq]
  cases s.fbi.mute <;> simp
  split <;> simp

theorem State.refuses_iff (s : State) : s.refuses = true ↔ s.dcu.bayState = none ∨
    s.dcu.bayState = some .listen ∨ s.dcu.bayState = some .unconfigured ∨ s.fbi.restartMark = true := by
  simp only [State.refuses, Bool.or_eq_true, State.reading_iff, State.inState_iff, or_assoc]

theorem State.offerResult_noRoom_iff (s : State) : s.offerResult = .noRoom ↔ s.fbi.mute = false ∧
    (s.dcu.bayState = none ∨ s.dcu.bayState = some .listen ∨ s.dcu.bayState = some .unconfigured ∨
      s.fbi.restartMark = true ∨ 12 ≤ s.fbi.tx.length) := by
  have hrefuses := s.refuses_iff
  rw [State.offerResult_eq]
  cases s.fbi.mute
  · simp only [← or_assoc] at hrefuses ⊢
    rw [← hrefuses]
    cases s.refuses <;> simp
  · simp

theorem State.offerAnswer_placed {s : State} (h : s.offerResult = .placed) (o : Owner) (n : Nat) (b : Body) :
    s.offerAnswer o n b = s.bump.placeFrame (.owned { owner := o, built := s.serial, target := n, body := b }) := by
  simp [State.offerAnswer, h, State.frameNow]

theorem State.offerAnswer_refused {s : State} (h : s.offerResult ≠ .placed) (o : Owner) (n : Nat) (b : Body) :
    s.offerAnswer o n b = s := by
  obtain ⟨hp, -⟩ | ⟨-, e⟩ := s.offerAnswer_cases o n b
  · exact absurd hp h
  · exact e

@[simp] theorem State.offerAnswer_dcu (s : State) (o : Owner) (n : Nat) (b : Body) :
    (s.offerAnswer o n b).dcu = s.dcu := by
  obtain ⟨-, e⟩ | ⟨-, e⟩ := s.offerAnswer_cases o n b <;> simp [e]

/-! ## Tiers set on a stack (R84) -/

theorem stackAt_pushTier (p : Plan) {row : Nat} (h1 : 1 ≤ row) (h13 : row ≤ 13) (sd : Side) (t : Tier) {n : Nat}
    (hn : 1 ≤ n) (sd' : Side) : stackAt (pushTier p row sd t) n sd' =
      if row = n ∧ sd = sd' then stackAt p row sd ++ [t] else stackAt p n sd' :=
  stackAt_setStack p row n sd sd' _ h1 h13 hn

/-! ## The plan with one more reservation (R104, R116) -/

/-- A weight that passes the checks of R107 at a row puts no load over its limit. -/
theorem not_overLoaded_of_fits {c : TrailerClass} {payload moment : Int} {row w : Nat}
    (hg : grossFits c payload w = true) (ha : axlesFit c payload moment row w = true) :
    overLoaded c (payload + w) (moment + w * rowDistance c row) = false := by
  have hgross := grossFits_iff.mp hg
  obtain ⟨hbogie, hkingpin⟩ := axlesFit_iff.mp ha
  simp only [overLoaded, Bool.or_eq_false_iff, decide_eq_false_iff_not, Int.not_lt]
  exact ⟨⟨hgross, hbogie⟩, hkingpin⟩

section
variable {s : State} {w : Nat} {hc : HeightClass} {b : Bool} {row tier : Nat} {sd : Side}
  (hs : searchSpot s.planClass s.plan w hc b = .spot row sd tier)
include hs

/-- A reservation at a spot in the band leaves the plan in form: face row and band stand. -/
theorem PlanFits.reserving (h : PlanFits s.plan) (r : Reservation) : PlanFits (planWithReservation s row sd r) := by
  obtain ⟨hband, -, -, -, -, -⟩ := searchSpot_spot hs
  obtain ⟨h1, h13⟩ := mem_openBand hband
  have hfit := h.contents.reserving hs r
  have hst (n : Nat) (sd' : Side) (hn : 1 ≤ n) : stackAt (planWithReservation s row sd r) n sd' =
      if row = n ∧ sd = sd' then stackAt s.plan row sd ++ [.reserved r] else stackAt s.plan n sd' :=
    stackAt_pushTier s.plan h1 h13 sd (.reserved r) hn sd'
  refine ⟨hfit.stacked, hfit.payload, h.face.trans (faceOf_congr fun n sd' hn _ => ?_).symm, ?_⟩
  · rw [hst n sd' hn]
    split
    · rename_i e
      rw [← e.1, ← e.2]
      simp [holdsLanded, isReserved]
    · rfl
  · intro n sd' q hn h13' hq
    rw [hst n sd' hn] at hq
    split at hq
    · rename_i e
      exact e.1 ▸ hband
    · exact h.band n sd' q hn h13' hq

/-- The plan that a grant leaves: the reservation counted, OVER clear. -/
theorem withOver_planWithReservation {r : Reservation} (hw : r.grant = w) :
    withOver s.planClass (planWithReservation s row sd r) =
      addWeight s.planClass (pushTier { s.plan with overLimit := false } row sd (.reserved r)) row r.grant := by
  obtain ⟨-, -, -, hgross, haxles, -⟩ := searchSpot_spot hs
  subst hw
  have hover : overLoaded s.planClass (planWithReservation s row sd r).payload
      (planWithReservation s row sd r).moment = false := not_overLoaded_of_fits hgross haxles
  rw [withOver, hover]
  rfl

end

/-! ## Changes of contents of a plan that stays in form (R87) -/

/-- Where the plan changed is in form, nothing is stranded: it is stored with OVER judged, and the event answered. -/
theorem State.changePlan_of_fits (s : State) {p : Plan} (h : PlanFits p) (f : State → State) :
    s.changePlan p f [] = (f (s.storePlan (withOver s.planClass p))).reportIfEmpty := by
  rw [State.changePlan, h.restow]
  rfl

theorem State.storePlan_not_over (s : State) {p : Plan} (h : p.overLimit = false) : s.storePlan p = s.setPlan p := by
  simp [State.storePlan, State.raiseIf, h]

theorem State.reportIfEmpty_not_closing {s : State} (h : s.dcu.bayState ≠ some .closing) : s.reportIfEmpty = s := by
  have hc : s.inState .closing = false := Bool.eq_false_iff.mpr (mt (s.inState_iff .closing).mp h)
  simp [State.reportIfEmpty, hc]

/-- The margin of a plan stored, which is not ABSENT (R96, R112). -/
theorem State.planMargin_setPlan {s : State} {p : Plan} (h : p.state ≠ .absent) :
    (s.setPlan p).planMargin = grossMargin (s.trailerClass p.cls) p.payload := if_neg h

/-- Only a bay OUTBOUND with an OPEN plan grants a place. -/
theorem judgeAsk_grant_outbound {s : State} {a : PlaceAsk} {row tier : Nat} {sd : Side} {drop : Phase}
    (h : judgeAsk s a = .grant row sd tier drop) : s.dcu.bayState = some .outbound ∧ s.plan.state = .opened := by
  by_contra hn
  rw [judgeAsk_closed (by tauto)] at h
  cases h

/-- The hand-over of an ask has no part in the verdict on it. -/
theorem judgeAsk_drop (s : State) (c : Instr) (a : PlaceAsk) : judgeAsk (s.drop c) a = judgeAsk s a := rfl

section
variable {s : State} (hl : s.resetLine = false)
include hl

/-! ## The ASK frame answered (R114 to R116) -/

section
variable {n : Nat} {x : AskBody}

theorem exec_lpuAsk_refuse {reason : RefuseReason} (hj : judgeAsk s (placeAskOf n x) = .refuse reason) :
    exec (.lpuAsk n x) s = .next ((s.drop (.lpuAsk n x)).offerAnswer .lpu n
      (.refuse { asker := n, seq := x.seq, pallet := x.pallet, reason := reason })) := by
  rw [exec, execLpuAsk, taken_running hl]
  simp only [judgeAsk_drop, hj]

section
variable {row tier : Nat} {sd : Side} {r : Reservation} (hj : judgeAsk s (placeAskOf n x) = .regrant row sd tier r)
include hj

theorem exec_lpuAsk_regrant (hp : s.offerResult = .placed) :
    exec (.lpuAsk n x) s = .next (((s.drop (.lpuAsk n x)).offerAnswer .lpu n
      (trailerGrant s (placeAskOf n x) row sd tier (r.expiry - s.now))).setPlan
        (withReservationSeq s.plan row sd (some x.seq) r)) := by
  rw [exec, execLpuAsk, taken_running hl]
  simp only [judgeAsk_drop, hj, State.drop_offerResult, hp]
  rfl

theorem exec_lpuAsk_regrant_refused (hp : s.offerResult ≠ .placed) :
    exec (.lpuAsk n x) s = .next (s.drop (.lpuAsk n x)) := by
  rw [exec, execLpuAsk, taken_running hl]
  simp only [judgeAsk_drop, hj, State.drop_offerResult]

end

section
variable {row tier : Nat} {sd : Side} {drop : Phase} (hj : judgeAsk s (placeAskOf n x) = .grant row sd tier drop)
include hj

theorem exec_lpuAsk_grant (hp : s.offerResult = .placed) :
    exec (.lpuAsk n x) s = .next ((s.drop (.lpuAsk n x)).changePlan
      (planWithReservation s row sd (newReservation s (placeAskOf n x) drop))
      (fun t => t.offerAnswer .lpu n (trailerGrant t (placeAskOf n x) row sd tier s.scu.config.holdBeats)) []) := by
  rw [exec, execLpuAsk, taken_running hl]
  simp only [judgeAsk_drop, hj, State.drop_offerResult, hp]
  rfl

theorem exec_lpuAsk_grant_refused (hp : s.offerResult ≠ .placed) :
    exec (.lpuAsk n x) s = .next (s.drop (.lpuAsk n x)) := by
  rw [exec, execLpuAsk, taken_running hl]
  simp only [judgeAsk_drop, hj, State.drop_offerResult]

end

end

/-! ## The bay's own drain answered (R114 to R116) -/

section
variable {a : OwnAsk}

theorem exec_ownTrailerAsk_refuse {reason : RefuseReason} (hj : judgeAsk s (placeAskOfOwn a) = .refuse reason) :
    exec (.ownTrailerAsk a) s =
      .next ((s.drop (.ownTrailerAsk a)).hand (.ownTrailerAnswer a.pallet (.refused reason))) := by
  rw [exec, execOwnTrailerAsk, taken_running hl]
  simp only [judgeAsk_drop, hj]

theorem exec_ownTrailerAsk_regrant {row tier : Nat} {sd : Side} {r : Reservation}
    (hj : judgeAsk s (placeAskOfOwn a) = .regrant row sd tier r) :
    exec (.ownTrailerAsk a) s = .next ((s.drop (.ownTrailerAsk a)).hand
      (.ownTrailerAnswer a.pallet (.granted row sd tier (r.expiry - s.dcu.beat)))) := by
  rw [exec, execOwnTrailerAsk, taken_running hl]
  simp only [judgeAsk_drop, hj]
  rfl

theorem exec_ownTrailerAsk_grant {row tier : Nat} {sd : Side} {drop : Phase}
    (hj : judgeAsk s (placeAskOfOwn a) = .grant row sd tier drop) :
    exec (.ownTrailerAsk a) s = .next ((s.drop (.ownTrailerAsk a)).changePlan
      (planWithReservation s row sd (newReservation s (placeAskOfOwn a) drop))
      (fun t => t.hand (.ownTrailerAnswer a.pallet (.granted row sd tier s.scu.config.holdBeats))) []) := by
  rw [exec, execOwnTrailerAsk, taken_running hl]
  simp only [judgeAsk_drop, hj]
  rfl

end

end

/-- R116: the change of contents of a grant stores the reservation, with OVER clear, and answers; the bay is not
CLOSING. -/
theorem changePlan_reserving {s : State} (h : PlanFits s.plan) {a : PlaceAsk} {row tier : Nat} {sd : Side}
    {drop : Phase} (hj : judgeAsk s a = .grant row sd tier drop) (c : Instr) {f : State → State}
    (hf : ∀ u, (f u).dcu = u.dcu) : ∃ p : Plan, p.overLimit = false ∧
      p = addWeight s.planClass (pushTier { s.plan with overLimit := false } row sd
        (.reserved (newReservation s a drop))) row a.weight ∧
      (s.drop c).changePlan (planWithReservation s row sd (newReservation s a drop)) f [] =
        f ((s.drop c).setPlan p) := by
  have hs := judgeAsk_grant hj
  have hplan := withOver_planWithReservation hs (r := newReservation s a drop) rfl
  refine ⟨_, rfl, rfl, ?_⟩
  rw [State.changePlan_of_fits _ (h.reserving hs _), State.drop_planClass, hplan, State.storePlan_not_over _ rfl,
    State.reportIfEmpty_not_closing]
  · rfl
  · rw [hf]
    have hb : s.dcu.bayState = some .outbound := (judgeAsk_grant_outbound hj).1
    simp [hb]

/-- Settles O50: the operations by their definitions, then the answers to an ASK frame and to the bay's own drain. -/
theorem grantsReserveAPlace : Obligations.GrantsReserveAPlace := by
  refine ⟨fun p s => ⟨rfl, rfl⟩, fun s => ⟨s.offerResult_muted_iff, s.offerResult_noRoom_iff, fun hm hn => ?_⟩,
    fun o s => rfl, fun c p row w => rfl, fun c payload => ?_, fun p row sd y st h1 h13 => ?_,
    fun n x reason s hl hj => ?_, fun n row tier sd x r s hl hj => ?_, fun n row tier sd drop x s hl h hj => ?_,
    fun a reason s hl hj => exec_ownTrailerAsk_refuse hl hj,
    fun row tier sd a r s hl hj => exec_ownTrailerAsk_regrant hl hj, fun row tier sd drop a s hl h hj => ?_⟩
  · cases hr : s.offerResult <;> simp_all
  · unfold grossMargin
    omega
  · refine ⟨?_, ?_, fun n sd' hn hne => ?_⟩
    · rw [stackAt_pushTier p h1 h13 sd y h1, if_pos ⟨rfl, rfl⟩]
    · rw [stackAt_setStack p row row sd sd st h1 h13 h1, if_pos ⟨rfl, rfl⟩]
    · have hne : ¬ (row = n ∧ sd = sd') := fun e => hne (by rw [e.1, e.2])
      rw [stackAt_pushTier p h1 h13 sd y hn, stackAt_setStack p row n sd sd' st h1 h13 hn, if_neg hne, if_neg hne]
      exact ⟨rfl, rfl⟩
  · rw [exec_lpuAsk_refuse hl hj]
    refine ⟨fun hp => ?_, fun hp => ?_⟩
    · rw [State.offerAnswer_placed (s := s.drop (.lpuAsk n x)) hp]
      rfl
    · rw [State.offerAnswer_refused (s := s.drop (.lpuAsk n x)) hp]
  · refine ⟨fun hp => ?_, exec_lpuAsk_regrant_refused hl hj⟩
    rw [exec_lpuAsk_regrant hl hj hp, State.offerAnswer_placed (s := s.drop (.lpuAsk n x)) hp]
    rfl
  · refine ⟨fun hp => ?_, exec_lpuAsk_grant_refused hl hj⟩
    obtain ⟨p, hover, hplan, hchange⟩ := changePlan_reserving h hj (.lpuAsk n x)
      (f := fun t => t.offerAnswer .lpu n (trailerGrant t (placeAskOf n x) row sd tier s.scu.config.holdBeats))
      fun u => u.offerAnswer_dcu _ _ _
    have hmargin : ((s.drop (.lpuAsk n x)).setPlan p).planMargin =
        grossMargin s.planClass (s.plan.payload + x.weight) := by
      have hstate : p.state = .opened := hplan ▸ (judgeAsk_grant_outbound hj).2
      rw [State.planMargin_setPlan (by simp [hstate]), hplan]
      rfl
    refine ⟨p, hover, hplan, ?_⟩
    rw [exec_lpuAsk_grant hl hj hp, hchange, State.offerAnswer_placed (s := (s.drop (.lpuAsk n x)).setPlan p) hp,
      trailerGrant, hmargin]
    rfl
  · obtain ⟨p, hover, hplan, hchange⟩ := changePlan_reserving h hj (.ownTrailerAsk a)
      (f := fun t => t.hand (.ownTrailerAnswer a.pallet (.granted row sd tier s.scu.config.holdBeats)))
      fun u => rfl
    exact ⟨p, hover, hplan, by rw [exec_ownTrailerAsk_grant hl hj, hchange]⟩

end Sys2Proof.Machine
end

section
/-! PROOFS. Reservations dropped from any plan, in form or not: what stands at each position, the two sums, and what the
steps of R87 leave (R84, R86, R87, R104). -/

namespace Sys2Proof.Machine

/-! ## Reservations dropped one after the other (R104) -/

theorem topReservation_iff {st : List Tier} {r : Reservation} :
    topReservation st = some r ↔ st.getLast? = some (.reserved r) :=
  topReservation_eq_some.trans List.getLast?_eq_some_iff.symm

section
variable {p : Plan} (c : TrailerClass)

/-- A position whose reservation is dropped keeps the tiers beneath it, and every other position its stack. -/
theorem stackAt_dropTopReservation {row : Nat} {sd : Side} {r : Reservation} (h1 : 1 ≤ row) (h13 : row ≤ 13)
    (hr : topReservation (stackAt p row sd) = some r) {n : Nat} (hn : 1 ≤ n) (sd' : Side) :
    stackAt (dropTopReservation c p row sd) n sd' =
      if row = n ∧ sd = sd' then (stackAt p row sd).dropLast else stackAt p n sd' := by
  rw [dropTopReservation_some c p row sd hr, stackAt_addWeight, popTier]
  exact stackAt_setStack p row n sd sd' _ h1 h13 hn

section
variable {x : Nat × Side × Reservation} {l : List (Nat × Side × Reservation)} (hl : StandApart p (x :: l))
include hl

/-- The first of the list: where it stands, and that none of the others stands there. -/
theorem StandApart.head : (1 ≤ x.1 ∧ x.1 ≤ 13) ∧ topReservation (stackAt p x.1 x.2.1) = some x.2.2 ∧
    (x.1, x.2.1) ∉ heldAt l :=
  ⟨hl.inTrailer x List.mem_cons_self, hl.onTop x List.mem_cons_self, (List.nodup_cons.mp hl.apart).1⟩

/-- With the first dropped, the others stand as they stood, whatever the form of the plan. -/
theorem StandApart.rest : StandApart (dropTopReservation c p x.1 x.2.1) l := by
  obtain ⟨⟨h1, h13⟩, htop, hnot⟩ := hl.head
  have hin := (List.forall_mem_cons.mp hl.inTrailer).2
  refine ⟨hin, (List.nodup_cons.mp hl.apart).2, fun y hy => ?_⟩
  rw [stackAt_dropTopReservation c h1 h13 htop (hin y hy).1, if_neg fun e => hnot ?_]
  · exact hl.onTop y (List.mem_cons_of_mem x hy)
  · exact List.mem_map.mpr ⟨y, hy, Prod.ext e.1.symm e.2.symm⟩

end

/-- Positions whose reservations are dropped keep the tiers beneath, and every other position its stack. -/
theorem StandApart.stackAt_dropAll {l : List (Nat × Side × Reservation)} (hl : StandApart p l) {n : Nat} (hn : 1 ≤ n)
    (sd : Side) : stackAt (dropAll c p l) n sd =
      if (n, sd) ∈ heldAt l then (stackAt p n sd).dropLast else stackAt p n sd := by
  induction l generalizing p with
  | nil => rfl
  | cons x l ih =>
    obtain ⟨⟨h1, h13⟩, htop, hnot⟩ := hl.head
    have hmem : (n, sd) ∈ heldAt (x :: l) ↔ (x.1 = n ∧ x.2.1 = sd) ∨ (n, sd) ∈ heldAt l := by
      rw [heldAt, List.map_cons, List.mem_cons, Prod.mk.injEq, eq_comm (a := n), eq_comm (a := sd)]
      rfl
    rw [dropAll_cons, ih (hl.rest c), stackAt_dropTopReservation c h1 h13 htop hn]
    by_cases e : x.1 = n ∧ x.2.1 = sd
    · obtain ⟨rfl, rfl⟩ := e
      rw [if_neg hnot, if_pos ⟨rfl, rfl⟩, if_pos (hmem.mpr (.inl ⟨rfl, rfl⟩))]
    · simp only [hmem, e, if_false, false_or]

/-- The grant weights of the reservations dropped leave the payload sum, and their moments the moment sum. -/
theorem StandApart.dropAll_sums {l : List (Nat × Side × Reservation)} (hl : StandApart p l) :
    (dropAll c p l).payload = p.payload - ((l.map fun x => x.2.2.grant).sum : Nat) ∧
      (dropAll c p l).moment = p.moment - (l.map fun x => (x.2.2.grant : Int) * rowDistance c x.1).sum := by
  induction l generalizing p with
  | nil => exact ⟨(Int.sub_zero _).symm, (Int.sub_zero _).symm⟩
  | cons x l ih =>
    have hx := dropTopReservation_some c p x.1 x.2.1 hl.head.2.1
    have hpay : (dropTopReservation c p x.1 x.2.1).payload = p.payload + -(x.2.2.grant : Int) := by rw [hx]; rfl
    have hmom : (dropTopReservation c p x.1 x.2.1).moment =
        p.moment + -(x.2.2.grant : Int) * rowDistance c x.1 := by rw [hx]; rfl
    obtain ⟨ihpay, ihmom⟩ := ih (hl.rest c)
    rw [dropAll_cons, ihpay, ihmom, hpay, hmom, List.map_cons, List.map_cons, List.sum_cons, List.sum_cons]
    exact ⟨by omega, by ring⟩

end

/-! ## The reservations of a plan, in order (R87) -/

theorem mem_allReservations {p : Plan} {row : Nat} {sd : Side} {r : Reservation} :
    (row, sd, r) ∈ allReservations p ↔ 1 ≤ row ∧ row ≤ 13 ∧ topReservation (stackAt p row sd) = some r := by
  rw [allReservations, mem_reservationsAt, mem_allPositions, and_assoc]

/-- Rows in order give their positions in order. -/
theorem positionsIn_pairwise {rows : List Nat} (h : rows.Pairwise (· < ·)) :
    (positionsIn rows).Pairwise ComesBefore := by
  refine List.pairwise_flatMap.mpr ⟨fun row _ => by simp [ComesBefore], h.imp fun {a b} hab y hy z hz => .inl ?_⟩
  simp only [List.mem_cons, List.not_mem_nil, or_false] at hy hz
  obtain rfl | rfl := hy <;> obtain rfl | rfl := hz <;> exact hab

theorem allPositions_pairwise : allPositions.Pairwise ComesBefore := positionsIn_pairwise (by decide)

/-- Row order, LEFT before RIGHT. -/
theorem allReservations_pairwise (p : Plan) : (allReservations p).Pairwise fun y z =>
    y.1 < z.1 ∨ y.1 = z.1 ∧ y.2.1 = .left ∧ z.2.1 = .right := by
  rw [allReservations, reservationsAt]
  refine List.pairwise_filterMap.mpr (allPositions_pairwise.imp fun {a b} hab y hy z hz => ?_)
  obtain ⟨r, -, rfl⟩ := Option.map_eq_some_iff.mp hy
  obtain ⟨q, -, rfl⟩ := Option.map_eq_some_iff.mp hz
  exact hab

/-- The reservations outside the band, by their rows. -/
theorem outsideBand_eq_filter (p : Plan) :
    outsideBand p = (allReservations p).filter fun y => decide (y.1 ∉ openBand (faceOf p)) := by
  rw [outsideBand, allReservations, reservationsAt, reservationsAt, List.filterMap_filter, List.filter_filterMap]
  refine List.filterMap_congr fun pos _ => ?_
  cases topReservation (stackAt p pos.1 pos.2) with
  | none => simp
  | some r => by_cases h : pos.1 ∈ openBand (faceOf p) <;> simp [h, Option.filter]

theorem outsideBand_standApart (p : Plan) : StandApart p (outsideBand p) := by
  have hsub : (outsideBand p).Sublist (allReservations p) := by
    rw [outsideBand_eq_filter]
    exact List.filter_sublist
  have hall := allReservations_standApart p
  exact ⟨outsideBand_inTrailer p, hall.apart.sublist (hsub.map _), fun x hx => hall.onTop x (hsub.subset hx)⟩

theorem mem_heldAt_outsideBand {p : Plan} {row : Nat} {sd : Side} (h1 : 1 ≤ row) (h13 : row ≤ 13) :
    (row, sd) ∈ heldAt (outsideBand p) ↔
      row ∉ openBand (faceOf p) ∧ (topReservation (stackAt p row sd)).isSome = true := by
  simp only [heldAt, List.mem_map, mem_outsideBand, Prod.mk.injEq, Option.isSome_iff_exists]
  constructor
  · rintro ⟨⟨row, sd, r⟩, ⟨-, hout, ht⟩, rfl, rfl⟩
    exact ⟨hout, r, ht⟩
  · rintro ⟨hout, r, ht⟩
    exact ⟨(row, sd, r), ⟨⟨h1, h13⟩, hout, ht⟩, rfl, rfl⟩

/-! ## After a change of contents (R87) -/

section
variable (c : TrailerClass) (p : Plan)

/-- The steps drop the reservations outside the band of the plan with its face row judged. -/
theorem restow_standApart : StandApart { p with face := faceOf p } (outsideBand p) :=
  ⟨(outsideBand_standApart p).inTrailer, (outsideBand_standApart p).apart, (outsideBand_standApart p).onTop⟩

theorem restow_face : (restow c p).plan.face = faceOf p :=
  dropAll_face c { p with face := faceOf p } (outsideBand p)

theorem restow_stackAt {row : Nat} (h1 : 1 ≤ row) (h13 : row ≤ 13) (sd : Side) :
    stackAt (restow c p).plan row sd =
      if row ∉ openBand (faceOf p) ∧ (topReservation (stackAt p row sd)).isSome then
        (stackAt p row sd).dropLast else stackAt p row sd := by
  have h : stackAt (restow c p).plan row sd =
      if (row, sd) ∈ heldAt (outsideBand p) then (stackAt p row sd).dropLast else stackAt p row sd :=
    (restow_standApart p).stackAt_dropAll c h1 sd
  simp only [h, mem_heldAt_outsideBand h1 h13]

theorem restow_payload : (restow c p).plan.payload =
    p.payload - ((((restow c p).stranded.map Reservation.grant).sum : Nat) : Int) := by
  have h : (restow c p).plan.payload = p.payload - (((outsideBand p).map fun x => x.2.2.grant).sum : Nat) :=
    ((restow_standApart p).dropAll_sums c).1
  rw [h, restow_eq, List.map_map]
  rfl

theorem restow_moment : (restow c p).plan.moment = p.moment - strandedMoment c p := by
  rw [strandedMoment, ← outsideBand_eq_filter]
  exact ((restow_standApart p).dropAll_sums c).2

theorem restow_overLimit : (restow c p).plan.overLimit =
    overLoaded c (restow c p).plan.payload (restow c p).plan.moment := rfl

theorem restow_stranded : (restow c p).stranded =
    ((allReservations p).filter fun y => decide (y.1 ∉ openBand (faceOf p))).map fun y => y.2.2 := by
  rw [← outsideBand_eq_filter]
  rfl

/-- The steps change the stacks, the face row, the sums and OVER alone. -/
theorem restow_plan_eq : ∃ v f x m b, (restow c p).plan =
    { p with floorStacks := v, face := f, payload := x, moment := m, overLimit := b } := by
  obtain ⟨v, x, m, e⟩ := dropAll_eq c { p with face := faceOf p } (outsideBand p)
  exact ⟨v, _, x, m, _, by rw [restow_eq, e]; rfl⟩

end

end Sys2Proof.Machine
end

section
/-! PROOFS. What an event of the load plan unit offers and hands on, exactly: the frames in their order, and the events
behind those that wait (R87, R93, R125, R130). -/

namespace Sys2Proof.Machine

/-- From one state to the next the LPU offers frames, of which those that find room are placed, and hands events on,
each in order; the configuration stands. -/
structure LpuActs (s t : State) (l : List OwnedFrame) (m : List Instr) : Prop where
  offers : LpuOffers s t l
  placed : s.fbi.mute = false → t.fbi = (l.take (roomFor s)).foldl framePlaced s.fbi
  handed : HandsOn s t m
  scu : t.scu = s.scu

theorem LpuActs.trans {s t u : State} {l l' : List OwnedFrame} {m m' : List Instr} (h : LpuActs s t l m)
    (g : LpuActs t u l' m') : LpuActs s u (l ++ l') (m ++ m') where
  offers := h.offers.trans g.offers
  placed hm := by
    rw [g.placed (h.offers.mute.trans hm), h.placed hm, h.offers.roomFor hm, List.take_append, List.foldl_append]
  handed := g.handed.trans (by rw [h.handed, List.append_assoc])
  scu := g.scu.trans h.scu

/-- Muted, the frames are dropped, whatever they were. -/
theorem LpuActs.congr {s t : State} {l l' : List OwnedFrame} {m m' : List Instr} (h : LpuActs s t l m)
    (e : s.fbi.mute = false → l = l') (e' : m = m') : LpuActs s t l' m' where
  offers := h.offers.congr e
  placed hm := e hm ▸ h.placed hm
  handed := e' ▸ h.handed
  scu := h.scu

/-- Without a frame the FBI stands, muted or not. -/
theorem LpuActs.fbi_eq {s t : State} {m : List Instr} (h : LpuActs s t [] m) : t.fbi = s.fbi := by
  cases hm : s.fbi.mute with
  | true => exact (h.offers.frames.1 hm).1
  | false => simpa using h.placed hm

theorem LpuActs.own_eq {s t : State} {l : List OwnedFrame} {m : List Instr} (h : LpuActs s t l m) : t.own = s.own := by
  rw [State.own, State.own, h.scu]

theorem roomFor_of_placed {s : State} (h : s.offerResult = .placed) : 0 < roomFor s := by
  rw [roomFor, if_pos h]
  exact Nat.sub_pos_of_lt (State.offerResult_placed h).2

theorem roomFor_of_noRoom {s : State} (h : s.offerResult = .noRoom) : roomFor s = 0 :=
  if_neg (by simp [h])

section
variable {s t : State} {x : OwnedFrame} {m : List Instr} (h : LpuActs s t [x] m)
include h

/-- A frame offered alone, with room, is placed at the tail. -/
theorem LpuActs.fbi_of_placed (hp : s.offerResult = .placed) : t.fbi = (s.placeFrame (.owned x)).fbi := by
  rw [h.placed (State.offerResult_placed hp).1, List.take_of_length_le (roomFor_of_placed hp)]
  rfl

/-- A frame offered alone, without room, is owed where fewer than 8 are. -/
theorem LpuActs.owed_of_noRoom (hn : s.offerResult = .noRoom) (h8 : s.lpu.owed.length < 8) :
    t.fbi = s.fbi ∧ t.lpu.owed = s.lpu.owed ++ [x] := by
  have hm := (s.offerResult_noRoom_iff.mp hn).1
  have hroom := roomFor_of_noRoom hn
  have howed := (h.offers.frames.2 hm).2
  have hle : [x].length ≤ 8 - s.lpu.owed.length := Nat.le_sub_of_add_le' h8
  rw [hroom, List.drop_zero, List.take_of_length_le hle] at howed
  exact ⟨by rw [h.placed hm, hroom]; rfl, howed⟩

end

section
variable (s : State)

/-- A plan stored and events handed on. -/
theorem State.setPlan_handAll_acts (p : Plan) (m : List Instr) : LpuActs s ((s.setPlan p).handAll m) [] m where
  offers := .none rfl rfl rfl rfl rfl
  handed := rfl
  placed _ := by simp
  scu := rfl

theorem State.handAll_acts (m : List Instr) : LpuActs s (s.handAll m) [] m := s.setPlan_handAll_acts s.plan m

theorem State.hand_acts (c : Instr) : LpuActs s (s.hand c) [] [c] := s.handAll_acts [c]

theorem LpuActs.refl : LpuActs s s [] [] := by
  have h := s.handAll_acts []
  rwa [State.handAll_nil] at h

/-- The plan stored, OVER raised when it is newly set (R93). -/
theorem State.storePlan_acts (p : Plan) : LpuActs s (s.storePlan p) [] (overRaised s.plan p) := by
  rw [State.storePlan, State.raiseIf_eq_handAll]
  exact s.setPlan_handAll_acts p _

/-- The report of CLOSING made (R125). -/
theorem State.reportIfEmpty_acts : LpuActs s s.reportIfEmpty [] (closingReport s s.plan) := by
  unfold State.reportIfEmpty closingReport
  split
  · exact s.hand_acts _
  · exact .refl s

theorem State.lpuOffer_acts (n : Nat) (b : Body) : LpuActs s (s.lpuOffer n b)
    [{ owner := .lpu, built := s.serial, target := n, body := b }] [] where
  offers := s.lpuOffer_offers n b
  placed hm := by
    obtain ⟨hp, e⟩ | ⟨hn, e⟩ | ⟨hmuted, -⟩ := s.lpuOffer_cases n b
    · rw [e, List.take_of_length_le (roomFor_of_placed hp)]
      rfl
    · rw [e, roomFor_of_noRoom hn, State.lpuOwe_fbi]
      rfl
    · simp [s.offerResult_muted_iff.mp hmuted] at hm
  handed := by
    obtain ⟨f, k, o, e⟩ := s.lpuOffer_eq n b
    rw [e]
    exact (List.append_nil _).symm
  scu := by
    obtain ⟨f, k, o, e⟩ := s.lpuOffer_eq n b
    rw [e]

/-- A reservation given up: a frame to a peer, or an answer within the bay (R117). -/
theorem State.giveUp_acts (x : ReleaseReason) (r : Reservation) :
    LpuActs s (s.giveUp x r) (releaseFrames x s.serial [r]) (releaseAnswers x [r]) := by
  unfold State.giveUp
  split
  · rename_i hr
    simpa [releaseFrames, releaseAnswers, hr] using s.hand_acts (.ownTrailerAnswer r.pallet (.released x))
  · rename_i hr
    simpa [releaseFrames, releaseAnswers, hr] using s.lpuOffer_acts r.asker
      (.release { pallet := r.pallet, asker := r.asker, seq := r.seq.getD 0, reason := x })

/-- Reservations given up one after the other. -/
theorem State.giveUpAll_acts (x : ReleaseReason) (l : List Reservation) :
    LpuActs s (s.giveUpAll x l) (releaseFrames x s.serial l) (releaseAnswers x l) := by
  induction l generalizing s with
  | nil => exact .refl s
  | cons r l ih =>
    have h := s.giveUp_acts x r
    refine (h.trans (ih (s.giveUp x r))).congr (fun hm => ?_) (releaseAnswers_append x [r] l).symm
    rw [h.offers.serial hm]
    exact (releaseFrames_append x s.serial [r] l).symm

theorem State.changePlan_eq (p : Plan) (f : State → State) (taken : List Reservation) : s.changePlan p f taken =
    ((f (s.storePlan (restow s.planClass p).plan)).giveUpAll .stranded
      (taken ++ (restow s.planClass p).stranded)).reportIfEmpty :=
  congrArg State.reportIfEmpty List.foldl_append.symm

theorem closingReport_congr {s t : State} (h : t.dcu = s.dcu) (p : Plan) : closingReport t p = closingReport s p := by
  rw [closingReport, closingReport, State.inState, State.inState, h]

/-- R87, R93 and R125: a change of contents stores the plan, raising OVER when it is newly set, answers, gives up the
reservations taken along and those stranded, and makes the report of CLOSING. -/
theorem State.changePlan_acts (p : Plan) {f : State → State} (taken : List Reservation) {l : List OwnedFrame}
    {m : List Instr} (hp : ∀ u, (f u).plan = u.plan)
    (hf : LpuActs (s.storePlan (restow s.planClass p).plan) (f (s.storePlan (restow s.planClass p).plan)) l m) :
    LpuActs s (s.changePlan p f taken)
      (l ++ releaseFrames .stranded (s.serial + l.length) (taken ++ (restow s.planClass p).stranded))
      (overRaised s.plan (restow s.planClass p).plan ++ m ++
        releaseAnswers .stranded (taken ++ (restow s.planClass p).stranded) ++
        closingReport s (restow s.planClass p).plan) := by
  rw [State.changePlan_eq]
  generalize restow s.planClass p = r at hf ⊢
  have hanswer := (s.storePlan_acts r.plan).trans hf
  have hgive := hanswer.trans ((f (s.storePlan r.plan)).giveUpAll_acts .stranded (taken ++ r.stranded))
  have hplan : ((f (s.storePlan r.plan)).giveUpAll .stranded (taken ++ r.stranded)).plan = r.plan := by simp [hp]
  refine (hgive.trans (State.reportIfEmpty_acts _)).congr (fun hm => ?_) ?_
  · rw [hanswer.offers.serial hm]
    simp
  · rw [hplan, closingReport_congr hgive.offers.dcu]

end

end Sys2Proof.Machine
end

section
/-! PROOFS. Reservations that end (O51): by expiry, by a LATE or CANCEL of their asker, and with a GRANT that was not
sent (R117 to R119, R22). -/

namespace Sys2Proof.Machine

/-! ## The reservation of a pallet -/

theorem State.findReservation_iff {s : State} {pallet row : Nat} {sd : Side} {r : Reservation} :
    s.findReservation pallet = some (row, sd, r) ↔
      ∃ x, findInPlan s.plan pallet = some x ∧ x.row = row ∧ x.side = sd ∧ x.tier = .reserved r := by
  unfold State.findReservation
  cases findInPlan s.plan pallet with
  | none => simp
  | some x => cases h : x.tier <;> simp [h]

@[simp] theorem State.drop_findReservation (s : State) (c : Instr) (pallet : Nat) :
    (s.drop c).findReservation pallet = s.findReservation pallet := rfl

/-- In a plan in form it is the top tier of its position. -/
theorem PlanFits.topReservation_of_found {s : State} (h : PlanFits s.plan) {pallet row : Nat} {sd : Side}
    {r : Reservation} (hr : s.findReservation pallet = some (row, sd, r)) :
    topReservation (stackAt s.plan row sd) = some r := by
  obtain ⟨x, hx, rfl, rfl, ht⟩ := State.findReservation_iff.mp hr
  exact topReservation_eq_some.mpr (h.contents.top_of_found hx ht)

/-! ## A reservation removed (R104, R117 to R119) -/

/-- The plan that the removal of a reservation leaves, OVER judged. -/
def State.planAfterRemoval (s : State) (row : Nat) (sd : Side) (r : Reservation) : Plan :=
  withOver s.planClass (planWithoutTop s row sd r.grant)

section
variable {s : State} (h : PlanFits s.plan) {pallet row : Nat} {sd : Side} {r : Reservation}
  (hr : s.findReservation pallet = some (row, sd, r))
include h hr

/-- The removal strands no other reservation: face row and band stand. -/
theorem State.removeReservation_eq (f : State → State) : s.removeReservation row sd f =
    (f (s.storePlan (s.planAfterRemoval row sd r))).reportIfEmpty := by
  obtain ⟨h1, h13⟩ := State.findReservation_some hr
  rw [State.removeReservation, State.changePlan_of_fits s (h.dropTop s.planClass h1 h13 sd),
    dropTopReservation_some _ _ _ _ (h.topReservation_of_found hr)]
  rfl

/-- The plan is left without the reservation; OVER is raised when it is newly set, the event answered, and the report
of CLOSING made. -/
theorem State.removeReservation_acts {f : State → State} {l : List OwnedFrame} {m : List Instr}
    (hp : ∀ u, (f u).plan = u.plan) (hf : ∀ u, u.serial = s.serial → LpuActs u (f u) l m) :
    (s.removeReservation row sd f).plan = s.planAfterRemoval row sd r ∧
      LpuActs s (s.removeReservation row sd f) l
        (overRaised s.plan (s.planAfterRemoval row sd r) ++ m ++ closingReport s (s.planAfterRemoval row sd r)) := by
  rw [State.removeReservation_eq h hr f]
  generalize s.planAfterRemoval row sd r = q
  have hserial : (s.storePlan q).serial = s.serial := by
    rw [State.storePlan, State.raiseIf_eq_handAll]
    rfl
  have hanswer := (s.storePlan_acts q).trans (hf _ hserial)
  have hplan : (f (s.storePlan q)).plan = q := by simp [hp]
  refine ⟨(State.reportIfEmpty_plan _).trans hplan, (hanswer.trans (State.reportIfEmpty_acts _)).congr (fun _ => ?_) ?_⟩
  · simp
  · rw [hplan, closingReport_congr hanswer.offers.dcu]

/-- Without a frame and without an answer, as by a LATE or CANCEL. -/
theorem State.removeReservation_quiet : (s.removeReservation row sd id).fbi = s.fbi ∧
    (s.removeReservation row sd id).plan = s.planAfterRemoval row sd r ∧
    HandsOn s (s.removeReservation row sd id) (overRaised s.plan (s.removeReservation row sd id).plan ++
      closingReport s (s.removeReservation row sd id).plan) := by
  obtain ⟨hplan, hacts⟩ := State.removeReservation_acts h hr (f := id) (fun _ => rfl) fun u _ => .refl u
  rw [List.append_nil] at hacts
  exact ⟨hacts.fbi_eq, hplan, hplan ▸ hacts.handed⟩

end

/-- The plan without the top reservation of a position differs there and in the sums alone (R104). -/
theorem stackAt_planWithoutTop (s : State) {row : Nat} (h1 : 1 ≤ row) (h13 : row ≤ 13) (sd : Side) (grant : Nat)
    {n : Nat} (hn : 1 ≤ n) (sd' : Side) : stackAt (planWithoutTop s row sd grant) n sd' =
      if row = n ∧ sd = sd' then (stackAt s.plan row sd).dropLast else stackAt s.plan n sd' :=
  stackAt_setStack s.plan row n sd sd' _ h1 h13 hn

/-! ## The commands -/

theorem granterReason_eq_false {reason : ReleaseReason} :
    granterReason reason = false ↔ reason = .late ∨ reason = .cancel := by
  cases reason <;> simp [granterReason]

section
variable {s : State} (hl : s.resetLine = false)
include hl

section
variable {p row : Nat} {sd : Side} {r : Reservation}

/-- R117: an expiry that is due. -/
theorem exec_reservationExpiry_due (ho : s.plan.state = .opened) (hr : s.findReservation p = some (row, sd, r))
    (he : r.expiry ≤ s.dcu.beat) : exec (.reservationExpiry p) s =
      .next ((s.drop (.reservationExpiry p)).removeReservation row sd fun t => t.giveUp .expired r) := by
  rw [exec, execReservationExpiry, taken_running hl]
  simp [hr, planOpen, ho, State.now_eq, he]

theorem exec_reservationExpiry_none (hr : s.findReservation p = none) :
    exec (.reservationExpiry p) s = .next (s.drop (.reservationExpiry p)) := by
  rw [exec, execReservationExpiry, taken_running hl]
  simp only [State.drop_findReservation, hr]

/-- An expiry that is not due (notes/assumptions/3.md). -/
theorem exec_reservationExpiry_early (hr : s.findReservation p = some (row, sd, r)) (he : s.dcu.beat < r.expiry) :
    exec (.reservationExpiry p) s = .next (s.drop (.reservationExpiry p)) := by
  have he : ¬ r.expiry ≤ s.dcu.beat := Nat.not_le.mpr he
  rw [exec, execReservationExpiry, taken_running hl]
  simp [hr, State.now_eq, he]

end

section
variable {n : Nat} {x : ReleaseBody}

/-- R119: a LATE or CANCEL of the reservation's asker. -/
theorem exec_lpuRelease_asker {row : Nat} {sd : Side} {r : Reservation} (ho : s.plan.state = .opened)
    (hr : s.findReservation x.pallet = some (row, sd, r)) (ha : r.asker = x.asker)
    (hx : x.reason = .late ∨ x.reason = .cancel) :
    exec (.lpuRelease n x) s = .next ((s.drop (.lpuRelease n x)).removeReservation row sd id) := by
  rw [exec, execLpuRelease, taken_running hl]
  simp [hr, planOpen, ho, ha, granterReason_eq_false.mpr hx]

theorem exec_lpuRelease_other
    (h : ∀ row sd r, s.findReservation x.pallet = some (row, sd, r) → r.asker ≠ x.asker) :
    exec (.lpuRelease n x) s = .next (s.drop (.lpuRelease n x)) := by
  rw [exec, execLpuRelease, taken_running hl]
  cases hr : s.findReservation x.pallet with
  | none => simp only [State.drop_findReservation, hr]
  | some y =>
    obtain ⟨row, sd, r⟩ := y
    simp only [State.drop_findReservation, hr, h row sd r hr, and_false, if_false]

end

section
variable {p : Nat} {reason : ReleaseReason}

/-- R119: a reservation of the bay's own drain given up by the MLU. -/
theorem exec_ownDrainRelease_own {row : Nat} {sd : Side} {r : Reservation} (ho : s.plan.state = .opened)
    (hr : s.findReservation p = some (row, sd, r)) (ha : r.asker = 0) (hx : reason = .late ∨ reason = .cancel) :
    exec (.ownDrainRelease p reason) s = .next ((s.drop (.ownDrainRelease p reason)).removeReservation row sd id) := by
  rw [exec, execOwnDrainRelease, taken_running hl]
  simp [hr, planOpen, ho, ha, granterReason_eq_false.mpr hx]

theorem exec_ownDrainRelease_other (h : ∀ row sd r, s.findReservation p = some (row, sd, r) → r.asker ≠ 0) :
    exec (.ownDrainRelease p reason) s = .next (s.drop (.ownDrainRelease p reason)) := by
  rw [exec, execOwnDrainRelease, taken_running hl]
  cases hr : s.findReservation p with
  | none => simp only [State.drop_findReservation, hr]
  | some y =>
    obtain ⟨row, sd, r⟩ := y
    simp only [State.drop_findReservation, hr, h row sd r hr, and_false, if_false]

end

end

/-! ## A GRANT told "send failed" (R22, R118) -/

section
variable {s : State} {f : OwnedFrame} {g : GrantBody} (ho : f.owner = .lpu) (hb : f.body = .grant g)
include ho hb

theorem State.toldFailed_lpuGrant : s.toldFailed f = s.lpuGrantFailed g := by
  simp only [State.toldFailed, hb, State.grantFailed, ho]

theorem State.toldFailed_lpuGrant_match {row : Nat} {sd : Side} {r : Reservation}
    (hr : s.findReservation g.pallet = some (row, sd, r)) (ha : r.asker = g.asker) (hq : r.seq = some g.seq) :
    s.toldFailed f = s.removeReservation row sd id := by
  rw [State.toldFailed_lpuGrant ho hb]
  simp only [State.lpuGrantFailed, hr, ha, hq, and_self, if_true]

theorem State.toldFailed_lpuGrant_other
    (h : ∀ row sd r, s.findReservation g.pallet = some (row, sd, r) → r.asker ≠ g.asker ∨ r.seq ≠ some g.seq) :
    s.toldFailed f = s := by
  rw [State.toldFailed_lpuGrant ho hb, State.lpuGrantFailed]
  cases hr : s.findReservation g.pallet with
  | none => rfl
  | some y =>
    obtain ⟨row, sd, r⟩ := y
    exact if_neg fun ⟨ha, hq⟩ => (h row sd r hr).elim (· ha) (· hq)

end

/-! ## A reservation given up, by its asker (R117) -/

section
variable {x : ReleaseReason} {n : Nat} {r : Reservation}

theorem releaseFrames_own (h : r.asker = 0) : releaseFrames x n [r] = [] := by simp [releaseFrames, h]

theorem releaseAnswers_own (h : r.asker = 0) :
    releaseAnswers x [r] = [.ownTrailerAnswer r.pallet (.released x)] := by simp [releaseAnswers, h]

theorem releaseFrames_peer (h : r.asker ≠ 0) : releaseFrames x n [r] =
    [{ owner := .lpu, built := n, target := r.asker, body := .release
        { pallet := r.pallet, asker := r.asker, seq := r.seq.getD 0, reason := x } }] := by
  simp [releaseFrames, h]

theorem releaseAnswers_peer (h : r.asker ≠ 0) : releaseAnswers x [r] = [] := by simp [releaseAnswers, h]

end

/-- Settles O51: the plan without a reservation, then each event that may end one. -/
theorem reservationsEnd : Obligations.ReservationsEnd := by
  refine ⟨fun p reason s hl => ⟨exec_reservationExpiry_none hl, exec_ownDrainRelease_other hl⟩,
    fun c p => ⟨rfl, rfl⟩, fun row grant sd s h1 h13 => ⟨rfl, ?_, ?_, fun n sd' hn hne => ?_, rfl⟩,
    fun p row sd r s => State.findReservation_iff, fun p row sd r s hl h ho hr he => ?_,
    fun p row sd r s hl hr he => exec_reservationExpiry_early hl hr he,
    fun n row sd x r s hl h ho hr ha hx => ⟨_, exec_lpuRelease_asker hl ho hr ha hx, ?_⟩,
    fun n x s hl hx => exec_lpuRelease_other hl hx,
    fun p row sd reason r s hl h ho hr ha hx => ⟨_, exec_ownDrainRelease_own hl ho hr ha hx, ?_⟩,
    fun p reason s hl hn => exec_ownDrainRelease_other hl (by simp [hn]), fun f g s ho hb =>
      ⟨fun row sd r h hr ha hq => ?_, State.toldFailed_lpuGrant_other ho hb⟩⟩
  · have hmom : (planWithoutTop s row sd grant).moment =
        s.plan.moment + -(grant : Int) * rowDistance s.planClass row := rfl
    rw [hmom]
    ring
  · rw [stackAt_planWithoutTop s h1 h13 sd grant h1, if_pos ⟨rfl, rfl⟩]
  · rw [stackAt_planWithoutTop s h1 h13 sd grant hn, if_neg fun e => hne (by rw [e.1, e.2])]
  · obtain ⟨hplan, hacts⟩ := State.removeReservation_acts (s := s.drop (.reservationExpiry p)) h hr
      (f := fun t => t.giveUp .expired r) (fun u => u.giveUp_plan _ _)
      fun u hu => hu ▸ u.giveUp_acts .expired r
    refine ⟨_, exec_reservationExpiry_due hl ho hr he, hplan, fun ha => ?_, ?_⟩
    · rw [releaseFrames_own ha, releaseAnswers_own ha, List.append_assoc] at hacts
      exact ⟨hacts.fbi_eq, hplan ▸ hacts.handed⟩
    · simp only [← forall_and]
      intro ha
      rw [releaseFrames_peer ha, releaseAnswers_peer ha, List.append_nil] at hacts
      exact ⟨hplan ▸ hacts.handed, hacts.fbi_of_placed, hacts.owed_of_noRoom, hacts.offers.frames⟩
  · exact State.removeReservation_quiet (s := s.drop (.lpuRelease n x)) h hr
  · exact State.removeReservation_quiet (s := s.drop (.ownDrainRelease p reason)) h hr
  · rw [State.toldFailed_lpuGrant_match ho hb hr ha hq]
    exact State.removeReservation_quiet h hr

end Sys2Proof.Machine
end

section
/-! PROOFS. Reads into the trailer (O52): a landing at the reservation, a walk-in landed or refused, and stray reads
(R120 to R125). -/

namespace Sys2Proof.Machine

/-! ## Places announced (R125) -/

section
variable (s : State)

/-- A PLACED offered, then the notes to the DSU and the MLU. -/
theorem State.announcePlaced_acts (pallet asker row : Nat) (sd : Side) (tier : Nat) :
    LpuActs s (s.announcePlaced pallet asker row sd tier)
      [{ owner := .lpu, built := s.serial, target := 0, body := .placed
          { pallet := pallet, asker := asker, place := .trailer row sd tier, margin := s.planMargin } }]
      [.placedNote pallet asker (.trailer row sd tier), .mluPlaced s.own
        { pallet := pallet, asker := asker, place := .trailer row sd tier, margin := s.planMargin }] :=
  ((s.lpuOffer_acts 0 _).trans (State.hand_acts _ _)).trans (State.hand_acts _ _)

theorem State.indicate_acts (n : IndicationName) : LpuActs s (s.indicate .lpu n none) []
    [.indicationRequest { source := .lpu, indication := indicationOf s.own n, pallet := none }] := s.hand_acts _

/-- A tier landed: the plan changed, the place announced, and shown last (R121, R124). -/
def State.placing (p : Plan) (pallet asker row : Nat) (sd : Side) (tier : Nat) (n : IndicationName) : State :=
  (s.changePlan p (fun t => t.announcePlaced pallet asker row sd tier) []).indicate .lpu n none

/-- The PLACED of a tier landed, with the margin of the plan that the landing leaves (R125). -/
def State.placedBody (p : Plan) (pallet asker row : Nat) (sd : Side) (tier : Nat) : PlacedBody :=
  { pallet := pallet, asker := asker, place := .trailer row sd tier, margin := (s.setPlan p).planMargin }

theorem State.land_eq (r : PalletRead) (row : Nat) (sd : Side) (tier : Nat) (res : Reservation) :
    s.land r row sd tier res = (s.handAll (scaleRaised r.scale)).placing
      (planWithLanding s row sd res (landingWeight r res)) res.pallet res.asker row sd tier (.loadAt row sd tier) := by
  rw [State.land, State.raiseIf_eq_handAll]
  rfl

theorem State.landWalkin_eq (r : PalletRead) (row : Nat) (sd : Side) (tier : Nat) (drop : Phase) :
    s.landWalkin r row sd tier drop =
      s.placing (planWithWalkin s row sd r drop) r.pallet 0 row sd tier (.walkinAt row sd tier) := rfl

/-- A tier landed stores the plan, offers the PLACED and then the releases it calls for, and hands on its notes, the
answers to the bay's own drain, the report of CLOSING and the indication. -/
theorem State.placing_acts (p : Plan) (pallet asker row : Nat) (sd : Side) (tier : Nat) (n : IndicationName)
    {q : Restowed} (hq : q = restow s.planClass p) :
    (s.placing p pallet asker row sd tier n).plan = q.plan ∧
      LpuActs s (s.placing p pallet asker row sd tier n)
        ({ owner := .lpu, built := s.serial, target := 0
           body := .placed (s.placedBody q.plan pallet asker row sd tier) } ::
          releaseFrames .stranded (s.serial + 1) q.stranded)
        (overRaised s.plan q.plan ++
          [.placedNote pallet asker (.trailer row sd tier),
            .mluPlaced s.own (s.placedBody q.plan pallet asker row sd tier)] ++
          releaseAnswers .stranded q.stranded ++ closingReport s q.plan ++
          [.indicationRequest { source := .lpu, indication := indicationOf s.own n, pallet := none }]) := by
  have hannounce : LpuActs (s.storePlan q.plan) ((s.storePlan q.plan).announcePlaced pallet asker row sd tier)
      [{ owner := .lpu, built := s.serial, target := 0
         body := .placed (s.placedBody q.plan pallet asker row sd tier) }]
      [.placedNote pallet asker (.trailer row sd tier),
        .mluPlaced s.own (s.placedBody q.plan pallet asker row sd tier)] := by
    have h := (s.storePlan q.plan).announcePlaced_acts pallet asker row sd tier
    rw [State.storePlan, State.raiseIf_eq_handAll] at h ⊢
    exact h
  have hannounced (u : State) : (u.announcePlaced pallet asker row sd tier).plan = u.plan :=
    u.announcePlaced_plan pallet asker row sd tier
  subst hq
  have hchange := s.changePlan_acts p [] hannounced hannounce
  refine ⟨s.changePlan_plan p hannounced [], (hchange.trans (State.indicate_acts _ n)).congr (fun _ => ?_) ?_⟩
  · exact List.append_nil _
  · rw [hchange.own_eq]
    rfl

end

/-- A read that lands a tier, SCALE_FAULT raised first where the scale status calls for it. -/
theorem State.placing_read (s : State) (sc : Scale) (p : Plan) (pallet asker row : Nat) (sd : Side) (tier : Nat)
    (n : IndicationName) {q : Restowed} (hq : q = restow s.planClass p) {t : State}
    (ht : t = (s.handAll (scaleRaised sc)).placing p pallet asker row sd tier n) : t.plan = q.plan ∧
    FramesOffered s t s.lpu.owed t.lpu.owed
      ({ owner := .lpu, built := s.serial, target := 0
         body := .placed (s.placedBody q.plan pallet asker row sd tier) } ::
        releaseFrames .stranded (s.serial + 1) q.stranded) ∧
    HandsOn s t (List.flatten [scaleRaised sc, overRaised s.plan q.plan,
      [.placedNote pallet asker (.trailer row sd tier),
        .mluPlaced s.own (s.placedBody q.plan pallet asker row sd tier)],
      releaseAnswers .stranded q.stranded, closingReport s q.plan,
      [.indicationRequest { source := .lpu, indication := indicationOf s.own n, pallet := none }]]) := by
  obtain ⟨hplan, hacts⟩ := State.placing_acts (s.handAll (scaleRaised sc)) p pallet asker row sd tier n hq
  have hread := (s.handAll_acts (scaleRaised sc)).trans hacts
  subst ht
  refine ⟨hplan, hread.offers.frames, hread.handed.trans ?_⟩
  simp only [List.flatten_cons, List.flatten_nil, List.append_nil, List.append_assoc]
  rfl

/-! ## The weights of a read (R121, R123) -/

section
variable {r : PalletRead}

theorem landingWeight_eq {res : Reservation} {m : Nat} (hok : ∀ kg, r.scale = .ok kg → m = kg)
    (hno : (∀ kg, r.scale ≠ .ok kg) → m = res.grant) : landingWeight r res = m := by
  unfold landingWeight
  cases h : r.scale with
  | ok kg => exact (hok kg h).symm
  | zero => exact (hno (by simp [h])).symm
  | overload => exact (hno (by simp [h])).symm

theorem walkinWeight_ok {kg : Nat} (h : r.scale = .ok kg) : walkinWeight r = kg := by
  rw [walkinWeight, h]

theorem walkinWeight_other (h : ∀ kg, r.scale ≠ .ok kg) : walkinWeight r = classMaxWeight r.height := by
  unfold walkinWeight
  split
  · exact absurd ‹_› (h _)
  · rfl

end

/-! ## The command -/

section
variable {s : State} (hl : s.resetLine = false) {r : PalletRead}
include hl

/-- R121: a pallet reserved in the plan. -/
theorem exec_lpuDoorReadInto_reserved {x : Standing} {res : Reservation} (hx : findInPlan s.plan r.pallet = some x)
    (ht : x.tier = .reserved res) : exec (.lpuDoorReadInto r) s =
      .next ((s.drop (.lpuDoorReadInto r)).land r x.row x.side (x.beneath + 1) res) := by
  rw [exec, execLpuDoorReadInto, taken_running hl]
  simp only [State.drop_plan, hx, ht]

/-- R122: a pallet landed already. -/
theorem exec_lpuDoorReadInto_landed {x : Standing} {l : Landed} (hx : findInPlan s.plan r.pallet = some x)
    (ht : x.tier = .landed l) : exec (.lpuDoorReadInto r) s =
      .next ((s.drop (.lpuDoorReadInto r)).hand (.noticeRaise .strayRead)) := by
  rw [exec, execLpuDoorReadInto, taken_running hl]
  simp only [State.drop_plan, hx, ht]
  rfl

/-- R123: a pallet not in the plan; ZERO and OVER raise SCALE_FAULT first. -/
theorem exec_lpuDoorReadInto_walkin (hx : findInPlan s.plan r.pallet = none) : exec (.lpuDoorReadInto r) s =
    .next (((s.drop (.lpuDoorReadInto r)).handAll (scaleRaised r.scale)).judgeWalkin r) := by
  rw [exec, execLpuDoorReadInto, taken_running hl]
  simp only [State.drop_plan, hx, State.walkin, State.raiseIf_eq_handAll]
  rfl

end

/-! ## Walk-ins (R123, R124) -/

section
variable {s : State} {r : PalletRead}

/-- R123: any of the five cases refuses the walk-in. -/
theorem State.judgeWalkin_refused (h : s.dcu.bayState = some .closing ∨ s.plan.state ≠ .opened ∨
      (∀ drop, judgeDest s.plan r.dest ≠ .accepted drop) ∨ s.plan.overLimit = true ∨
      s.plan.mismatch = true ∨ r.scale = .overload ∨
      ∀ row sd tier, searchSpot s.planClass s.plan (walkinWeight r) r.height r.stackable ≠ .spot row sd tier) :
    s.judgeWalkin r = s.refuseWalkin := by
  unfold State.judgeWalkin
  split
  · rfl
  · rename_i hopen
    simp only [Bool.or_eq_true, State.inState_iff, planOpen, Bool.not_eq_true', decide_eq_false_iff_not, not_or,
      not_not] at hopen
    cases hd : judgeDest s.plan r.dest with
    | other => rfl
    | neither => rfl
    | accepted drop =>
      dsimp only
      split
      · rfl
      · rename_i hmarks
        simp only [Bool.or_eq_true, decide_eq_true_eq, not_or] at hmarks
        cases hs : searchSpot s.planClass s.plan (walkinWeight r) r.height r.stackable with
        | nowhere reason => rfl
        | spot row sd tier =>
          obtain ⟨⟨hover, hmismatch⟩, hscale⟩ := hmarks
          obtain h | h | h | h | h | h | h := h
          · exact absurd h hopen.1
          · exact absurd hopen.2 h
          · exact absurd hd (h drop)
          · exact absurd h hover
          · exact absurd h hmismatch
          · exact absurd h hscale
          · exact absurd hs (h row sd tier)

theorem State.refuseWalkin_eq : s.refuseWalkin = s.handAll [.indicationRequest
    { source := .lpu, indication := indicationOf s.own .refused, pallet := none }, .noticeRaise .walkinRefused] := by
  simp [State.refuseWalkin, State.indicate, State.raiseNotice, State.hand, State.handAll, State.own]

/-- R124: a walk-in that no case refuses is landed at the spot found. -/
theorem State.judgeWalkin_landed {row tier : Nat} {sd : Side} {drop : Phase} (hc : s.dcu.bayState ≠ some .closing)
    (ho : s.plan.state = .opened) (hd : judgeDest s.plan r.dest = .accepted drop) (hover : s.plan.overLimit = false)
    (hm : s.plan.mismatch = false) (hscale : r.scale ≠ .overload)
    (hs : searchSpot s.planClass s.plan (walkinWeight r) r.height r.stackable = .spot row sd tier) :
    s.judgeWalkin r = s.landWalkin r row sd tier drop := by
  have hc : s.inState .closing = false := Bool.eq_false_iff.mpr (mt (s.inState_iff .closing).mp hc)
  simp [State.judgeWalkin, hc, planOpen, ho, hd, hover, hm, hscale, hs]

end

/-- Settles O52: the reservations of a plan and the steps of R87, then each read by where its pallet stands. -/
theorem readsIntoTheTrailerLand : Obligations.ReadsIntoTheTrailerLand := by
  refine ⟨fun st r => topReservation_iff, fun p row sd r => ⟨?_, fun h => ?_⟩,
    fun p dest drop => judgeDest_accepted_iff, fun r => ⟨fun kg h => walkinWeight_ok h, walkinWeight_other⟩,
    fun c p => ⟨restow_face c p, fun row sd h1 h13 => restow_stackAt c p h1 h13 sd, restow_payload c p,
      restow_moment c p, restow_overLimit c p, ?_, restow_stranded c p, allReservations_pairwise p⟩,
    fun r x res m s hl hx ht hok hno => ?_, fun r x l s hl hx ht => exec_lpuDoorReadInto_landed hl hx ht,
    fun r s hl hx h => ?_, fun r row tier w sd drop s hl hx hc ho hd hover hm hw hs => ?_⟩
  · rw [mem_allReservations, topReservation_iff]
  · rw [mem_allReservations]
    refine and_congr_right fun h1 => and_congr_right fun h13 => ⟨fun ht => ?_, (h.contents.stack h13 sd).topReservation⟩
    exact List.mem_of_getLast? (topReservation_iff.mp ht)
  · obtain ⟨v, f, x, m, b, e⟩ := restow_plan_eq c p
    rw [e]
  · have hexec := exec_lpuDoorReadInto_reserved hl hx ht
    rw [State.land_eq, landingWeight_eq hok hno] at hexec
    obtain ⟨hplan, hframes, hhands⟩ := State.placing_read (s.drop (.lpuDoorReadInto r)) r.scale _ _ _ _ _ _ _ rfl rfl
    exact ⟨_, _, hexec, rfl, hplan, hframes, hhands⟩
  · rw [exec_lpuDoorReadInto_walkin hl hx,
      State.judgeWalkin_refused (s := (s.drop (.lpuDoorReadInto r)).handAll (scaleRaised r.scale)) h,
      State.refuseWalkin_eq]
    simp [State.handAll, State.own]
  · have hweight : walkinWeight r = w := by
      obtain hok | ⟨hzero, rfl⟩ := hw
      · exact walkinWeight_ok hok
      · exact walkinWeight_other (by simp [hzero])
    have hscale : r.scale ≠ .overload := by
      obtain hok | ⟨hzero, -⟩ := hw
      · simp [hok]
      · simp [hzero]
    have hexec := exec_lpuDoorReadInto_walkin hl hx
    rw [State.judgeWalkin_landed (s := (s.drop (.lpuDoorReadInto r)).handAll (scaleRaised r.scale)) hc ho hd hover hm
      hscale (hweight.symm ▸ hs), State.landWalkin_eq, planWithWalkin, walkinLanded, hweight] at hexec
    obtain ⟨hplan, hframes, hhands⟩ := State.placing_read (s.drop (.lpuDoorReadInto r)) r.scale _ _ _ _ _ _ _ rfl rfl
    have hreport (p : Plan) : closingReport (s.drop (.lpuDoorReadInto r)) p = [] := by
      have hclosing : s.inState .closing = false := Bool.eq_false_iff.mpr (mt (s.inState_iff .closing).mp hc)
      simp [closingReport, hclosing]
    rw [hreport] at hhands
    exact ⟨_, _, hexec, rfl, hplan, hhands, hframes⟩

end Sys2Proof.Machine
end

section
/-! PROOFS. Reads out of the trailer (O53): a band top removed, the reservation above it taken along, a mismatch, stray
reads, and CLEAR HOLD (R126 to R129). -/

namespace Sys2Proof.Machine

/-! ## A landed pallet removed (R126, R127) -/

section
variable {s : State} {x : Standing} {l : Landed}

/-- R126: the top of a position of the open band. -/
theorem State.removeLanded_top (hb : x.row ∈ openBand s.plan.face)
    (hn : x.beneath + 1 = (stackAt s.plan x.row x.side).length) :
    s.removeLanded x l = s.changePlan (planWithout s x.row x.side l) id [] := by
  simp [State.removeLanded, hb, hn]

/-- R127: directly under a reservation. -/
theorem State.removeLanded_under {res : Reservation} (hb : x.row ∈ openBand s.plan.face)
    (hn : x.beneath + 2 = (stackAt s.plan x.row x.side).length)
    (hr : topReservation (stackAt s.plan x.row x.side) = some res) :
    s.removeLanded x l = s.changePlan (planWithoutBoth s x.row x.side l) id [res] := by
  have hn1 : x.beneath + 1 ≠ (stackAt s.plan x.row x.side).length := by omega
  simp [State.removeLanded, hb, hn1, hn, hr]

/-- R128: any other landed pallet. -/
theorem State.removeLanded_mismatch (h : x.row ∉ openBand s.plan.face ∨
      x.beneath + 2 < (stackAt s.plan x.row x.side).length ∨
      x.beneath + 2 = (stackAt s.plan x.row x.side).length ∧
        topReservation (stackAt s.plan x.row x.side) = none) : s.removeLanded x l = s.mismatchRead := by
  by_cases hb : x.row ∈ openBand s.plan.face
  · obtain hout | hlt | ⟨hn, hr⟩ := h
    · exact absurd hb hout
    · have hn1 : x.beneath + 1 ≠ (stackAt s.plan x.row x.side).length := by omega
      simp [State.removeLanded, hn1, hlt.ne]
    · have hn1 : x.beneath + 1 ≠ (stackAt s.plan x.row x.side).length := by omega
      simp [State.removeLanded, hn1, hn, hr]
  · simp [State.removeLanded, hb]

theorem State.mismatchRead_eq : s.mismatchRead = (s.setPlan { s.plan with mismatch := true }).handAll
    [.noticeRaise .planMismatch, .indicationRequest
      { source := .lpu, indication := indicationOf s.own .refused, pallet := none }] := by
  simp [State.mismatchRead, State.raiseNotice, State.indicate, State.hand, State.handAll, State.own]

/-- R127: the reservation above, then the landed pallet. -/
theorem planWithoutBoth_eq {row : Nat} {sd : Side} {res : Reservation}
    (hr : topReservation (stackAt s.plan row sd) = some res) : planWithoutBoth s row sd l =
      addWeight s.planClass (popTier (addWeight s.planClass (popTier s.plan row sd) row (-(res.grant : Int)))
        row sd) row (-(l.measured : Int)) := by
  rw [planWithoutBoth, dropTopReservation_some _ _ _ _ hr]

end

/-! ## The plan after a removal (R87, R104) -/

section
variable (c : TrailerClass) (p : Plan) (row : Nat) (w : Int)

theorem restow_addWeight_payload : (restow c (addWeight c p row w)).plan.payload =
    p.payload + w - ((((restow c (addWeight c p row w)).stranded.map Reservation.grant).sum : Nat) : Int) :=
  restow_payload c (addWeight c p row w)

theorem restow_addWeight_moment : (restow c (addWeight c p row w)).plan.moment =
    p.moment + w * rowDistance c row - strandedMoment c p :=
  restow_moment c (addWeight c p row w)

theorem addWeight_moment : (addWeight c p row w).moment = p.moment + w * rowDistance c row := rfl

theorem popTier_moment (n : Nat) (sd : Side) : (popTier p n sd).moment = p.moment := rfl

/-- The tier taken off does not go by the sums. -/
theorem popTier_addWeight (n : Nat) (sd : Side) :
    popTier (addWeight c p row w) n sd = addWeight c (popTier p n sd) row w := rfl

end

/-- A removal stores the plan and gives up, with no other frame, the reservations taken along and those stranded. -/
theorem State.removal_acts (s : State) (p : Plan) (taken : List Reservation) :
    (s.changePlan p id taken).plan = (restow s.planClass p).plan ∧ LpuActs s (s.changePlan p id taken)
      (releaseFrames .stranded s.serial (taken ++ (restow s.planClass p).stranded))
      (overRaised s.plan (restow s.planClass p).plan ++
        releaseAnswers .stranded (taken ++ (restow s.planClass p).stranded) ++
        closingReport s (restow s.planClass p).plan) := by
  have hacts := s.changePlan_acts p (f := id) taken (fun _ => rfl) (.refl _)
  rw [List.append_nil] at hacts
  exact ⟨s.changePlan_plan p (fun _ => rfl) taken, hacts⟩

/-! ## The command -/

section
variable {s : State} (hl : s.resetLine = false) {r : PalletRead}
include hl

theorem exec_lpuDoorReadOut_landed {x : Standing} {l : Landed} (ho : s.plan.state = .opened)
    (hx : findInPlan s.plan r.pallet = some x) (ht : x.tier = .landed l) : exec (.lpuDoorReadOut r) s =
      .next ((s.drop (.lpuDoorReadOut r)).removeLanded x l) := by
  rw [exec, execLpuDoorReadOut, taken_running hl]
  simp [hx, ht, planOpen, ho]

/-- R126. -/
theorem exec_lpuDoorReadOut_top {x : Standing} {l : Landed} (ho : s.plan.state = .opened)
    (hx : findInPlan s.plan r.pallet = some x) (ht : x.tier = .landed l) (hb : x.row ∈ openBand s.plan.face)
    (hn : x.beneath + 1 = (stackAt s.plan x.row x.side).length) : exec (.lpuDoorReadOut r) s =
      .next ((s.drop (.lpuDoorReadOut r)).changePlan
        (addWeight s.planClass (popTier s.plan x.row x.side) x.row (-(l.measured : Int))) id []) := by
  rw [exec_lpuDoorReadOut_landed hl ho hx ht, State.removeLanded_top (s := s.drop (.lpuDoorReadOut r)) hb hn]
  rfl

/-- R127. -/
theorem exec_lpuDoorReadOut_under {x : Standing} {l : Landed} {res : Reservation} (ho : s.plan.state = .opened)
    (hx : findInPlan s.plan r.pallet = some x) (ht : x.tier = .landed l) (hb : x.row ∈ openBand s.plan.face)
    (hn : x.beneath + 2 = (stackAt s.plan x.row x.side).length)
    (hr : topReservation (stackAt s.plan x.row x.side) = some res) : exec (.lpuDoorReadOut r) s =
      .next ((s.drop (.lpuDoorReadOut r)).changePlan
        (addWeight s.planClass (popTier (addWeight s.planClass (popTier s.plan x.row x.side) x.row
          (-(res.grant : Int))) x.row x.side) x.row (-(l.measured : Int))) id [res]) := by
  rw [exec_lpuDoorReadOut_landed hl ho hx ht, State.removeLanded_under (s := s.drop (.lpuDoorReadOut r)) hb hn hr,
    planWithoutBoth_eq (s := s.drop (.lpuDoorReadOut r)) hr]
  rfl

/-- A pallet reserved or not in the plan, and any pallet of a plan that is not OPEN (notes/assumptions/22.md). -/
theorem exec_lpuDoorReadOut_stray
    (h : s.plan.state ≠ .opened ∨ ∀ x, findInPlan s.plan r.pallet = some x → isReserved x.tier = true) :
    exec (.lpuDoorReadOut r) s = .next ((s.drop (.lpuDoorReadOut r)).hand (.noticeRaise .strayRead)) := by
  rw [exec, execLpuDoorReadOut, taken_running hl]
  simp only [State.drop_plan]
  cases hx : findInPlan s.plan r.pallet with
  | none => rfl
  | some x =>
    cases ht : x.tier with
    | reserved res =>
      simp only [ht]
      rfl
    | landed l =>
      have hclosed : planOpen (s.drop (.lpuDoorReadOut r)) = false := by
        obtain ho | hres := h
        · simp [planOpen, ho]
        · simpa [ht, isReserved] using hres x hx
      simp only [ht, hclosed]
      rfl

end

/-! ## CLEAR HOLD (R129) -/

theorem exec_clearHold_set {s : State} (hr : s.ready = true) (ho : s.plan.state = .opened)
    (hm : s.plan.mismatch = true) : exec .clearHold s =
      .next ((s.setPlan { s.plan with mismatch := false }).answer .clearHold .ok .nothing) := by
  rw [exec, execClearHold, request_ready hr, if_pos ⟨by simp [planOpen, ho], hm⟩]

theorem exec_clearHold_clear {s : State} (hr : s.ready = true) (h : s.plan.state ≠ .opened ∨ s.plan.mismatch = false) :
    exec .clearHold s = .next (s.answer .clearHold .state .nothing) := by
  rw [exec, execClearHold, request_ready hr, if_neg]
  rintro ⟨ho, hm⟩
  obtain h | h := h
  · exact h (by simpa [planOpen] using ho)
  · simp [h] at hm

/-- Settles O53: a read out by where its pallet stands, then CLEAR HOLD. -/
theorem readsOutOfTheTrailerRemove : Obligations.ReadsOutOfTheTrailerRemove := by
  refine ⟨fun p row sd => rfl, fun r s hl ho => exec_lpuDoorReadOut_stray hl (.inl ho),
    fun r x l s hl ho hx ht hb hn => ?_, fun r x l res s hl ho hx ht hb hn hres => ?_,
    fun r x l s hl ho hx ht h => ?_, fun r s hl h => exec_lpuDoorReadOut_stray hl (.inr h),
    fun s hr ho hm => exec_clearHold_set hr ho hm, fun s hr h => exec_clearHold_clear hr h⟩
  · obtain ⟨hplan, hacts⟩ := State.removal_acts (s.drop (.lpuDoorReadOut r))
      (addWeight s.planClass (popTier s.plan x.row x.side) x.row (-(l.measured : Int))) []
    refine ⟨_, _, exec_lpuDoorReadOut_top hl ho hx ht hb hn, rfl, ?_, ?_, hplan, fun hnil => ?_,
      hacts.offers.frames, hacts.handed⟩
    · rw [hplan, State.drop_planClass, restow_addWeight_payload]
      rfl
    · rw [hplan, State.drop_planClass, restow_addWeight_moment, Int.neg_mul]
      rfl
    · rw [State.drop_planClass, hnil] at hacts
      exact hacts.fbi_eq
  · obtain ⟨hplan, hacts⟩ := State.removal_acts (s.drop (.lpuDoorReadOut r))
      (addWeight s.planClass (popTier (addWeight s.planClass (popTier s.plan x.row x.side) x.row
        (-(res.grant : Int))) x.row x.side) x.row (-(l.measured : Int))) [res]
    refine ⟨_, _, exec_lpuDoorReadOut_under hl ho hx ht hb hn hres, rfl, ?_, ?_, hplan, hacts.offers.frames,
      hacts.handed⟩
    · rw [hplan, State.drop_planClass, restow_addWeight_payload, popTier_addWeight]
      rfl
    · rw [hplan, State.drop_planClass, restow_addWeight_moment, popTier_addWeight, strandedMoment_addWeight,
        addWeight_moment, popTier_moment, popTier_moment]
      ring
  · rw [exec_lpuDoorReadOut_landed hl ho hx ht, State.removeLanded_mismatch (s := s.drop (.lpuDoorReadOut r)) h,
      State.mismatchRead_eq]
    rfl

end Sys2Proof.Machine
end

section
/-! PROOFS. What the operations of the marshalling lane unit keep of the lanes: their numbers, their capacity, and that
only an ASSIGNED lane holds anything (R132, R133). -/

namespace Sys2Proof.Machine

/-! ## Lanes read by number -/

theorem State.lane?_of_lanes {s t : State} (h : t.mlu.lanes = s.mlu.lanes) (k : Nat) : t.lane? k = s.lane? k := by
  rw [State.lane?, h, State.lane?]

theorem State.lane?_some {s : State} {k : Nat} {l : Lane} (h : s.lane? k = some l) :
    l ∈ s.mlu.lanes ∧ l.number = k :=
  ⟨List.mem_of_find?_eq_some h, by simpa using List.find?_some h⟩

theorem State.lane?_none {s : State} {k : Nat} (h : s.lane? k = none) : ∀ l ∈ s.mlu.lanes, l.number ≠ k := by
  simpa [State.lane?] using h

/-- Where each number has one record, a record is the one found by its number. -/
theorem find?_number_of_nodup {lanes : List Lane} (h : (lanes.map Lane.number).Nodup) {l : Lane} (hl : l ∈ lanes) :
    lanes.find? (fun x => decide (x.number = l.number)) = some l := by
  induction lanes with
  | nil => cases hl
  | cons a lanes ih =>
    rw [List.map_cons, List.nodup_cons] at h
    obtain ⟨hnot, hnodup⟩ := h
    obtain rfl | hl := List.mem_cons.mp hl
    · simp
    · have hne : a.number ≠ l.number := fun e => hnot (e ▸ List.mem_map_of_mem hl)
      rw [List.find?_cons_of_neg (by simpa using hne)]
      exact ih hnodup hl

theorem State.lane?_of_mem {s : State} (h : (s.mlu.lanes.map Lane.number).Nodup) {l : Lane} (hl : l ∈ s.mlu.lanes) :
    s.lane? l.number = some l := find?_number_of_nodup h hl

/-- Every lane is within its capacity where each that is found by its number is. -/
theorem lanesFit_iff (s : State) : LanesFit s.mlu.lanes ↔
    (s.mlu.lanes.map Lane.number).Nodup ∧ ∀ k l, s.lane? k = some l → LaneFits l :=
  ⟨fun h => ⟨h.1, fun _ _ hl => h.2 _ (State.lane?_some hl).1⟩,
    fun h => ⟨h.1, fun _ hl => h.2 _ _ (State.lane?_of_mem h.1 hl)⟩⟩

theorem LanesFit.of_lane? {s : State} (h : LanesFit s.mlu.lanes) {k : Nat} {l : Lane} (hl : s.lane? k = some l) :
    LaneFits l := h.2 l (State.lane?_some hl).1

/-- A lane's capacity goes by what `laneCore` keeps of it. -/
theorem LaneFits.of_core {l m : Lane} (h : LaneFits l) (e : laneCore m = laneCore l) : LaneFits m := by
  simp only [laneCore, Lane.mk.injEq] at e
  obtain ⟨-, ha, -, -, -, -, hi, hp, -⟩ := e
  rwa [LaneFits, ha, hi, hp]

/-! ## Operations that leave the lanes -/

theorem Only.mlu_eq {s t : State} (h : Only (allBut .mlu) s t) : t.mlu = s.mlu := h .mlu rfl

@[simp] theorem allBut_mlu_fbi : allBut .mlu .fbi = true := by decide
@[simp] theorem allBut_mlu_dsu : allBut .mlu .dsu = true := by decide
@[simp] theorem allBut_mlu_lpu : allBut .mlu .lpu = true := by decide

section
variable (s : State)

@[simp] theorem State.raiseIf_mlu (b : Bool) (k : NoticeKind) : (s.raiseIf b k).mlu = s.mlu :=
  Only.mlu_eq (by simp)

@[simp] theorem State.offerAnswer_mlu (o : Owner) (n : Nat) (b : Body) : (s.offerAnswer o n b).mlu = s.mlu :=
  Only.mlu_eq (by simp)

@[simp] theorem State.noteAsk_mlu (b : Body) : (s.noteAsk b).mlu = s.mlu := by
  cases b <;> rfl

@[simp] theorem State.placeOwedAdvert_mlu : s.placeOwedAdvert.mlu = s.mlu := Only.mlu_eq (by simp)

@[simp] theorem State.compareSequence_mlu (f : Frame) : (s.compareSequence f).mlu = s.mlu := Only.mlu_eq (by simp)

@[simp] theorem State.dsuAskFailed_mlu (a : AskBody) : (s.dsuAskFailed a).mlu = s.mlu :=
  Only.mlu_eq (only_onRecord _ _ fun i r => by split <;> simp)

@[simp] theorem State.lpuGrantFailed_mlu (b : GrantBody) : (s.lpuGrantFailed b).mlu = s.mlu := Only.mlu_eq (by simp)

@[simp] theorem State.mluOwe_lanes (f : OwnedFrame) : (s.mluOwe f).mlu.lanes = s.mlu.lanes := by
  obtain ⟨-, e⟩ | ⟨-, e⟩ := s.mluOwe_cases f <;> rw [e]

@[simp] theorem State.mluOffer_lanes (n : Nat) (b : Body) : (s.mluOffer n b).mlu.lanes = s.mlu.lanes := by
  obtain ⟨-, e⟩ | ⟨-, e⟩ | ⟨-, e⟩ := s.mluOffer_cases n b <;> simp [e]

@[simp] theorem State.cancelDrainPlace_lanes (d : Drain) : (s.cancelDrainPlace d).mlu.lanes = s.mlu.lanes := by
  unfold State.cancelDrainPlace
  repeat' split
  all_goals simp

@[simp] theorem State.giveUpPut_lanes (x : ReleaseReason) (y : Put) : (s.giveUpPut x y).mlu.lanes = s.mlu.lanes := by
  unfold State.giveUpPut
  split <;> simp

@[simp] theorem State.announcePut_lanes (a b c : Nat) (d : Bool) :
    (s.announcePut a b c d).mlu.lanes = s.mlu.lanes := by
  cases d <;> simp [State.announcePut]

@[simp] theorem State.lateDrainGrant_lanes (n : Nat) (b : GrantBody) :
    (s.lateDrainGrant n b).mlu.lanes = s.mlu.lanes := by
  unfold State.lateDrainGrant
  repeat' split
  all_goals simp

@[simp] theorem State.oweAgain_lanes (f : OwnedFrame) : (s.oweAgain f).mlu.lanes = s.mlu.lanes := by
  have owed {t : State} (h : Only (allBut .mlu) s t) : t.mlu.lanes = s.mlu.lanes := congrArg Mlu.lanes h.mlu_eq
  unfold State.oweAgain
  split
  · split <;> exact owed (by simp)
  · simp
  · split
    · exact owed (by simp)
    · rfl

end

/-! ## What a lane and the lanes keep -/

/-- From one lane record to the next the number stands and the capacity is kept. -/
structure KeepsLane (l m : Lane) : Prop where
  number : m.number = l.number
  fit : LaneFits l → LaneFits m

/-- From one list of lane records to the next the numbers stand and the capacity is kept. -/
structure KeepsLanes (old new : List Lane) : Prop where
  numbers : new.map Lane.number = old.map Lane.number
  fit : LanesFit old → LanesFit new

theorem KeepsLanes.refl (l : List Lane) : KeepsLanes l l := ⟨rfl, id⟩

theorem KeepsLanes.trans {l m n : List Lane} (h : KeepsLanes l m) (g : KeepsLanes m n) : KeepsLanes l n :=
  ⟨g.numbers.trans h.numbers, g.fit ∘ h.fit⟩

/-- A lane changed in what `laneCore` leaves out alone is kept. -/
theorem KeepsLane.of_core {l m : Lane} (e : laneCore m = laneCore l) : KeepsLane l m :=
  ⟨(Lane.mk.inj e).1, fun h => h.of_core e⟩

/-- A lane that loses contents is kept. -/
theorem KeepsLane.of_less {l : Lane} {items : List Item} {puts : List Put} (hi : items.length ≤ l.items.length)
    (hp : puts.length ≤ l.puts.length) : KeepsLane l { l with items := items, puts := puts } where
  number := rfl
  fit h := by
    obtain ⟨hfill, hempty⟩ := h
    refine ⟨?_, fun ha => ?_⟩
    · show items.length + puts.length ≤ 8
      omega
    · obtain ⟨hi0, hp0⟩ := hempty ha
      rw [hi0] at hi
      rw [hp0] at hp
      exact ⟨List.length_eq_zero_iff.mp (Nat.le_zero.mp hi), List.length_eq_zero_iff.mp (Nat.le_zero.mp hp)⟩

/-- The judgement of a lane keeps it: only an empty lane becomes FREE (R133). -/
theorem KeepsLane.freedIfEmpty (c : ConfigRecord) (l : Lane) :
    KeepsLane l (freedIfEmpty { l with high := highAfter c l }) := by
  unfold Machine.freedIfEmpty
  split
  · rename_i h
    obtain ⟨-, hi, hp, -⟩ := h
    exact ⟨rfl, fun h => ⟨h.1, fun _ => ⟨hi, hp⟩⟩⟩
  · exact ⟨rfl, id⟩

section
variable {old : List Lane} {t : State} (h : KeepsLanes old t.mlu.lanes)
include h

theorem KeepsLanes.of_lanes {u : State} (e : u.mlu.lanes = t.mlu.lanes) : KeepsLanes old u.mlu.lanes := e ▸ h

/-- A record changed keeps the lanes where the one found by its number stays within its capacity. -/
theorem KeepsLanes.updateFound (k : Nat) {f : Lane → Lane} (hn : ∀ l, (f l).number = l.number)
    (hf : LanesFit t.mlu.lanes → ∀ l, t.lane? k = some l → LaneFits (f l)) :
    KeepsLanes old (t.updateLane k f).mlu.lanes := by
  have number (l : Lane) : (if l.number = k then f l else l).number = l.number := by
    split
    · exact hn l
    · rfl
  refine h.trans ⟨by simp [Function.comp_def, number], fun hfit => (lanesFit_iff _).mpr ⟨?_, fun j m hm => ?_⟩⟩
  · simpa [Function.comp_def, number] using hfit.1
  · rw [t.lane?_updateLane k j f hn] at hm
    split at hm
    · obtain ⟨l, hl, rfl⟩ := Option.map_eq_some_iff.mp hm
      exact hf hfit l hl
    · exact hfit.of_lane? hm

theorem KeepsLanes.updateLane (k : Nat) {f : Lane → Lane} (hf : ∀ l, KeepsLane l (f l)) :
    KeepsLanes old (t.updateLane k f).mlu.lanes :=
  h.updateFound k (fun l => (hf l).number) fun hfit l hl => (hf l).fit (hfit.of_lane? hl)

/-- A change of drains or of the blocked mark alone keeps the lanes. -/
theorem KeepsLanes.updateCore (k : Nat) {f : Lane → Lane} (hf : ∀ l, laneCore (f l) = laneCore l) :
    KeepsLanes old (t.updateLane k f).mlu.lanes := h.updateLane k fun l => .of_core (hf l)

theorem KeepsLanes.updateDrain (k : Nat) (f : Drain → Drain) : KeepsLanes old (t.updateDrain k f).mlu.lanes :=
  h.updateCore k fun _ => rfl

theorem KeepsLanes.judgeLane (k : Nat) : KeepsLanes old (t.judgeLane k).mlu.lanes := by
  unfold State.judgeLane
  split
  · exact h
  · rename_i l _
    exact (h.updateLane k (KeepsLane.freedIfEmpty t.scu.config)).of_lanes (by rw [State.raiseIf_mlu])

/-! ## Drains (R139 to R144) -/

theorem KeepsLanes.beginDrainSearch (k : Nat) : KeepsLanes old (t.beginDrainSearch k).mlu.lanes := by
  unfold State.beginDrainSearch
  split
  · exact h
  · exact h.updateDrain k _

theorem KeepsLanes.drainSearchAgain (k : Nat) : KeepsLanes old (t.drainSearchAgain k).mlu.lanes :=
  (h.updateDrain k _).beginDrainSearch k

theorem KeepsLanes.judgeDrain (k : Nat) : KeepsLanes old (t.judgeDrain k).mlu.lanes := by
  unfold State.judgeDrain
  repeat' split
  · exact h
  · exact h.updateCore k fun _ => rfl
  · refine KeepsLanes.beginDrainSearch ?_ k
    exact h.updateCore k fun _ => rfl
  · exact h

omit h in
theorem KeepsLanes.foldl {α : Type} (l : List α) (f : State → α → State)
    (hf : ∀ {u : State}, KeepsLanes old u.mlu.lanes → ∀ a, KeepsLanes old (f u a).mlu.lanes)
    (h : KeepsLanes old t.mlu.lanes) : KeepsLanes old (l.foldl f t).mlu.lanes := by
  induction l generalizing t with
  | nil => exact h
  | cons a l ih => exact ih (hf h a)

theorem KeepsLanes.mluEnd : KeepsLanes old t.mluEnd.mlu.lanes := h.foldl _ _ fun hu k => hu.judgeDrain k

theorem KeepsLanes.clearDrain (k : Nat) : KeepsLanes old (t.clearDrain k).mlu.lanes :=
  (h.updateCore k (f := fun l => { l with drain := none }) fun _ => rfl).judgeLane k

theorem KeepsLanes.eachDrain (p : Drain → Bool) (f : State → Nat → Drain → State)
    (hf : ∀ {u : State}, KeepsLanes old u.mlu.lanes → ∀ k d, KeepsLanes old (f u k d).mlu.lanes) :
    KeepsLanes old (t.eachDrain p f).mlu.lanes :=
  t.eachDrain_induct (P := fun u => KeepsLanes old u.mlu.lanes) p f (fun _ k d hu _ _ => hf hu k d) h

theorem KeepsLanes.joinDrain (k n : Nat) (f : DrainSearch → DrainSearch) :
    KeepsLanes old (t.joinDrain k n f).mlu.lanes := by
  unfold State.joinDrain
  split
  · exact h
  · dsimp only
    split <;> exact h.updateDrain k _

theorem KeepsLanes.askDrain (l : Lane) (a : Item) (d : Drain) (c : List TrailerCandidate) :
    KeepsLanes old (t.askDrain l a d c).mlu.lanes := by
  unfold State.askDrain
  split
  · exact h.updateCore _ fun _ => rfl
  · dsimp only
    rename_i c _
    have asked := h.updateCore l.number
      (f := fun l => { l with blocked := false, drain := l.drain.map (drainAsked t c.bay) }) fun _ => rfl
    split <;> exact asked

theorem KeepsLanes.offerDrainAsk (l : Lane) (a : Item) (n m : Nat) :
    KeepsLanes old (t.offerDrainAsk l a n m).mlu.lanes := by
  have hb : KeepsLanes old t.bump.mlu.lanes := h
  have hseq := hb.updateDrain l.number fun d => { d with seq := some m }
  unfold State.offerDrainAsk
  cases t.offerResult
  case placed => exact hseq.of_lanes rfl
  case noRoom => exact hseq.updateDrain _ _
  case muted => exact hseq.drainSearchAgain _

theorem KeepsLanes.grantDrain (k b : Nat) (x : Place) (n : Nat) : KeepsLanes old (t.grantDrain k b x n).mlu.lanes :=
  (h.updateDrain k _).of_lanes rfl

theorem KeepsLanes.refuseDrain (k : Nat) (d : Drain) (n : Nat) (x : RefuseReason) :
    KeepsLanes old (t.refuseDrain k d n x).mlu.lanes := by
  unfold State.refuseDrain
  repeat' split
  · exact (h.updateDrain k _).drainSearchAgain k
  · exact h.updateCore k fun _ => rfl
  · exact h.updateDrain k _

theorem KeepsLanes.releaseDrain (k : Nat) (d : Drain) : KeepsLanes old (t.releaseDrain k d).mlu.lanes := by
  unfold State.releaseDrain
  split
  · exact h
  · exact h.drainSearchAgain k
  · exact h.clearDrain k
  · refine KeepsLanes.clearDrain ?_ k
    exact h

theorem KeepsLanes.dropHead (k pallet : Nat) : KeepsLanes old (t.dropHead k pallet).mlu.lanes := by
  refine h.updateLane k fun l => ?_
  cases hi : l.items with
  | nil => exact ⟨rfl, id⟩
  | cons head rest =>
    dsimp only
    split
    · exact .of_less (by simp [hi]) le_rfl
    · exact ⟨rfl, id⟩

theorem KeepsLanes.drainPlaced (k : Nat) (d : Drain) (n : Nat) (x : Place) :
    KeepsLanes old (t.drainPlaced k d n x).mlu.lanes := by
  unfold State.drainPlaced
  split
  · exact h
  · exact (h.dropHead _ _).clearDrain k
  · dsimp only
    split
    · exact (h.dropHead _ _).clearDrain k
    · exact ((h.dropHead _ _).of_lanes (State.cancelDrainPlace_lanes _ _)).clearDrain k
  · split
    · exact h.clearDrain k
    · exact (h.of_lanes (State.cancelDrainPlace_lanes _ _)).clearDrain k

theorem KeepsLanes.ownGrant (a b : Nat) (sd : Side) (c d : Nat) : KeepsLanes old (t.ownGrant a b sd c d).mlu.lanes := by
  unfold State.ownGrant
  repeat' split
  · exact h.grantDrain _ _ _ _
  · exact h
  · exact h

/-! ## Puts (R134 to R136) -/

theorem KeepsLanes.removePut (k pallet : Nat) : KeepsLanes old (t.removePut k pallet).mlu.lanes :=
  (h.updateLane k fun _ => .of_less le_rfl (List.length_filter_le _ _)).judgeLane k

theorem KeepsLanes.mluGrantFailed (b : GrantBody) : KeepsLanes old (t.mluGrantFailed b).mlu.lanes := by
  unfold State.mluGrantFailed
  split
  · exact (h.removePut _ _).mluEnd
  · exact h

/-! ## Frames that leave the queue (R22, R31, R34) -/

theorem KeepsLanes.noLongerOwed (f : OwnedFrame) : KeepsLanes old (t.noLongerOwed f).mlu.lanes := by
  unfold State.noLongerOwed
  split
  · exact h
  · have core (l : Lane) : laneCore (laneWithoutOwed f l) = laneCore l := by
      unfold laneWithoutOwed
      split <;> rfl
    have number (l : Lane) : (laneWithoutOwed f l).number = l.number := (KeepsLane.of_core (core l)).number
    refine h.trans ⟨by simp [Function.comp_def, number], fun hfit => ⟨?_, fun m hm => ?_⟩⟩
    · simpa [Function.comp_def, number] using hfit.1
    · obtain ⟨l, hl, rfl⟩ := List.mem_map.mp hm
      exact (hfit.2 l hl).of_core (core l)
  · exact h

theorem KeepsLanes.serveFrame (f : OwnedFrame) : KeepsLanes old (t.serveFrame f).mlu.lanes :=
  (h.noLongerOwed f).of_lanes (by simp [State.serveFrame])

omit h in
theorem KeepsLanes.serveOwed (n : Nat) (h : KeepsLanes old t.mlu.lanes) :
    KeepsLanes old (State.serveOwed n t).mlu.lanes := by
  induction n generalizing t with
  | zero => exact h
  | succ n ih =>
    unfold State.serveOwed
    repeat' split
    · exact ih (h.serveFrame _)
    · exact h
    · exact h

theorem KeepsLanes.spaceEvent : KeepsLanes old t.spaceEvent.mlu.lanes := by
  unfold State.spaceEvent
  repeat' split
  · exact h
  · exact h
  · exact (h.of_lanes (by simp)).serveOwed _

theorem KeepsLanes.askFailed (o : Owner) (a : AskBody) : KeepsLanes old (t.askFailed o a).mlu.lanes := by
  cases o with
  | lpu => exact h
  | dsu => exact h.of_lanes (by simp [State.askFailed])
  | mlu =>
    unfold State.askFailed State.mluAskFailed
    dsimp only
    split
    · exact (h.drainSearchAgain _).mluEnd
    · exact h

theorem KeepsLanes.grantFailed (o : Owner) (g : GrantBody) : KeepsLanes old (t.grantFailed o g).mlu.lanes := by
  cases o with
  | lpu => exact h.of_lanes (by simp [State.grantFailed])
  | mlu => exact h.mluGrantFailed g
  | dsu => exact h

theorem KeepsLanes.tellMuted (o : Outgoing) : KeepsLanes old (t.tellMuted o).mlu.lanes := by
  cases o with
  | advert => exact h
  | owned f =>
    unfold State.tellMuted State.toldMuted
    dsimp only
    split
    · exact h.askFailed _ _
    · exact h.grantFailed _ _
    all_goals exact h

theorem KeepsLanes.tellFailed (o : Outgoing) : KeepsLanes old (t.tellFailed o).mlu.lanes := by
  cases o with
  | advert => exact h
  | owned f =>
    have again := h.of_lanes (t.oweAgain_lanes f)
    unfold State.tellFailed State.toldFailed
    dsimp only
    split
    · exact h.askFailed _ _
    · exact h.grantFailed _ _
    · exact again
    · exact again
    · exact again
    · exact h
    · exact h

theorem KeepsLanes.takeFrame (f : Frame) : KeepsLanes old (t.takeFrame f).mlu.lanes := by
  unfold State.takeFrame State.bayClash
  repeat' split
  · exact h
  · unfold State.setMute
    refine KeepsLanes.foldl (t := t.setFbi _) _ _ (fun hu o => hu.tellMuted o) ?_
    exact h
  · exact h.of_lanes (by simp)

end

end Sys2Proof.Machine
end

section
/-! PROOFS. Puts and lane reads as operations on one lane (R134 to R138, R143), and what every step keeps of the lanes
(O10). -/

namespace Sys2Proof.Machine

/-! ## Puts given a lane (R134, R135) -/

/-- A lane of the destination that may take a put, or a FREE one that may. -/
def MayTake (dest : Nat) (l : Lane) : Prop := takesPut dest l = true ∨ freeForPut l = true

theorem takesPut_iff (dest : Nat) (l : Lane) : takesPut dest l = true ↔ l.assignment = .assigned ∧
    l.dest = some dest ∧ l.high = false ∧ l.noPut = false ∧ l.items.length + l.puts.length < 8 := by
  unfold takesPut laneFill laneCapacity
  simp only [Bool.and_eq_true, Bool.not_eq_true', decide_eq_true_eq, and_assoc]

theorem freeForPut_iff (l : Lane) : freeForPut l = true ↔ l.assignment = .free ∧ l.noPut = false := by
  simp [freeForPut]

/-- A put appended to a lane that may take it (R134, R135). -/
theorem putInto_of_mayTake {dest : Nat} {l : Lane} (h : MayTake dest l) (x : Put) :
    putInto dest x l = { l with assignment := .assigned, dest := some dest, puts := l.puts ++ [x] } := by
  unfold putInto
  obtain h | h := h
  · obtain ⟨ha, hd, -⟩ := (takesPut_iff dest l).mp h
    rw [if_neg (by simp [ha]), ← ha, ← hd]
  · obtain ⟨ha, -⟩ := (freeForPut_iff l).mp h
    rw [if_pos ha]

theorem putInto_number (dest : Nat) (x : Put) (l : Lane) : (putInto dest x l).number = l.number := by
  unfold putInto
  split <;> rfl

/-- A lane that may take a put has room for it. -/
theorem LaneFits.fill_lt {dest : Nat} {l : Lane} (hl : LaneFits l) (h : MayTake dest l) : laneFill l < 8 := by
  obtain h | h := h
  · obtain ⟨-, -, -, -, hfill⟩ := (takesPut_iff dest l).mp h
    exact hfill
  · obtain ⟨ha, -⟩ := (freeForPut_iff l).mp h
    obtain ⟨hi, hp⟩ := hl.2 (by simp [ha])
    simp [laneFill, hi, hp]

theorem LaneFits.putInto {dest : Nat} {l : Lane} (hl : LaneFits l) (h : MayTake dest l) (x : Put) :
    LaneFits (putInto dest x l) := by
  have hfill := hl.fill_lt h
  rw [putInto_of_mayTake h, LaneFits]
  refine ⟨?_, fun ha => absurd rfl ha⟩
  simp only [laneFill] at hfill
  simp only [List.length_append, List.length_singleton]
  omega

theorem State.firstLane_some {s : State} {p : Lane → Bool} {k : Nat} (h : s.firstLane p = some k) :
    ∃ l ∈ s.mlu.lanes, l.number = k ∧ p l = true := by
  obtain ⟨l, hl, rfl⟩ := Option.map_eq_some_iff.mp h
  exact ⟨l, List.mem_of_find?_eq_some hl, rfl, List.find?_some hl⟩

/-- The lane granted to an ask may take the put. -/
theorem judgeLaneAsk_grant {s : State} {b k : Nat} {x : AskBody} (h : judgeLaneAsk s b x = .grant k) :
    ∃ l ∈ s.mlu.lanes, l.number = k ∧ MayTake x.dest l := by
  unfold judgeLaneAsk at h
  repeat' split at h
  all_goals cases h
  · obtain ⟨l, hl, hn, hp⟩ := State.firstLane_some ‹_›
    exact ⟨l, hl, hn, .inl hp⟩
  · obtain ⟨l, hl, hn, hp⟩ := State.firstLane_some ‹_›
    exact ⟨l, hl, hn, .inr hp⟩

/-- The lane given to a self-put may take it. -/
theorem selfPutLane_some {s : State} {p : SelfPut} {kind : SelfPutKind} {k : Nat}
    (h : selfPutLane s p kind = some k) : ∃ l ∈ s.mlu.lanes, l.number = k ∧ MayTake p.dest l := by
  unfold selfPutLane at h
  split at h
  · cases h
  · cases kind
    · obtain ⟨l, hl, hn, hp⟩ := State.firstLane_some h
      exact ⟨l, hl, hn, .inl hp⟩
    · obtain ⟨l, hl, hn, hp⟩ := State.firstLane_some h
      exact ⟨l, hl, hn, .inr hp⟩

/-- Where each number has one record, the lane chosen is the one found by its number. -/
theorem LanesFit.found {s : State} (h : LanesFit s.mlu.lanes) {P : Lane → Prop} {k : Nat} {l : Lane}
    (hm : ∃ m ∈ s.mlu.lanes, m.number = k ∧ P m) (hl : s.lane? k = some l) : P l := by
  obtain ⟨m, hmem, rfl, hp⟩ := hm
  have e := State.lane?_of_mem h.1 hmem
  rw [hl] at e
  exact Option.some.inj e ▸ hp

/-! ## An item appended by a lane read (R137, R138) -/

/-- The destination of a lane behind a read: a FREE lane takes that of the read, or none where that is no code. -/
def readDest (r : LanePut) (l : Lane) : Option Nat :=
  if l.assignment = .free then (if 1 ≤ r.dest ∧ r.dest ≤ 999 then some r.dest else none) else l.dest

/-- The item of a read into a lane. -/
def readItem (r : LanePut) (weight : Nat) (estimated : Bool) (h : HeightClass) (stackable : Bool)
    (dest : Option Nat) : Item :=
  { pallet := r.pallet, weight := weight, estimated := estimated, height := h, stackable := stackable
    foreign := !decide (dest = some r.dest) }

/-- A read into a lane that is not SUSPECT leaves it ASSIGNED, with the item behind its others. -/
theorem appendItem_eq {l : Lane} (hl : l.assignment ≠ .suspect) (r : LanePut) (w : Nat) (e : Bool) (h : HeightClass)
    (st : Bool) : appendItem r w e h st l = { l with
      assignment := .assigned, dest := readDest r l, items := l.items ++ [readItem r w e h st (readDest r l)] } := by
  unfold appendItem assignedByRead readDest
  by_cases hf : l.assignment = .free
  · simp only [hf, if_true, validDest_iff]
    rfl
  · have ha : l.assignment = .assigned := by
      cases h : l.assignment <;> simp_all
    simp only [hf, if_false]
    rw [← ha]
    rfl

theorem appendItem_number (r : LanePut) (w : Nat) (e : Bool) (h : HeightClass) (st : Bool) (l : Lane) :
    (appendItem r w e h st l).number = l.number := by
  unfold appendItem assignedByRead
  split <;> rfl

/-- A lane without its newest put (R138). -/
def dropNewest (l : Lane) : Lane := { l with puts := l.puts.dropLast }

/-- The newest put leaves an overfilled lane (R138). -/
def strandOver (l : Lane) : Lane := if laneFill l ≤ 8 then l else dropNewest l

theorem State.numbers_updateLane (s : State) (k : Nat) {f : Lane → Lane} (hf : ∀ l, (f l).number = l.number) :
    (s.updateLane k f).mlu.lanes.map Lane.number = s.mlu.lanes.map Lane.number := by
  have number (l : Lane) : (if l.number = k then f l else l).number = l.number := by
    split
    · exact hf l
    · rfl
  simp [Function.comp_def, number]

/-- The newest put of a lane stranded where the lane is overfilled (R138). -/
theorem State.strandNewest_cases (s : State) (k : Nat) :
    (∃ l x, s.lane? k = some l ∧ 8 < laneFill l ∧ l.puts.getLast? = some x ∧
      s.strandNewest k = (s.updateLane k dropNewest).giveUpPut .stranded x) ∨
    ((∀ l, s.lane? k = some l → laneFill l ≤ 8 ∨ l.puts = []) ∧ s.strandNewest k = s) := by
  unfold State.strandNewest laneCapacity
  split
  · exact .inr ⟨by simp [*], rfl⟩
  · rename_i l hl
    split
    · rename_i hfill
      refine .inr ⟨fun m hm => ?_, rfl⟩
      exact .inl (Option.some.inj (hl.symm.trans hm) ▸ hfill)
    · rename_i hfill
      split
      · rename_i hlast
        refine .inr ⟨fun m hm => ?_, rfl⟩
        exact .inr (Option.some.inj (hl.symm.trans hm) ▸ List.getLast?_eq_none_iff.mp hlast)
      · rename_i x hlast
        exact .inl ⟨l, x, hl, Nat.lt_of_not_le hfill, hlast, rfl⟩

theorem State.numbers_strandNewest (s : State) (k : Nat) :
    (s.strandNewest k).mlu.lanes.map Lane.number = s.mlu.lanes.map Lane.number := by
  obtain ⟨l, x, -, -, -, e⟩ | ⟨-, e⟩ := s.strandNewest_cases k <;> rw [e]
  rw [State.giveUpPut_lanes, s.numbers_updateLane k (f := dropNewest) fun _ => rfl]

theorem State.lane?_strandNewest (s : State) (k j : Nat) :
    (s.strandNewest k).lane? j = if j = k then (s.lane? k).map strandOver else s.lane? j := by
  obtain ⟨l, x, hl, hfill, hlast, e⟩ | ⟨hl, e⟩ := s.strandNewest_cases k <;> rw [e]
  · rw [State.lane?_of_lanes (State.giveUpPut_lanes _ _ _), s.lane?_updateLane k j dropNewest fun _ => rfl, hl]
    simp [strandOver, Nat.not_le.mpr hfill]
  · split
    · rename_i hj
      rw [hj]
      cases hk : s.lane? k with
      | none => rfl
      | some l =>
        refine congrArg some ?_
        unfold strandOver
        split
        · rfl
        · obtain hfill | hputs := hl l hk
          · contradiction
          · rw [dropNewest, hputs, List.dropLast_nil, ← hputs]
    · rfl

/-- An item put into a lane, its placing announced, and the newest put of an overfilled lane stranded (R137, R138). -/
def State.putItem (s : State) (r : LanePut) (w : Nat) (e : Bool) (h : HeightClass) (st : Bool) (asker : Nat)
    (framed : Bool) : State :=
  ((s.updateLane r.lane (appendItem r w e h st)).announcePut r.pallet asker r.lane framed).strandNewest r.lane

/-- A lane without the puts of a pallet. -/
def dropPut (pallet : Nat) (l : Lane) : Lane := { l with puts := l.puts.filter fun y => !decide (y.pallet = pallet) }

theorem State.unguidedPut_eq (s : State) (r : LanePut) : s.unguidedPut r =
    (s.putItem r (classMaxWeight r.height) true r.height r.stackable 0 true).judgeLane r.lane := rfl

theorem State.guidedPut_eq (s : State) (r : LanePut) (k : Nat) (x : Put) : s.guidedPut r k x =
    let u := s.updateLane k (dropPut x.pallet)
    let t := u.putItem r x.weight x.estimated x.height x.stackable x.asker x.seq.isSome
    if k = r.lane then t.judgeLane r.lane else (t.judgeLane k).judgeLane r.lane := rfl

section
variable (s : State) (r : LanePut) (w : Nat) (e : Bool) (h : HeightClass) (st : Bool) (asker : Nat) (framed : Bool)

theorem State.lane?_putItem (j : Nat) : (s.putItem r w e h st asker framed).lane? j =
    if j = r.lane then (s.lane? r.lane).map fun l => strandOver (appendItem r w e h st l) else s.lane? j := by
  have lanes := State.announcePut_lanes (s.updateLane r.lane (appendItem r w e h st)) r.pallet asker r.lane framed
  have hupdate := fun j => s.lane?_updateLane r.lane j _ (appendItem_number r w e h st)
  rw [State.putItem, State.lane?_strandNewest, State.lane?_of_lanes lanes, State.lane?_of_lanes lanes, hupdate, hupdate]
  split
  · rw [if_pos rfl, Option.map_map]
    rfl
  · rfl

theorem State.numbers_putItem :
    (s.putItem r w e h st asker framed).mlu.lanes.map Lane.number = s.mlu.lanes.map Lane.number := by
  rw [State.putItem, State.numbers_strandNewest, State.announcePut_lanes,
    s.numbers_updateLane r.lane (appendItem_number r w e h st)]

end

/-- The lane a read takes an item into: what holds of it before the read (R137). -/
structure TakesItem (l : Lane) : Prop where
  known : l.assignment ≠ .suspect
  room : l.items.length < 8

/-- A read leaves its lane within its capacity: where the item overfills it, a put is there to be stranded. -/
theorem LaneFits.strandOver_appendItem {l : Lane} (hl : LaneFits l) (ht : TakesItem l) (r : LanePut) (w : Nat)
    (e : Bool) (h : HeightClass) (st : Bool) : LaneFits (strandOver (appendItem r w e h st l)) := by
  obtain ⟨hfill, -⟩ := hl
  obtain ⟨hknown, hroom⟩ := ht
  rw [appendItem_eq hknown, strandOver]
  split
  · rename_i hle
    exact ⟨hle, fun ha => absurd rfl ha⟩
  · refine ⟨?_, fun ha => absurd rfl ha⟩
    simp only [dropNewest, List.length_append, List.length_singleton, List.length_dropLast]
    omega

/-- A read that is not ignored: its lane takes an item, and its pallet is not among the items (R137). -/
structure ReadTaken (s : State) (r : LanePut) (l : Lane) : Prop where
  found : s.lane? r.lane = some l
  takes : TakesItem l
  new : ∀ m ∈ s.mlu.lanes, ∀ i ∈ m.items, i.pallet ≠ r.pallet

theorem laneReadIgnored_eq_false {s : State} {r : LanePut} :
    laneReadIgnored s r = false ↔ ∃ l, ReadTaken s r l := by
  unfold laneReadIgnored laneCapacity
  cases hl : s.lane? r.lane with
  | none => exact ⟨nofun, fun ⟨l, hr⟩ => nomatch hl.symm.trans hr.found⟩
  | some l =>
    simp only [hasItem, Bool.or_eq_false_iff, decide_eq_false_iff_not, List.any_eq_false, List.any_eq_true, not_exists,
      not_and, decide_eq_true_eq, not_le]
    constructor
    · rintro ⟨⟨hknown, hnew⟩, hroom⟩
      exact ⟨l, hl, ⟨hknown, hroom⟩, hnew⟩
    · rintro ⟨m, hm, ⟨hknown, hroom⟩, hnew⟩
      obtain rfl := Option.some.inj (hl.symm.trans hm)
      exact ⟨⟨hknown, hnew⟩, hroom⟩

section
variable {old : List Lane} {t : State} (h : KeepsLanes old t.mlu.lanes)
include h

theorem KeepsLanes.addPut {k dest : Nat} (hk : ∃ l ∈ t.mlu.lanes, l.number = k ∧ MayTake dest l) (x : Put) :
    KeepsLanes old (t.addPut k dest x).mlu.lanes :=
  (h.updateFound k (putInto_number dest x) fun hfit _ hl => (hfit.of_lane? hl).putInto (hfit.found hk hl) x).judgeLane k

theorem KeepsLanes.putItem {r : LanePut} (hr : ∀ l, t.lane? r.lane = some l → TakesItem l) (w : Nat) (e : Bool)
    (ht : HeightClass) (st : Bool) (asker : Nat) (framed : Bool) :
    KeepsLanes old (t.putItem r w e ht st asker framed).mlu.lanes := by
  refine h.trans ⟨t.numbers_putItem r w e ht st asker framed,
    fun hfit => (lanesFit_iff _).mpr ⟨?_, fun j m hm => ?_⟩⟩
  · rw [State.numbers_putItem]
    exact hfit.1
  · rw [State.lane?_putItem] at hm
    split at hm
    · obtain ⟨l, hl, rfl⟩ := Option.map_eq_some_iff.mp hm
      exact (hfit.of_lane? hl).strandOver_appendItem (hr l hl) r w e ht st
    · exact hfit.of_lane? hm

theorem KeepsLanes.unguidedPut {r : LanePut} (hr : ∀ l, t.lane? r.lane = some l → TakesItem l) :
    KeepsLanes old (t.unguidedPut r).mlu.lanes := by
  rw [State.unguidedPut_eq]
  exact (h.putItem hr _ _ _ _ _ _).judgeLane _

theorem KeepsLanes.guidedPut {r : LanePut} (hr : ∀ l, t.lane? r.lane = some l → TakesItem l) (k : Nat) (x : Put) :
    KeepsLanes old (t.guidedPut r k x).mlu.lanes := by
  have taken := h.updateLane k (f := dropPut x.pallet) fun _ => .of_less le_rfl (List.length_filter_le _ _)
  have put := taken.putItem (r := r) (fun l hl => ?_) x.weight x.estimated x.height x.stackable x.asker x.seq.isSome
  · rw [State.guidedPut_eq]
    dsimp only
    split
    · exact put.judgeLane _
    · exact (put.judgeLane _).judgeLane _
  · rw [t.lane?_updateLane k _ (dropPut x.pallet) fun _ => rfl] at hl
    split at hl
    · rename_i e
      obtain ⟨m, hm, rfl⟩ := Option.map_eq_some_iff.mp hl
      exact ⟨(hr m (e ▸ hm)).known, (hr m (e ▸ hm)).room⟩
    · exact hr l hl

end

/-! ## What every command leaves of the lanes -/

theorem laneCore_headChanged (l : Lane) : laneCore (headChanged l) = laneCore l := by
  unfold headChanged
  repeat' split
  all_goals rfl

/-- A lane record is changed by what is done to the records of its number. -/
theorem State.updateLane_congr (s : State) {k : Nat} {f g : Lane → Lane} (h : ∀ l, l.number = k → f l = g l) :
    s.updateLane k f = s.updateLane k g := by
  have lanes : (s.mlu.lanes.map fun l => if l.number = k then f l else l) =
      s.mlu.lanes.map fun l => if l.number = k then g l else l := by
    refine List.map_congr_left fun l _ => ?_
    split
    · exact h l ‹_›
    · rfl
  rw [State.updateLane, lanes, State.updateLane]

/-- The head of a lane, found by its number, leaves the lane's items (R143). -/
theorem KeepsLanes.headLeaves {old : List Lane} {t : State} (h : KeepsLanes old t.mlu.lanes) {k : Nat} {l : Lane}
    {head : Item} {rest : List Item} (hl : t.lane? k = some l) (hi : l.items = head :: rest) {f : Lane → Lane}
    (hf : ∀ m, laneCore (f m) = laneCore { m with items := rest }) : KeepsLanes old (t.updateLane k f).mlu.lanes := by
  refine h.updateFound k (fun m => (Lane.mk.inj (hf m)).1) fun hfit m hm => ?_
  obtain rfl : l = m := Option.some.inj (hl.symm.trans hm)
  have hless : KeepsLane l { l with items := rest } := .of_less (by simp [hi]) le_rfl
  exact (hless.fit (hfit.of_lane? hl)).of_core (hf l)

section
variable {s t : State} {f : State → State}

theorem keepsLanes_taken {c : Instr} (hf : ∀ u : State, KeepsLanes u.mlu.lanes (f u).mlu.lanes)
    (he : taken c s f = .next t) : KeepsLanes s.mlu.lanes t.mlu.lanes := by
  cases he
  split
  · exact .refl _
  · exact hf (s.drop c)

theorem keepsLanes_event (hf : KeepsLanes s.mlu.lanes (f s).mlu.lanes) (he : event s f = .next t) :
    KeepsLanes s.mlu.lanes t.mlu.lanes := by
  cases he
  split
  · exact .refl _
  · exact hf

theorem keepsLanes_mluAsk {b : Nat} {x : AskBody} (he : exec (.mluAsk b x) s = .next t) :
    KeepsLanes s.mlu.lanes t.mlu.lanes := by
  rw [exec, execMluAsk] at he
  refine keepsLanes_taken (fun u => KeepsLanes.mluEnd ?_) he
  have offered (y : Body) := (KeepsLanes.refl u.mlu.lanes).of_lanes (congrArg Mlu.lanes (u.offerAnswer_mlu .mlu b y))
  split
  · exact offered _
  · split
    · exact (offered _).updateLane _ fun _ => .of_less le_rfl (by simp)
    · exact .refl _
  · rename_i hj
    split
    · refine (offered _).addPut ?_ _
      rw [State.offerAnswer_mlu]
      exact judgeLaneAsk_grant hj
    · exact .refl _

theorem keepsLanes_mluLaneRead {r : LanePut} (he : exec (.mluLaneRead r) s = .next t) :
    KeepsLanes s.mlu.lanes t.mlu.lanes := by
  rw [exec, execMluLaneRead] at he
  refine keepsLanes_taken (fun u => KeepsLanes.mluEnd ?_) he
  split
  · exact .refl _
  · rename_i hr
    obtain ⟨l, hl, ht, -⟩ := laneReadIgnored_eq_false.mp (Bool.eq_false_iff.mpr hr)
    have takes (m : Lane) (hm : u.lane? r.lane = some m) : TakesItem m := Option.some.inj (hl.symm.trans hm) ▸ ht
    split
    · exact (KeepsLanes.refl u.mlu.lanes).guidedPut takes _ _
    · exact (KeepsLanes.refl u.mlu.lanes).unguidedPut takes

theorem keepsLanes_mluExitEvent {k : Nat} (he : exec (.mluExitEvent k) s = .next t) :
    KeepsLanes s.mlu.lanes t.mlu.lanes := by
  rw [exec, execMluExitEvent] at he
  refine keepsLanes_taken (fun u => KeepsLanes.mluEnd ?_) he
  split
  · exact .refl _
  · rename_i l hl
    split
    · exact .refl _
    · rename_i hi
      have guided (d : Drain) := ((KeepsLanes.refl u.mlu.lanes).headLeaves hl hi
        (f := fun m => { m with items := _, drain := some { d with state := .inTransit } }) fun _ => rfl).judgeLane k
      have unguided := ((KeepsLanes.refl u.mlu.lanes).headLeaves hl hi (f := fun m => headChanged { m with items := _ })
        fun _ => laneCore_headChanged _)
      repeat' split
      · exact guided _
      · refine KeepsLanes.judgeLane ?_ k
        exact unguided
      · refine KeepsLanes.judgeLane ?_ k
        exact unguided

theorem keepsLanes_clearLane {k : Nat} (he : exec (.clearLane k) s = .next t) :
    KeepsLanes s.mlu.lanes t.mlu.lanes := by
  rw [exec, execClearLane] at he
  cases he
  split
  · exact .refl _
  · dsimp only
    split
    · exact .refl _
    · split
      · rw [s.updateLane_congr (g := fun l => { suspectLane l.number with assignment := .free, noPut := l.noPut })
          fun l hl => by rw [hl]]
        refine KeepsLanes.mluEnd ?_
        exact (KeepsLanes.refl s.mlu.lanes).updateLane k
          fun _ => ⟨rfl, fun _ => ⟨Nat.zero_le _, fun _ => ⟨rfl, rfl⟩⟩⟩
      · exact .refl _

end

/-- The commands that bring a lane count into force, or reset the lanes. -/
def setsLanes (c : Instr) : Bool :=
  takesReset c ||
    match c with
    | .configurationReadEnd _ | .sealConfig | .writeField _ _ _ => true
    | _ => false

/-- Every command but those that bring a lane count into force keeps the lanes. -/
theorem exec_keepsLanes {c : Instr} {s t : State} (hc : setsLanes c = false) (he : exec c s = .next t) :
    KeepsLanes s.mlu.lanes t.mlu.lanes := by
  by_cases hw : writesMlu c = false
  · rw [show t.mlu = s.mlu from exec_leaves c s t he .mlu hw]
    exact .refl _
  have hc : ¬ setsLanes c = true := Bool.eq_false_iff.mp hc
  have start (u : State) : KeepsLanes u.mlu.lanes u.mlu.lanes := .refl _
  cases c with
  | drainTick =>
    rw [exec, execDrainTick] at he
    exact keepsLanes_taken (fun u => ((start u).eachDrain _ _ fun hv k _ => hv.beginDrainSearch k).mluEnd) he
  | frameSent =>
    rw [exec, execFrameSent] at he
    refine keepsLanes_event ?_ he
    split
    · refine KeepsLanes.spaceEvent ?_
      exact start s
    · exact start s
  | collision =>
    rw [exec, execCollision] at he
    refine keepsLanes_event ?_ he
    split
    · dsimp only
      split
      · exact start s
      · refine KeepsLanes.spaceEvent (KeepsLanes.tellFailed ?_ _)
        exact start s
    · exact start s
  | frameTaking =>
    rw [exec, execFrameTaking] at he
    refine keepsLanes_event ?_ he
    split
    · refine KeepsLanes.takeFrame ?_ _
      exact start s
    · exact start s
  | trailerCandidatesRequest dest q =>
    rw [exec, execTrailerCandidatesRequest] at he
    refine keepsLanes_taken (fun u => ?_) he
    split
    · exact start u
    · exact (start u).joinDrain _ _ _
  | ownTrailerSummary k n =>
    rw [exec, execOwnTrailerSummary] at he
    refine keepsLanes_taken (fun u => ?_) he
    exact (start u).joinDrain _ _ _
  | mluAsk b x => exact keepsLanes_mluAsk he
  | selfPutRequest p kind n =>
    rw [exec, execSelfPutRequest] at he
    refine keepsLanes_taken (fun u => KeepsLanes.mluEnd ?_) he
    split
    · exact (start u).addPut (selfPutLane_some ‹_›) _
    · exact start u
  | selfPutCancel p =>
    rw [exec, execSelfPutCancel] at he
    refine keepsLanes_taken (fun u => ?_) he
    split
    · exact ((start u).removePut _ _).mluEnd
    · exact (start u).mluEnd
  | putExpiry p =>
    rw [exec, execPutExpiry] at he
    refine keepsLanes_taken (fun u => ?_) he
    split
    · exact (((start u).removePut _ _).of_lanes (State.giveUpPut_lanes _ _ _)).mluEnd
    · exact (start u).mluEnd
  | mluRelease b x =>
    rw [exec, execMluRelease] at he
    refine keepsLanes_taken (fun u => KeepsLanes.mluEnd ?_) he
    repeat' split
    · exact (start u).eachDrain _ _ fun hv k d => hv.releaseDrain k d
    · exact (start u).removePut _ _
    · exact start u
  | mluLaneRead r => exact keepsLanes_mluLaneRead he
  | mluExitEvent k => exact keepsLanes_mluExitEvent he
  | drainCandidatesAnswer k n found own =>
    rw [exec, execDrainCandidatesAnswer] at he
    refine keepsLanes_taken (fun u => KeepsLanes.mluEnd ?_) he
    repeat' split
    · exact (start u).askDrain _ _ _ _
    all_goals exact start u
  | askSequenceReturn k p n v =>
    rw [exec, execAskSequenceReturn] at he
    refine keepsLanes_taken (fun u => KeepsLanes.mluEnd ?_) he
    repeat' split
    · exact start u
    · exact (start u).offerDrainAsk _ _ _ _
    all_goals exact start u
  | mluGrant b x =>
    rw [exec, execMluGrant] at he
    refine keepsLanes_taken (fun u => KeepsLanes.mluEnd ?_) he
    have late := (start u).of_lanes (u.lateDrainGrant_lanes b x)
    repeat' split
    · exact (start u).grantDrain _ _ _ _
    · exact late
    · exact late
  | mluRefuse b x =>
    rw [exec, execMluRefuse] at he
    refine keepsLanes_taken (fun u => KeepsLanes.mluEnd ?_) he
    repeat' split
    · exact (start u).refuseDrain _ _ _ _
    · exact start u
    · exact start u
  | ownTrailerAnswer p a =>
    rw [exec, execOwnTrailerAnswer] at he
    refine keepsLanes_taken (fun u => KeepsLanes.mluEnd ?_) he
    split
    · exact (start u).ownGrant _ _ _ _ _
    · split
      · exact (start u).refuseDrain _ _ _ _
      · exact start u
    · exact (start u).eachDrain _ _ fun hv k d => hv.releaseDrain k d
  | drainAnswerDeadlineExpiry k =>
    rw [exec, execDrainAnswerDeadlineExpiry] at he
    refine keepsLanes_taken (fun u => KeepsLanes.mluEnd ?_) he
    repeat' split
    · exact (start u).updateDrain _ _
    · exact start u
    · exact start u
  | drainRetryAfterExpiry k =>
    rw [exec, execDrainRetryAfterExpiry] at he
    refine keepsLanes_taken (fun u => KeepsLanes.mluEnd ?_) he
    repeat' split
    · exact ((start u).updateDrain _ _).beginDrainSearch _
    · exact start u
    · exact start u
  | drainGuardDeadlineExpiry k =>
    rw [exec, execDrainGuardDeadlineExpiry] at he
    refine keepsLanes_taken (fun u => KeepsLanes.mluEnd ?_) he
    repeat' split
    · exact (start u).clearDrain k
    · refine KeepsLanes.clearDrain ?_ k
      exact start u
    all_goals exact start u
  | mluPlaced b x =>
    rw [exec, execMluPlaced] at he
    exact keepsLanes_taken
      (fun u => ((start u).eachDrain _ _ fun hv k d => hv.drainPlaced k d _ _).mluEnd) he
  | lampFaultReport k =>
    rw [exec, execLampFaultReport] at he
    refine keepsLanes_taken (fun u => KeepsLanes.mluEnd ?_) he
    exact (start u).updateLane k fun _ => ⟨rfl, id⟩
  | lampClearReport k =>
    rw [exec, execLampClearReport] at he
    refine keepsLanes_taken (fun u => KeepsLanes.mluEnd ?_) he
    exact (start u).updateLane k fun _ => ⟨rfl, id⟩
  | clearLane k => exact keepsLanes_clearLane he
  | _ => first | exact absurd rfl hw | exact absurd rfl hc

end Sys2Proof.Machine
end

section
/-! PROOFS. The lanes brought into force (R146, R174), the bay states in which none is present (R174), and what every
step keeps of the lanes (O10). -/

namespace Sys2Proof.Machine

/-! ## Lanes made present (R146, R174) -/

theorem numbers_lanesFor (old : List Lane) (n : Nat) :
    (lanesFor old n).map Lane.number = laneNumbers.filter fun k => decide (k ≤ n) := by
  have number (k : Nat) : ((old.find? fun l => decide (l.number = k)).getD (suspectLane k)).number = k := by
    cases h : old.find? fun l => decide (l.number = k) with
    | none => rfl
    | some l => simpa using List.find?_some h
  simp [lanesFor, Function.comp_def, number]

theorem lanesFor_inOrder (old : List Lane) (n : Nat) : LanesInOrder (lanesFor old n) := by
  rw [LanesInOrder, numbers_lanesFor]
  exact List.Pairwise.filter _ (by decide)

theorem suspectLane_fits (k : Nat) : LaneFits (suspectLane k) := ⟨Nat.zero_le _, fun _ => ⟨rfl, rfl⟩⟩

theorem LanesFit.lanesFor {old : List Lane} (h : LanesFit old) (n : Nat) : LanesFit (lanesFor old n) := by
  refine ⟨(lanesFor_inOrder old n).imp Nat.ne_of_lt, fun l hl => ?_⟩
  obtain ⟨k, -, rfl⟩ := List.mem_map.mp hl
  cases hf : old.find? fun l => decide (l.number = k) with
  | none => exact suspectLane_fits k
  | some l => exact h.2 l (List.mem_of_find?_eq_some hf)

theorem lanesFit_nil : LanesFit [] := by simp [LanesFit]

/-- The lanes are those that stand, or none, cut to a count in force. -/
def LanesBrought (old new : List Lane) : Prop := ∃ l n, (l = old ∨ l = []) ∧ new = lanesFor l n

theorem LanesBrought.none (old : List Lane) : LanesBrought old [] := ⟨[], 0, .inr rfl, rfl⟩

theorem State.floorReset_lanes (s : State) (old : List Lane) : LanesBrought old s.floorReset.mlu.lanes := by
  cases h : s.dcu.bayState with
  | none =>
    rw [State.floorReset_reading h]
    exact .none old
  | some st =>
    by_cases hu : st = .unconfigured
    · subst hu
      rw [State.floorReset_unconfigured h]
      exact .none old
    · rw [State.floorReset_configured h hu]
      exact ⟨[], _, .inr rfl, rfl⟩

/-- A command that may bring a lane count into force does so, or leaves the lanes. -/
theorem exec_lanesBrought {c : Instr} {s t : State} (hc : setsLanes c = true) (he : exec c s = .next t) :
    t.mlu.lanes = s.mlu.lanes ∨ LanesBrought s.mlu.lanes t.mlu.lanes := by
  cases c <;> simp only [setsLanes, takesReset, Bool.or_false, Bool.or_true, Bool.false_eq_true] at hc <;> cases he
  case powerOnReset => exact .inr (.none _)
  case resetLineReleased =>
    split
    · exact .inr (State.floorReset_lanes _ _)
    · exact .inl rfl
  case floorResetTaken =>
    split
    · exact .inl rfl
    · exact .inr (State.floorReset_lanes _ _)
  case serviceAnswerSent =>
    dsimp only
    repeat' split
    · exact .inl rfl
    · exact .inl rfl
    · exact .inr (State.floorReset_lanes _ _)
    · exact .inl rfl
  case configurationReadEnd image =>
    unfold State.afterRead
    dsimp only
    repeat' split
    · exact .inl rfl
    · exact .inr ⟨_, _, .inl rfl, rfl⟩
    · exact .inl rfl
  case sealConfig =>
    dsimp only
    repeat' split
    · exact .inl rfl
    · exact .inl rfl
    · exact .inl rfl
    · exact .inr ⟨_, _, .inl rfl, rfl⟩
    · exact .inl rfl
  case writeField f i v =>
    unfold State.writeField
    dsimp only
    repeat' split
    · exact .inl rfl
    · exact .inl rfl
    · exact .inl rfl
    · exact .inl rfl
    · exact .inr ⟨_, _, .inl rfl, rfl⟩
    · exact .inl rfl

/-- Every command keeps the lanes, or brings a lane count into force. -/
theorem exec_lanes {c : Instr} {s t : State} (he : exec c s = .next t) :
    KeepsLanes s.mlu.lanes t.mlu.lanes ∨ LanesBrought s.mlu.lanes t.mlu.lanes := by
  by_cases hc : setsLanes c = true
  · obtain h | h := exec_lanesBrought hc he
    · exact .inl (h ▸ .refl _)
    · exact .inr h
  · exact .inl (exec_keepsLanes (Bool.eq_false_iff.mpr hc) he)

theorem LanesFit.exec {c : Instr} {s t : State} (h : LanesFit s.mlu.lanes) (he : exec c s = .next t) :
    LanesFit t.mlu.lanes := by
  obtain hk | ⟨old, n, ho, e⟩ := exec_lanes he
  · exact hk.fit h
  · rw [e]
    obtain rfl | rfl := ho
    · exact h.lanesFor n
    · exact lanesFit_nil.lanesFor n

theorem LanesInOrder.exec {c : Instr} {s t : State} (h : LanesInOrder s.mlu.lanes) (he : exec c s = .next t) :
    LanesInOrder t.mlu.lanes := by
  obtain hk | ⟨old, n, -, e⟩ := exec_lanes he
  · rwa [LanesInOrder, hk.numbers]
  · rw [e]
    exact lanesFor_inOrder old n

/-! ## While no lane is present (R174) -/

/-- The bay states in which no lane is present: UNCONFIGURED, and none while the power-on read is under way. -/
def Awaits (d : Dcu) : Prop := d.bayState = none ∨ d.bayState = some .unconfigured

theorem lanesAwait_iff (s : State) : LanesAwait s ↔ (Awaits s.dcu → s.mlu.lanes = []) := by
  rw [LanesAwait, State.reading_iff, State.inState_iff]
  rfl

/-- The bay awaits no record in any other state that it enters. -/
theorem not_awaits_of_eq {d : Dcu} {st : BayState} (h : d.bayState = some st) (hu : st ≠ .unconfigured) :
    ¬ Awaits d := by
  rintro (hn | hn) <;> simp_all

section
variable {s : State}

theorem State.undock_awaits (h : Awaits s.undock.dcu) : Awaits s.dcu := by
  unfold State.undock at h
  split at h
  case h_7 | h_8 | h_9 | h_10 => exact h
  all_goals exact absurd h (not_awaits_of_eq rfl nofun)

theorem State.dockIfBoth_awaits (h : Awaits s.dockIfBoth.dcu) : Awaits s.dcu := by
  unfold State.dockIfBoth at h
  split at h
  · rw [State.enterDocked_dcu] at h
    exact absurd h (not_awaits_of_eq rfl nofun)
  · exact h

theorem State.enterClosing_not_awaits : ¬ Awaits s.enterClosing.dcu := by
  rw [State.enterClosing_dcu]
  exact not_awaits_of_eq rfl nofun

theorem State.levellerUp_awaits (h : Awaits s.levellerUp.dcu) : Awaits s.dcu := by
  unfold State.levellerUp State.suspend at h
  repeat' split at h
  · exact absurd h (not_awaits_of_eq rfl nofun)
  · rw [State.expireAtOnce_dcu] at h
    exact h
  · exact h

theorem State.levellerLowered_awaits (h : Awaits s.levellerLowered.dcu) : Awaits s.dcu := by
  obtain ⟨-, e⟩ | ⟨-, -, e⟩ | ⟨-, -, e⟩ := s.levellerLowered_cases <;> rw [e] at h
  · exact h
  · exact h
  · exact State.dockIfBoth_awaits h

theorem State.pressClose_awaits (h : Awaits s.pressClose.dcu) : Awaits s.dcu := by
  unfold State.pressClose at h
  repeat' split at h
  · exact absurd h State.enterClosing_not_awaits
  · exact absurd h (not_awaits_of_eq rfl nofun)
  · exact absurd h State.enterClosing_not_awaits
  · exact absurd h (not_awaits_of_eq rfl nofun)
  · exact h

theorem State.lineTaken_awaits {line : Line} {b : Bool} (h : Awaits (s.lineTaken line b).dcu) : Awaits s.dcu := by
  unfold State.lineTaken at h
  split at h
  · exact State.dockIfBoth_awaits h
  · exact State.undock_awaits h
  · exact State.levellerLowered_awaits h
  · exact State.levellerUp_awaits h
  · exact State.pressClose_awaits h
  · exact h
  · exact h

theorem State.changeLine_awaits {line : Line} {b : Bool} (h : Awaits (s.changeLine line b).dcu) : Awaits s.dcu := by
  have line_kept (x : DoorLine) (h : Awaits (withLine s.dcu x line)) : Awaits s.dcu := by
    cases line <;> exact h
  unfold State.changeLine at h
  dsimp only at h
  split at h
  · exact line_kept _ h
  · exact line_kept _ (State.lineTaken_awaits h)

theorem State.acceptCard_not_awaits (r : CardRead) : ¬ Awaits (s.acceptCard r).dcu := by
  unfold State.acceptCard State.farCutAtOnce
  dsimp only
  repeat' split
  all_goals try rw [State.expireAtOnce_dcu]
  all_goals exact not_awaits_of_eq rfl nofun

end

section
variable {s t : State} {f : State → State}

theorem awaits_taken {c : Instr} (hf : ∀ u : State, Awaits (f u).dcu → Awaits u.dcu) (he : taken c s f = .next t)
    (h : Awaits t.dcu) : Awaits s.dcu := by
  cases he
  split at h
  · exact h
  · exact hf (s.drop c) h

theorem awaits_event (hf : ∀ u : State, Awaits (f u).dcu → Awaits u.dcu) (he : event s f = .next t)
    (h : Awaits t.dcu) : Awaits s.dcu := by
  cases he
  split at h
  · exact h
  · exact hf s h

theorem awaits_request (hf : ∀ u : State, Awaits (f u).dcu → Awaits u.dcu) (he : request s f = .next t)
    (h : Awaits t.dcu) : Awaits s.dcu := by
  cases he
  split at h
  · exact h
  · exact hf s h

end

/-- Only a reset or the end of the power-on read brings the bay to a state in which it awaits its record. -/
theorem exec_awaits {c : Instr} {s t : State} (hc : setsLanes c = false) (he : exec c s = .next t)
    (ht : Awaits t.dcu) : Awaits s.dcu := by
  by_cases hw : writesDcu c = false
  · rwa [show t.dcu = s.dcu from exec_leaves c s t he .dcu hw] at ht
  have hc : ¬ setsLanes c = true := Bool.eq_false_iff.mp hc
  cases c with
  | beat =>
    rw [exec, execBeat] at he
    refine awaits_event (fun u h => ?_) he ht
    split at h <;> exact h
  | doorLineChange line b =>
    cases he
    exact State.changeLine_awaits ht
  | cardRead r =>
    rw [exec, execCardRead] at he
    refine awaits_event (fun u h => ?_) he ht
    repeat' split at h
    · exact h
    · exact h
    · exact h
    · exact absurd h (State.acceptCard_not_awaits r)
  | exitEvent k | beamInterrupted k =>
    cases he
    repeat' split at ht
    all_goals exact ht
  | joinDeadlineExpiry =>
    rw [exec, execJoinDeadlineExpiry] at he
    refine awaits_taken (fun u h => ?_) he ht
    split at h
    · exact absurd h (by split <;> exact not_awaits_of_eq rfl nofun)
    · exact h
  | cutOffExpiry =>
    rw [exec, execCutOffExpiry] at he
    refine awaits_taken (fun u h => ?_) he ht
    dsimp only at h
    repeat' split at h
    · exact absurd h State.enterClosing_not_awaits
    · exact h
    · exact h
  | farCutExpiry =>
    rw [exec, execFarCutExpiry] at he
    refine awaits_taken (fun u h => ?_) he ht
    dsimp only at h
    repeat' split at h
    all_goals exact h
  | levellerGraceExpiry =>
    rw [exec, execLevellerGraceExpiry] at he
    refine awaits_taken (fun u h => ?_) he ht
    dsimp only at h
    repeat' split at h
    · exact State.undock_awaits (s := u.setDcu { u.dcu with leveller := none }) h
    · exact h
    · exact h
  | closingGraceExpiry =>
    rw [exec, execClosingGraceExpiry] at he
    refine awaits_taken (fun u h => ?_) he ht
    dsimp only at h
    repeat' split at h
    · exact absurd h (not_awaits_of_eq rfl nofun)
    · exact h
    · exact h
  | noReservationReport =>
    rw [exec, execNoReservationReport] at he
    refine awaits_taken (fun u h => ?_) he ht
    split at h
    · exact absurd h (not_awaits_of_eq rfl nofun)
    · exact h
  | sensorRead =>
    rw [exec, execSensorRead] at he
    refine awaits_request (fun u h => ?_) he ht
    exact h
  | declareEmpty =>
    rw [exec, execDeclareEmpty] at he
    refine awaits_request (fun u h => ?_) he ht
    repeat' split at h
    · rw [State.answer_dcu, State.enterDocked_dcu] at h
      exact absurd h (not_awaits_of_eq rfl nofun)
    · exact absurd h (not_awaits_of_eq rfl nofun)
    · exact h
  | _ => first | exact absurd rfl hw | exact absurd rfl hc

theorem not_awaits_enterListen (s : State) : ¬ Awaits s.enterListen.dcu := not_awaits_of_eq rfl nofun

/-- After a floor reset no lane is present while the bay awaits its record. -/
theorem State.floorReset_await (s : State) : LanesAwait s.floorReset := by
  rw [lanesAwait_iff]
  intro h
  cases hb : s.dcu.bayState with
  | none => rw [State.floorReset_reading hb]; rfl
  | some st =>
    by_cases hu : st = .unconfigured
    · subst hu
      rw [State.floorReset_unconfigured hb]
      rfl
    · rw [State.floorReset_configured hb hu] at h
      exact absurd h (not_awaits_enterListen _)

theorem LanesAwait.exec {c : Instr} {s t : State} (h : LanesAwait s) (he : exec c s = .next t) : LanesAwait t := by
  by_cases hc : setsLanes c = false
  · rw [lanesAwait_iff] at h ⊢
    intro ht
    have numbers := (exec_keepsLanes hc he).numbers
    rw [h (exec_awaits hc he ht)] at numbers
    simpa using numbers
  cases c with
  | powerOnReset =>
    cases he
    exact fun _ => rfl
  | resetLineReleased =>
    cases he
    split
    · exact State.floorReset_await _
    · exact h
  | floorResetTaken =>
    cases he
    split
    · exact h
    · exact State.floorReset_await s
  | serviceAnswerSent =>
    cases he
    split
    · exact h
    · dsimp only
      repeat' split
      · exact h
      · exact State.floorReset_await s
      · exact h
  | configurationReadEnd image =>
    cases he
    split
    · rename_i hr
      unfold State.afterRead
      dsimp only
      split
      · exact fun _ => h (.inl hr)
      · exact (lanesAwait_iff _).mpr fun ha => absurd ha (not_awaits_enterListen _)
    · exact h
  | sealConfig =>
    cases he
    split
    · exact h
    · dsimp only
      repeat' split
      · exact h
      · exact h
      · exact (lanesAwait_iff _).mpr fun ha => absurd ha (not_awaits_enterListen _)
      · exact h
  | writeField f i v =>
    cases he
    split
    · exact h
    · rename_i hr
      unfold State.writeField
      dsimp only
      repeat' split
      · exact h
      · exact h
      · exact h
      · rename_i hf
        simp only [Bool.or_eq_true, not_or, Bool.not_eq_true] at hr
        obtain ⟨⟨-, hr⟩, -⟩ := hr
        obtain ⟨-, hu⟩ := hf
        intro ha
        obtain ha | ha := ha
        · exact absurd (hr.symm.trans ha) nofun
        · exact absurd (hu.symm.trans ha) nofun
      · exact h
  | _ => exact absurd rfl hc

/-! ## Every step -/

/-- What every command keeps, and the queues and the lamps do not touch, every step keeps. -/
theorem step_keeps_of_exec {I : State → Prop} {s t : State} (hq : ∀ l, I { s with pending := l })
    (hi : I s.idle) (he : ∀ c u, I u → exec c u = .next t → I t) (hs : step s = .next t) : I t := by
  unfold step at hs
  split at hs
  · exact he _ _ (hq _) hs
  · exact he _ _ (hq s.pending) hs
  · cases hs
    exact hi

theorem State.idle_mlu (s : State) : s.idle.mlu = s.mlu := by
  unfold State.idle
  split <;> rfl

theorem State.idle_dcu (s : State) : s.idle.dcu = s.dcu := by
  unfold State.idle
  split <;> rfl

/-- Settles O10: a step is a command of one of the two queues, or a millisecond of the lamps. -/
theorem lanesKeepCapacity : Obligations.LanesKeepCapacity := by
  refine ⟨fun s t h => ?_, fun s t h => ?_, fun s t h => ?_⟩
  · refine step_keeps_of_exec (I := fun u => LanesFit u.mlu.lanes) (fun _ => h) ?_ fun _ _ hu he => hu.exec he
    rwa [s.idle_mlu]
  · refine step_keeps_of_exec (I := fun u => LanesInOrder u.mlu.lanes) (fun _ => h) ?_ fun _ _ hu he => hu.exec he
    rwa [s.idle_mlu]
  · refine step_keeps_of_exec (I := LanesAwait) (fun _ => h) ?_ fun _ _ hu he => hu.exec he
    rwa [lanesAwait_iff, s.idle_mlu, s.idle_dcu, ← lanesAwait_iff]

end Sys2Proof.Machine
end

section
/-! PROOFS. A lane changed by an event of the marshalling lane unit, then judged (R133), and the lanes that an event
leaves save for its end (R139). -/

namespace Sys2Proof.Machine

/-! ## Lanes kept -/

section
variable {s t u : State} {k : Nat}

theorem LanesKept.trans (h : LanesKept s t) (g : LanesKept t u) : LanesKept s u := fun j => (g j).trans (h j)

theorem LanesKept.of_lanes (h : t.mlu.lanes = s.mlu.lanes) : LanesKept s t := fun j => by rw [State.lane?_of_lanes h]

theorem LanesKept.mluEnd (h : LanesKept s t) : LanesKept s t.mluEnd := h.trans t.mluEnd_kept

theorem LanesKept.others (h : LanesKept s t) (k : Nat) : OtherLanesKept s t k := fun j _ => h j

theorem OtherLanesKept.trans (h : OtherLanesKept s t k) (g : OtherLanesKept t u k) : OtherLanesKept s u k :=
  fun j hj => (g j hj).trans (h j hj)

theorem State.updateLane_others (s : State) (k : Nat) {f : Lane → Lane} (hf : ∀ l, (f l).number = l.number) :
    OtherLanesKept s (s.updateLane k f) k := fun j hj => by rw [s.lane?_updateLane k j f hf, if_neg hj]

theorem State.lane?_updateLane_same {f : Lane → Lane} {l : Lane} (hf : ∀ l, (f l).number = l.number)
    (h : s.lane? k = some l) : (s.updateLane k f).lane? k = some (f l) := by
  rw [s.lane?_updateLane k k f hf, if_pos rfl, h]
  rfl

/-- The judgement of a lane touches no other lane. -/
theorem State.judgeLane_other {j : Nat} (s : State) (h : j ≠ k) : (s.judgeLane k).lane? j = s.lane? j := by
  unfold State.judgeLane
  split
  · rfl
  · rename_i l _
    rw [State.lane?_of_lanes (congrArg Mlu.lanes (State.raiseIf_mlu _ _ _)), s.lane?_updateLane k j
      (fun m => freedIfEmpty { m with high := highAfter s.scu.config m })
      fun m => (KeepsLane.freedIfEmpty s.scu.config m).number, if_neg h]

theorem State.judgeLane_others (s : State) (k : Nat) : OtherLanesKept s (s.judgeLane k) k :=
  fun _ hj => congrArg (Option.map laneCore) (s.judgeLane_other hj)

end

/-! ## What the judgement of a lane leaves (R133) -/

section
variable {s t u : State} {k : Nat} {l m : Lane}

theorem LaneJudged.of_config {v : State} (h : LaneJudged s t l m) (e : v.scu.config = s.scu.config) :
    LaneJudged v t l m := by
  obtain ⟨raised, freed, kept⟩ := h
  rw [← e] at raised kept
  exact ⟨raised, freed, kept⟩

/-- What is handed on later takes nothing from the judgement of a lane. -/
theorem LaneJudged.of_handed (h : LaneJudged s t l m) (hu : t.handed <+: u.handed) : LaneJudged s u l m :=
  ⟨fun a b => hu.subset (h.raised a b), h.freed, h.kept⟩

/-- The judgement leaves what a lane holds, and its no-put flag. -/
theorem LaneJudged.contents (h : LaneJudged s t l m) :
    m.items = l.items ∧ m.puts = l.puts ∧ m.noPut = l.noPut := by
  by_cases he : LaneEmptied l
  · rw [h.freed he]
    exact ⟨rfl, rfl, rfl⟩
  · have e := h.kept he
    simp only [laneCore, Lane.mk.injEq] at e
    obtain ⟨-, -, -, -, hn, -, hi, hp, -⟩ := e
    exact ⟨hi, hp, hn⟩

/-- A lane that is not emptied stays assigned as it was, and takes its high flag. -/
theorem LaneJudged.assigned (h : LaneJudged s t l m) (he : ¬ LaneEmptied l) :
    m.assignment = l.assignment ∧ m.dest = l.dest ∧ m.high = judgedHigh s.scu.config l := by
  have e := h.kept he
  simp only [laneCore, Lane.mk.injEq] at e
  obtain ⟨-, ha, hd, hh, -⟩ := e
  exact ⟨ha, hd, hh⟩

theorem State.hand_prefix (s : State) (c : Instr) : s.handed <+: (s.hand c).handed := List.prefix_append _ _

/-- From one state to the next a lane is judged by R133, from the lane as an event's changes leave it. -/
def JudgedAt (s t : State) (k : Nat) (l : Lane) : Prop := ∃ m, t.lane? k = some m ∧ LaneJudged s t l m

theorem JudgedAt.of_judgeLane (hl : t.lane? k = some l) (hc : s.scu.config = t.scu.config) :
    JudgedAt s (t.judgeLane k) k l := by
  obtain ⟨m, hm, hj⟩ := t.judgeLane_judged k l hl
  exact ⟨m, hm, hj.of_config hc⟩

/-- An event that hands on, and leaves the lane, leaves its judgement. -/
theorem JudgedAt.of_lane (h : JudgedAt s t k l) (e : u.lane? k = t.lane? k) (hu : t.handed <+: u.handed) :
    JudgedAt s u k l := by
  obtain ⟨m, hm, hj⟩ := h
  exact ⟨m, e.trans hm, hj.of_handed hu⟩

theorem JudgedAt.of_config {v : State} (h : JudgedAt s t k l) (e : v.scu.config = s.scu.config) : JudgedAt v t k l := by
  obtain ⟨m, hm, hj⟩ := h
  exact ⟨m, hm, hj.of_config e⟩

/-- A lane read at the end of an event is the one before it, save for its drain and its blocked mark (R139). -/
theorem State.lane?_mluEnd_core (h : t.lane? k = some m) :
    ∃ n, t.mluEnd.lane? k = some n ∧ laneCore n = laneCore m := by
  have e := t.mluEnd_kept k
  rw [h] at e
  obtain ⟨n, hn, hc⟩ := Option.map_eq_some_iff.mp e
  exact ⟨n, hn, hc⟩

theorem State.mluEnd_prefix (s : State) : s.handed <+: s.mluEnd.handed := by
  obtain ⟨x, hx⟩ := s.mluEnd_only.handed
  exact ⟨x, hx.symm⟩

/-- The judgement stands over the end of the event (R139). -/
theorem JudgedAt.mluEnd (h : JudgedAt s t k l) : JudgedAt s t.mluEnd k l := by
  obtain ⟨m, hm, hj⟩ := h
  obtain ⟨n, hn, hc⟩ := State.lane?_mluEnd_core hm
  refine ⟨n, hn, (hj.of_handed t.mluEnd_prefix).raised, fun he => ?_, fun he => hc.trans (hj.kept he)⟩
  have stands := t.mluEnd_unassigned k m hm (by simp [hj.freed he])
  exact (Option.some.inj (hn.symm.trans stands)).trans (hj.freed he)

/-- From one state to the next one lane is judged by R133, and every other lane is kept. -/
structure JudgedFrom (s t : State) (k : Nat) (l : Lane) : Prop where
  others : OtherLanesKept s t k
  judged : JudgedAt s t k l

theorem JudgedFrom.of_judgeLane (hl : t.lane? k = some l) (ho : OtherLanesKept s t k)
    (hc : s.scu.config = t.scu.config) : JudgedFrom s (t.judgeLane k) k l :=
  ⟨ho.trans (t.judgeLane_others k), .of_judgeLane hl hc⟩

/-- A lane changed, then judged. -/
theorem State.updateLane_judgedFrom {f : Lane → Lane} (hf : ∀ l, (f l).number = l.number) (h : s.lane? k = some l) :
    JudgedFrom s ((s.updateLane k f).judgeLane k) k (f l) :=
  .of_judgeLane (State.lane?_updateLane_same hf h) (s.updateLane_others k hf) rfl

/-- An event that hands on, and leaves the lanes, leaves the judgement. -/
theorem JudgedFrom.of_lanes (h : JudgedFrom s t k l) (e : u.mlu.lanes = t.mlu.lanes) (hu : t.handed <+: u.handed) :
    JudgedFrom s u k l :=
  ⟨h.others.trans ((LanesKept.of_lanes e).others k), h.judged.of_lane (State.lane?_of_lanes e k) hu⟩

theorem JudgedFrom.of_start {v : State} (h : JudgedFrom s t k l) (e : v.mlu.lanes = s.mlu.lanes)
    (hc : v.scu.config = s.scu.config) : JudgedFrom v t k l :=
  ⟨((LanesKept.of_lanes e.symm).others k).trans h.others, h.judged.of_config hc⟩

theorem JudgedFrom.mluEnd (h : JudgedFrom s t k l) : JudgedFrom s t.mluEnd k l :=
  ⟨h.others.trans (t.mluEnd_kept.others k), h.judged.mluEnd⟩

/-- A lane changed without a judgement, at the end of the event (R139). -/
theorem State.updateLane_mluEnd {f : Lane → Lane} (hf : ∀ l, (f l).number = l.number) (h : s.lane? k = some l) :
    ∃ m, (s.updateLane k f).mluEnd.lane? k = some m ∧ OtherLanesKept s (s.updateLane k f).mluEnd k ∧
      laneCore m = laneCore (f l) := by
  obtain ⟨m, hm, hc⟩ := State.lane?_mluEnd_core (State.lane?_updateLane_same hf h)
  exact ⟨m, hm, (s.updateLane_others k hf).trans ((State.mluEnd_kept _).others k), hc⟩

/-! ## A put removed (R135, R136) -/

@[simp] theorem dropPut_puts (p : Nat) (l : Lane) :
    (dropPut p l).puts = l.puts.filter fun z => decide (z.pallet ≠ p) := by
  simp [dropPut]

theorem State.removePut_eq (s : State) (k p : Nat) : s.removePut k p = (s.updateLane k (dropPut p)).judgeLane k := rfl

theorem State.removePut_judgedFrom (h : s.lane? k = some l) (p : Nat) :
    JudgedFrom s (s.removePut k p) k (dropPut p l) :=
  State.updateLane_judgedFrom (fun _ => rfl) h

/-- A lane whose put has left it, as the statements say it. -/
theorem JudgedFrom.putRemoved {p : Nat} (h : JudgedFrom s t k (dropPut p l)) : ∃ m, t.lane? k = some m ∧
    OtherLanesKept s t k ∧ m.items = l.items ∧ m.puts = l.puts.filter (fun z => decide (z.pallet ≠ p)) ∧
    LaneJudged s t { l with puts := m.puts } m := by
  obtain ⟨ho, m, hm, hj⟩ := h
  obtain ⟨hi, hp, -⟩ := hj.contents
  refine ⟨m, hm, ho, hi, hp.trans (dropPut_puts p l), ?_⟩
  rw [hp]
  exact hj

/-! ## A put given a lane (R134, R135) -/

theorem State.addPut_judgedFrom {dest : Nat} (h : s.lane? k = some l) (ht : MayTake dest l) (x : Put) :
    JudgedFrom s (s.addPut k dest x) k
      { l with assignment := .assigned, dest := some dest, puts := l.puts ++ [x] } := by
  rw [← putInto_of_mayTake ht]
  exact State.updateLane_judgedFrom (putInto_number dest x) h

theorem not_laneEmptied_of_puts (h : l.puts ≠ []) : ¬ LaneEmptied l := fun he => h he.2.2.1

theorem not_laneEmptied_of_items (h : l.items ≠ []) : ¬ LaneEmptied l := fun he => h he.2.1

/-- The low mark in use lies below a fill that reaches the high mark. -/
theorem lowMarkInUse_lt {c : ConfigRecord} {n : Nat} (h : c.highMark ≤ n) (h0 : 0 < n) : lowMarkInUse c < n := by
  unfold lowMarkInUse
  split <;> omega

/-- The high flag of a lane that holds something, mark by mark (R133). -/
theorem judgedHigh_eq (c : ConfigRecord) {l : Lane} (h : 0 < laneFill l) : judgedHigh c l =
    if c.highMark ≤ laneFill l then true else if laneFill l ≤ lowMarkInUse c then false else l.high := by
  unfold judgedHigh
  cases l.high
  · simp
  · by_cases hm : c.highMark ≤ laneFill l
    · simp [hm, lowMarkInUse_lt hm h]
    · by_cases hlow : laneFill l ≤ lowMarkInUse c
      · simp [hm, hlow, Nat.not_lt.mpr hlow]
      · simp [hm, hlow, Nat.lt_of_not_le hlow]

end

end Sys2Proof.Machine
end

section
/-! PROOFS. Asks for a lane place and self-puts (R134, R135), and puts given up (R136, R22): O55. -/

namespace Sys2Proof.Machine

/-! ## Lanes and puts found -/

section
variable {s : State} {k p : Nat} {l : Lane} {y : Put}

theorem hasItem_iff (p : Nat) (l : Lane) : hasItem p l = true ↔ ∃ i ∈ l.items, i.pallet = p := by
  simp [hasItem]

theorem hasPut_iff (p : Nat) (l : Lane) : hasPut p l = true ↔ ∃ y ∈ l.puts, y.pallet = p := by
  simp [hasPut]

theorem State.inLanes_iff (s : State) (p : Nat) : s.inLanes p = true ↔
    ∃ l ∈ s.mlu.lanes, (∃ i ∈ l.items, i.pallet = p) ∨ ∃ y ∈ l.puts, y.pallet = p := by
  simp only [State.inLanes, List.any_eq_true, Bool.or_eq_true, hasItem_iff, hasPut_iff]

theorem State.findPut_some {q : Put → Bool} (h : s.findPut q = some (k, y)) :
    q y = true ∧ ∃ l ∈ s.mlu.lanes, l.number = k ∧ y ∈ l.puts := by
  obtain ⟨l, hl, e⟩ := List.exists_of_findSome?_eq_some h
  obtain ⟨x, hx, e⟩ := Option.map_eq_some_iff.mp e
  obtain ⟨rfl, rfl⟩ := Prod.mk.inj e
  exact ⟨List.find?_some hx, l, hl, rfl, List.mem_of_find?_eq_some hx⟩

theorem State.findPut_none {q : Put → Bool} (h : s.findPut q = none) :
    ∀ l ∈ s.mlu.lanes, ∀ y ∈ l.puts, q y = false := by
  intro l hl y hy
  have e := List.findSome?_eq_none_iff.mp h l hl
  rw [Option.map_eq_none_iff, List.find?_eq_none] at e
  exact Bool.eq_false_iff.mpr (e y hy)

/-- The first lane of lanes in order is the lowest-numbered (R134, R135). -/
theorem State.firstLane_lowest (h : LanesInOrder s.mlu.lanes) (q : Lane → Bool) :
    LowestLane s.mlu.lanes q (s.firstLane q) := by
  refine ⟨fun n hn => ?_, fun hn x hx => ?_⟩
  · obtain ⟨l, hl, rfl⟩ := Option.map_eq_some_iff.mp hn
    obtain ⟨hq, before, after, e, hbefore⟩ := List.find?_eq_some_iff_append.mp hl
    refine ⟨⟨l, List.mem_of_find?_eq_some hl, rfl, hq⟩, fun x hx hqx => ?_⟩
    rw [LanesInOrder, e, List.map_append, List.map_cons, List.pairwise_append, List.pairwise_cons] at h
    obtain ⟨-, ⟨hl, -⟩, -⟩ := h
    rw [e, List.mem_append, List.mem_cons] at hx
    obtain hx | rfl | hx := hx
    · exact absurd hqx (by simpa using hbefore x hx)
    · exact le_rfl
    · exact Nat.le_of_lt (hl _ (List.mem_map_of_mem hx))
  · rw [State.firstLane, Option.map_eq_none_iff, List.find?_eq_none] at hn
    exact Bool.eq_false_iff.mpr (hn x hx)

/-! ## The checks of an ask (R134) -/

theorem judgeLaneAsk_noLane {b : Nat} {x : AskBody}
    (h : (∀ l ∈ s.mlu.lanes, l.assignment = .suspect) ∨ x.dest = 0 ∨ 999 < x.dest ∨ x.weight = 0 ∨ 1500 < x.weight) :
    judgeLaneAsk s b x = .refuse .noLane := by
  unfold judgeLaneAsk
  by_cases hs : (s.mlu.lanes.all fun l => decide (l.assignment = .suspect)) = true
  · rw [if_pos hs]
  · rw [if_neg hs, if_pos]
    have hv : ¬ (validDest x.dest = true ∧ validWeight x.weight = true) := by
      rw [validDest_iff, validWeight_iff]
      obtain h | h | h | h | h := h
      · exact absurd (by simpa using h) hs
      all_goals omega
    rwa [← Bool.and_eq_true, Bool.not_eq_true, Bool.and_eq_false_iff, ← Bool.not_eq_true', ← Bool.not_eq_true',
      ← Bool.or_eq_true] at hv

theorem judgeLaneAsk_valid {b : Nat} {x : AskBody} (hs : ∃ l ∈ s.mlu.lanes, l.assignment ≠ .suspect)
    (hd : 1 ≤ x.dest ∧ x.dest ≤ 999) (hw : 1 ≤ x.weight ∧ x.weight ≤ 1500) : judgeLaneAsk s b x =
      match s.findPut fun y => decide (y.pallet = x.pallet) && decide (y.asker = b) with
      | some (k, y) => .regrant k y
      | none => if s.inLanes x.pallet then .refuse .duplicate else
        match (s.firstLane (takesPut x.dest)).or (s.firstLane freeForPut) with
        | some k => .grant k
        | none => .refuse .noLane := by
  have hall : ¬ (s.mlu.lanes.all fun l => decide (l.assignment = .suspect)) = true := by
    simpa using hs
  rw [judgeLaneAsk, if_neg hall, if_neg (by simp [validDest_iff.mpr hd, validWeight_iff.mpr hw])]
  cases s.firstLane (takesPut x.dest) <;> rfl

/-! ## Operations of a put leave the rest of the state -/

theorem State.judgeLane_serial (s : State) (k : Nat) : (s.judgeLane k).serial = s.serial := by
  unfold State.judgeLane
  split
  · rfl
  · obtain ⟨-, e⟩ | ⟨-, e⟩ := State.raiseIf_cases _ _ _ <;> rw [e] <;> rfl

theorem State.removePut_serial (s : State) (k p : Nat) : (s.removePut k p).serial = s.serial := by
  rw [State.removePut_eq, State.judgeLane_serial]
  rfl

theorem State.removePut_only (s : State) (k p : Nat) : OnlyLanes s (s.removePut k p) :=
  (s.updateLane_only k (dropPut p)).trans (State.judgeLane_only _ k)

/-- An offer goes by the FBI and the bay state alone. -/
theorem State.offerResult_congr {u : State} (hf : u.fbi = s.fbi) (hd : u.dcu = s.dcu) :
    u.offerResult = s.offerResult := by
  unfold State.offerResult State.reading State.inState
  rw [hf, hd]

theorem State.placeFrame_fbi_congr {u : State} (hf : u.fbi = s.fbi) (o : Outgoing) :
    (u.placeFrame o).fbi = (s.placeFrame o).fbi := by
  simp only [State.placeFrame, hf]

/-! ## A frame of the MLU offered (R147) -/

theorem State.mluOffer_fbi_placed (h : s.offerResult = .placed) (n : Nat) (b : Body) : (s.mluOffer n b).fbi =
    (s.placeFrame (.owned { owner := .mlu, built := s.serial, target := n, body := b })).fbi := by
  rw [State.mluOffer, h]
  rfl

theorem State.mluOffer_refused (s : State) (n : Nat) (b : Body) : MluFrameRefused s (s.mluOffer n b)
    { owner := .mlu, built := s.serial, target := n, body := b } := by
  refine ⟨fun h => ?_, fun h => ?_⟩
  · rw [State.mluOffer, h]
    refine ⟨State.mluOwe_fbi _ _, ?_⟩
    obtain ⟨hl, e⟩ | ⟨hl, e⟩ := s.bump.mluOwe_cases (s.frameNow .mlu n b)
    · exact (congrArg (fun u : State => u.mlu.owed) e).trans (if_pos hl).symm
    · exact (congrArg (fun u : State => u.mlu.owed) e).trans (if_neg (Nat.not_lt.mpr hl)).symm
  · rw [State.mluOffer, h]
    exact ⟨rfl, rfl⟩

/-- A put given up to its asker: a self-put within the bay, else by a frame (R136). -/
theorem State.giveUpPut_self (s : State) (x : ReleaseReason) (h : y.seq = none) :
    s.giveUpPut x y = s.hand (.selfPutRelease y.pallet x) := by
  rw [State.giveUpPut, h]

theorem State.giveUpPut_peer (s : State) (x : ReleaseReason) {n : Nat} (h : y.seq = some n) : s.giveUpPut x y =
    s.mluOffer y.asker (.release { pallet := y.pallet, asker := y.asker, seq := n, reason := x }) := by
  rw [State.giveUpPut, h]

theorem State.mluOffer_handed (s : State) (n : Nat) (b : Body) : (s.mluOffer n b).handed = s.handed := by
  obtain ⟨-, e⟩ | ⟨-, e⟩ | ⟨-, e⟩ := s.mluOffer_cases n b <;> rw [e]
  · rfl
  · obtain ⟨-, e⟩ | ⟨-, e⟩ := s.bump.mluOwe_cases
      { owner := .mlu, built := s.serial, target := n, body := b } <;> rw [e] <;> rfl

theorem State.giveUpPut_prefix (s : State) (x : ReleaseReason) (y : Put) : s.handed <+: (s.giveUpPut x y).handed := by
  unfold State.giveUpPut
  split
  · exact s.hand_prefix _
  · rw [State.mluOffer_handed]

theorem State.mluEnd_owed (s : State) : s.mluEnd.mlu.owed = s.mlu.owed := s.mluEnd_only.owed

end

/-! ## An ASK for a lane place (R134) -/

section
variable {s : State} {b k : Nat} {x : AskBody} {l : Lane}

/-- What an ASK does before the end of its event, by the verdict of its checks. -/
theorem exec_mluAsk_refuse (hl : s.resetLine = false) {reason : RefuseReason}
    (h : judgeLaneAsk s b x = .refuse reason) : exec (.mluAsk b x) s = .next ((s.drop (.mluAsk b x)).offerAnswer .mlu b
      (.refuse { asker := b, seq := x.seq, pallet := x.pallet, reason := reason })).mluEnd := by
  have hd : judgeLaneAsk (s.drop (.mluAsk b x)) b x = .refuse reason := h
  rw [exec, execMluAsk, taken_running hl]
  simp only [hd]

theorem exec_mluAsk_grant (hl : s.resetLine = false) (h : judgeLaneAsk s b x = .grant k)
    (ho : s.offerResult = .placed) : exec (.mluAsk b x) s = .next (((s.drop (.mluAsk b x)).offerAnswer .mlu b
      (laneGrant b x k s.scu.config.holdBeats)).addPut k x.dest (putOfAsk s b x)).mluEnd := by
  have hd : judgeLaneAsk (s.drop (.mluAsk b x)) b x = .grant k := h
  rw [exec, execMluAsk, taken_running hl]
  simp only [hd, State.drop_offerResult, ho]
  rfl

/-- A put with a new ask sequence, where it is of the pallet (R134). -/
def renewPut (p seq : Nat) (z : Put) : Put := if z.pallet = p then { z with seq := some seq } else z

/-- A lane whose put of a pallet has a new ask sequence (R134). -/
def renewPuts (p seq : Nat) (l : Lane) : Lane := { l with puts := l.puts.map (renewPut p seq) }

theorem exec_mluAsk_regrant (hl : s.resetLine = false) {y : Put} (h : judgeLaneAsk s b x = .regrant k y)
    (ho : s.offerResult = .placed) : exec (.mluAsk b x) s = .next (((s.drop (.mluAsk b x)).offerAnswer .mlu b
      (laneGrant b x k (y.expiry - s.dcu.beat))).updateLane k
      (renewPuts x.pallet x.seq)).mluEnd := by
  have hd : judgeLaneAsk (s.drop (.mluAsk b x)) b x = .regrant k y := h
  rw [exec, execMluAsk, taken_running hl]
  simp only [hd, State.drop_offerResult, ho]
  rfl

/-- Without room an ASK ends its event and no more, whatever its checks say. -/
theorem exec_mluAsk_noRoom (hl : s.resetLine = false) (ho : s.offerResult ≠ .placed) :
    exec (.mluAsk b x) s = .next (s.drop (.mluAsk b x)).mluEnd := by
  have hd : (s.drop (.mluAsk b x)).offerResult ≠ .placed := ho
  rw [exec, execMluAsk, taken_running hl]
  refine congrArg (fun u : State => Host.Outcome.next u.mluEnd) ?_
  split
  · obtain ⟨hp, -⟩ | ⟨-, e⟩ := (s.drop (.mluAsk b x)).offerAnswer_cases .mlu b
      (.refuse { asker := b, seq := x.seq, pallet := x.pallet, reason := ‹RefuseReason› })
    · exact absurd hp hd
    · rw [e]
  · split
    · exact absurd ‹_› hd
    · rfl
  · split
    · exact absurd ‹_› hd
    · rfl

theorem State.offerAnswer_fbi_placed (h : s.offerResult = .placed) (o : Owner) (n : Nat) (a : Body) :
    (s.offerAnswer o n a).fbi =
      (s.placeFrame (.owned { owner := o, built := s.serial, target := n, body := a })).fbi := by
  rw [State.offerAnswer, h]
  rfl

end

end Sys2Proof.Machine
end

section
/-! PROOFS. What an ASK for a lane place, a self-put and the giving up of a put leave (R134 to R136): O55. -/

namespace Sys2Proof.Machine

/-! ## An ASK for a lane place (R134) -/

section
variable {s : State} {b k : Nat} {x : AskBody} {l : Lane}

theorem State.offerAnswer_lanesKept (s : State) (o : Owner) (n : Nat) (a : Body) : LanesKept s (s.offerAnswer o n a) :=
  .of_lanes (congrArg Mlu.lanes (s.offerAnswer_mlu o n a))

theorem State.offerAnswer_fbi_refused (h : s.offerResult ≠ .placed) (o : Owner) (n : Nat) (a : Body) :
    (s.offerAnswer o n a).fbi = s.fbi := by
  obtain ⟨hp, -⟩ | ⟨-, e⟩ := s.offerAnswer_cases o n a
  · exact absurd hp h
  · rw [e]

/-- A lane granted takes the put of the ASK, ASSIGNED to its destination, and the GRANT goes out (R134). -/
theorem mluAsk_grants (hl : s.resetLine = false) (hfit : LanesFit s.mlu.lanes) (h : judgeLaneAsk s b x = .grant k)
    (hk : s.lane? k = some l) (ho : s.offerResult = .placed) :
    ∃ t m, exec (.mluAsk b x) s = .next t ∧ t.lane? k = some m ∧ OtherLanesKept s t k ∧
      m.assignment = .assigned ∧ m.dest = some x.dest ∧ m.items = l.items ∧ m.noPut = l.noPut ∧
      m.puts = l.puts ++ [{ pallet := x.pallet, asker := b, seq := some x.seq, weight := x.weight
                            estimated := false, height := x.height, stackable := x.stackable
                            expiry := s.dcu.beat + s.scu.config.holdBeats }] ∧
      m.high = (if s.scu.config.highMark ≤ laneFill l + 1 then true
        else if laneFill l + 1 ≤ lowMarkInUse s.scu.config then false else l.high) ∧
      (l.high = false → s.scu.config.highMark ≤ laneFill l + 1 → .noticeRaise .laneHigh ∈ t.handed) ∧
      t.fbi = (s.placeFrame (.owned
        { owner := .mlu, built := s.serial, target := b, body := .grant
            { asker := b, seq := x.seq, pallet := x.pallet, place := .lane k
              hold := s.scu.config.holdBeats, margin := 0 } })).fbi := by
  have htake := hfit.found (judgeLaneAsk_grant h) hk
  have hoffered : (s.drop (.mluAsk b x)).offerAnswer .mlu b (laneGrant b x k s.scu.config.holdBeats) =
      ((s.drop (.mluAsk b x)).bump.placeFrame (.owned
        { owner := .mlu, built := s.serial, target := b, body := laneGrant b x k s.scu.config.holdBeats })) := by
    rw [State.offerAnswer, State.drop_offerResult, ho]
    rfl
  have given : JudgedFrom s _ k _ := ((State.addPut_judgedFrom
    (s := (s.drop (.mluAsk b x)).offerAnswer .mlu b (laneGrant b x k s.scu.config.holdBeats)) (l := l) (k := k)
    (by rw [State.lane?_of_lanes (congrArg Mlu.lanes (State.offerAnswer_mlu _ _ _ _))]; exact hk) htake
    (putOfAsk s b x)).mluEnd).of_start (by rw [State.offerAnswer_mlu]; rfl) (by rw [hoffered]; rfl)
  obtain ⟨hothers, m, hm, hj⟩ := given
  obtain ⟨hitems, hputs, hno⟩ := hj.contents
  obtain ⟨ha, hd, hhigh⟩ := hj.assigned (not_laneEmptied_of_puts (by simp))
  have hfill : laneFill { l with assignment := .assigned, dest := some x.dest, puts := l.puts ++ [putOfAsk s b x] } =
      laneFill l + 1 := by
    simp [laneFill, Nat.add_assoc]
  refine ⟨_, m, exec_mluAsk_grant hl h ho, hm, hothers, ha, hd, hitems, hno, hputs, ?_, fun h0 h1 => ?_, ?_⟩
  · rw [hhigh, judgedHigh_eq _ (by rw [hfill]; omega), hfill]
  · exact hj.raised h0 (by rw [hfill]; exact h1)
  · rw [State.mluEnd_fbi, State.addPut_fbi, hoffered]
    rfl

/-- A re-grant renews the put's sequence and offers the hold that remains (R134). -/
theorem mluAsk_regrants {y : Put} (hl : s.resetLine = false) (h : judgeLaneAsk s b x = .regrant k y)
    (hk : s.lane? k = some l) (ho : s.offerResult = .placed) :
    ∃ t m, exec (.mluAsk b x) s = .next t ∧ t.lane? k = some m ∧ OtherLanesKept s t k ∧
      m.puts = l.puts.map (fun z => if z.pallet = x.pallet then { z with seq := some x.seq } else z) ∧
      laneCore { m with puts := l.puts } = laneCore l ∧
      t.fbi = (s.placeFrame (.owned
        { owner := .mlu, built := s.serial, target := b, body := .grant
            { asker := b, seq := x.seq, pallet := x.pallet, place := .lane k
              hold := y.expiry - s.dcu.beat, margin := 0 } })).fbi := by
  have offered := (s.drop (.mluAsk b x)).offerAnswer_lanesKept .mlu b (laneGrant b x k (y.expiry - s.dcu.beat))
  have lanes := congrArg Mlu.lanes ((s.drop (.mluAsk b x)).offerAnswer_mlu .mlu b
    (laneGrant b x k (y.expiry - s.dcu.beat)))
  obtain ⟨m, hm, hothers, hc⟩ := State.updateLane_mluEnd (f := renewPuts x.pallet x.seq) (fun _ => rfl)
    ((State.lane?_of_lanes lanes k).trans hk)
  refine ⟨_, m, exec_mluAsk_regrant hl h ho, hm, (offered.others k).trans hothers, ?_, ?_, ?_⟩
  · exact (congrArg Lane.puts hc).trans rfl
  · exact congrArg (fun n : Lane => { n with puts := l.puts }) hc
  · rw [State.mluEnd_fbi, State.updateLane_fbi]
    exact State.offerAnswer_fbi_placed (s := s.drop (.mluAsk b x)) ho _ _ _

end

/-! ## Self-puts (R135) -/

section
variable {s : State} {p : SelfPut} {kind : SelfPutKind} {n k : Nat} {l : Lane}

/-- The lanes a self-put may be given, by the kind of its request. -/
def selfPutTest (p : SelfPut) (kind : SelfPutKind) : Lane → Bool :=
  match kind with
  | .assigned => takesPut p.dest
  | .free => freeForPut

theorem selfPutLane_eq (s : State) (p : SelfPut) (kind : SelfPutKind) :
    selfPutLane s p kind = if s.inLanes p.pallet then none else s.firstLane (selfPutTest p kind) := by
  cases kind <;> rfl

theorem exec_selfPutRequest_none (hl : s.resetLine = false) (h : selfPutLane s p kind = none) :
    exec (.selfPutRequest p kind n) s =
      .next ((s.drop (.selfPutRequest p kind n)).hand (.selfPutAnswer p.pallet n none)).mluEnd := by
  have hd : selfPutLane (s.drop (.selfPutRequest p kind n)) p kind = none := h
  rw [exec, execSelfPutRequest, taken_running hl]
  simp only [hd]

theorem exec_selfPutRequest_some (hl : s.resetLine = false) (h : selfPutLane s p kind = some k) :
    exec (.selfPutRequest p kind n) s = .next
      (((s.drop (.selfPutRequest p kind n)).addPut k p.dest (putOfSelf s p)).hand
        (.selfPutAnswer p.pallet n (some { lane := k, hold := s.scu.config.holdBeats }))).mluEnd := by
  have hd : selfPutLane (s.drop (.selfPutRequest p kind n)) p kind = some k := h
  rw [exec, execSelfPutRequest, taken_running hl]
  simp only [hd]
  rfl

/-- A self-put that no lane may take is answered so (R135). -/
theorem selfPutRequest_refused (hl : s.resetLine = false) (h : selfPutLane s p kind = none) :
    ∃ t rest, exec (.selfPutRequest p kind n) s = .next t ∧ t.fbi = s.fbi ∧ LanesKept s t ∧
      t.handed = (s.drop (.selfPutRequest p kind n)).handed ++ .selfPutAnswer p.pallet n none :: rest := by
  obtain ⟨rest, hrest⟩ := ((s.drop (.selfPutRequest p kind n)).hand (.selfPutAnswer p.pallet n none)).mluEnd_prefix
  refine ⟨_, rest, exec_selfPutRequest_none hl h, by rw [State.mluEnd_fbi]; rfl, State.mluEnd_kept _, ?_⟩
  rw [← hrest, State.hand_handed, List.append_assoc]
  rfl

/-- A self-put is given its lane, judged, and answered (R135). -/
theorem selfPutRequest_given (hl : s.resetLine = false) (hfit : LanesFit s.mlu.lanes)
    (h : selfPutLane s p kind = some k) (hk : s.lane? k = some l) :
    ∃ t m, exec (.selfPutRequest p kind n) s = .next t ∧ t.fbi = s.fbi ∧ t.lane? k = some m ∧
      OtherLanesKept s t k ∧ m.assignment = .assigned ∧ m.dest = some p.dest ∧ m.items = l.items ∧
      m.puts = l.puts ++ [{ pallet := p.pallet, asker := s.own, seq := none, weight := p.weight
                            estimated := p.estimated, height := p.height, stackable := p.stackable
                            expiry := s.dcu.beat + s.scu.config.holdBeats }] ∧
      LaneJudged s t { l with assignment := .assigned, dest := some p.dest, puts := m.puts } m ∧
      .selfPutAnswer p.pallet n (some { lane := k, hold := s.scu.config.holdBeats }) ∈ t.handed := by
  have htake := hfit.found (selfPutLane_some h) hk
  have added := State.addPut_judgedFrom (s := s.drop (.selfPutRequest p kind n)) hk htake (putOfSelf s p)
  have answered := added.of_lanes (u := State.hand _ (.selfPutAnswer p.pallet n
    (some { lane := k, hold := s.scu.config.holdBeats }))) rfl (State.hand_prefix _ _)
  have given : JudgedFrom s _ k _ := answered.mluEnd.of_start rfl rfl
  obtain ⟨hothers, m, hm, hj⟩ := given
  obtain ⟨hitems, hputs, -⟩ := hj.contents
  obtain ⟨ha, hd, -⟩ := hj.assigned (not_laneEmptied_of_puts (by simp))
  refine ⟨_, m, exec_selfPutRequest_some hl h, ?_, hm, hothers, ha, hd, hitems, hputs, ?_, ?_⟩
  · rw [State.mluEnd_fbi, State.hand_fbi, State.addPut_fbi]
    rfl
  · rw [hputs]
    exact hj
  · exact (State.mluEnd_prefix _).subset (List.mem_append_right _ List.mem_cons_self)

end

/-! ## A put given up (R135, R136) -/

section
variable {s : State} {k p : Nat} {y : Put} {l : Lane}

/-- What ends a put's promise: the state with the put out of its lane, at the end of the event. -/
theorem State.removePut_end (c : Instr) (hk : s.lane? k = some l) (p : Nat) :
    JudgedFrom s ((s.drop c).removePut k p).mluEnd k (dropPut p l) :=
  (State.removePut_judgedFrom (s := s.drop c) hk p).mluEnd.of_start rfl rfl

theorem State.removePut_end_fbi (c : Instr) (k p : Nat) : ((s.drop c).removePut k p).mluEnd.fbi = s.fbi := by
  rw [State.mluEnd_fbi, State.removePut_fbi]
  rfl

/-- A put taken out, as the statements say it of a cancel, a LATE and a CANCEL. -/
theorem putTakenOut {c : Instr} (he : exec c s = .next ((s.drop c).removePut k p).mluEnd) (hk : s.lane? k = some l) :
    ∃ t m, exec c s = .next t ∧ t.fbi = s.fbi ∧ t.lane? k = some m ∧ OtherLanesKept s t k ∧ m.items = l.items ∧
      m.puts = l.puts.filter (fun z => decide (z.pallet ≠ p)) ∧ LaneJudged s t { l with puts := m.puts } m := by
  obtain ⟨m, hm, hothers, hitems, hputs, hj⟩ := (State.removePut_end c hk p).putRemoved
  exact ⟨_, m, he, State.removePut_end_fbi c k p, hm, hothers, hitems, hputs, hj⟩

/-- An event of the MLU that finds nothing to do ends, and no more. -/
theorem onlyEnd {c : Instr} (he : exec c s = .next (s.drop c).mluEnd) :
    ∃ t, exec c s = .next t ∧ t.fbi = s.fbi ∧ LanesKept s t :=
  ⟨_, he, State.mluEnd_fbi _, State.mluEnd_kept (s.drop c)⟩

theorem exec_selfPutCancel (hl : s.resetLine = false) (p : Nat) : exec (.selfPutCancel p) s = .next
    (match s.findPut fun z => decide (z.pallet = p) && decide (z.asker = s.own) with
      | some (k, _) => ((s.drop (.selfPutCancel p)).removePut k p).mluEnd
      | none => (s.drop (.selfPutCancel p)).mluEnd) := by
  rw [exec, execSelfPutCancel, taken_running hl]
  rfl

theorem exec_mluRelease_asker (hl : s.resetLine = false) {b : Nat} {x : ReleaseBody}
    (h : x.reason = .late ∨ x.reason = .cancel) : exec (.mluRelease b x) s = .next
    (match s.findPut fun z => decide (z.pallet = x.pallet) && decide (z.asker = x.asker) with
      | some (k, _) => ((s.drop (.mluRelease b x)).removePut k x.pallet).mluEnd
      | none => (s.drop (.mluRelease b x)).mluEnd) := by
  have hg : granterReason x.reason = false := by
    obtain h | h := h <;> rw [h] <;> rfl
  have hd : (s.drop (.mluRelease b x)).findPut = s.findPut := rfl
  rw [exec, execMluRelease, taken_running hl]
  simp only [hg, hd, Bool.false_eq_true, if_false]
  cases s.findPut fun z => decide (z.pallet = x.pallet) && decide (z.asker = x.asker) <;> rfl

theorem exec_putExpiry (hl : s.resetLine = false) (p : Nat) : exec (.putExpiry p) s = .next
    (match s.findPut fun z => decide (z.pallet = p) && decide (z.expiry ≤ s.dcu.beat) with
      | some (k, x) => (((s.drop (.putExpiry p)).removePut k p).giveUpPut .expired x).mluEnd
      | none => (s.drop (.putExpiry p)).mluEnd) := by
  rw [exec, execPutExpiry, taken_running hl]
  rfl

/-- An expired put leaves its lane and is given up to its asker (R136). -/
theorem putExpiry_givesUp (hl : s.resetLine = false) (hk : s.lane? k = some l)
    (h : s.findPut (fun z => decide (z.pallet = p) && decide (z.expiry ≤ s.dcu.beat)) = some (k, y)) :
    ∃ t m, exec (.putExpiry p) s = .next t ∧ t.lane? k = some m ∧ OtherLanesKept s t k ∧
      m.items = l.items ∧ m.puts = l.puts.filter (fun z => decide (z.pallet ≠ p)) ∧
      LaneJudged s t { l with puts := m.puts } m ∧
      (y.seq = none → t.fbi = s.fbi ∧ .selfPutRelease p .expired ∈ t.handed) ∧
      (∀ n, y.seq = some n → s.offerResult = .placed → t.fbi = (s.placeFrame (.owned
        { owner := .mlu, built := s.serial, target := y.asker, body := .release
            { pallet := p, asker := y.asker, seq := n, reason := .expired } })).fbi) ∧
      (∀ n, y.seq = some n → MluFrameRefused s t
        { owner := .mlu, built := s.serial, target := y.asker, body := .release
            { pallet := p, asker := y.asker, seq := n, reason := .expired } }) := by
  obtain ⟨hmatch, -⟩ := State.findPut_some h
  obtain ⟨rfl, -⟩ : y.pallet = p ∧ y.expiry ≤ s.dcu.beat := by simpa using hmatch
  let u := (s.drop (.putExpiry y.pallet)).removePut k y.pallet
  have he : exec (.putExpiry y.pallet) s = .next (u.giveUpPut .expired y).mluEnd := by
    rw [exec_putExpiry hl, h]
  have hu : OnlyLanes (s.drop (.putExpiry y.pallet)) u := State.removePut_only _ _ _
  have hfbi : u.fbi = s.fbi := hu.fbi
  have hserial : u.serial = s.serial := State.removePut_serial _ _ _
  have hoffer : u.offerResult = s.offerResult := State.offerResult_congr hu.fbi hu.dcu
  have howed : u.mlu.owed = s.mlu.owed := hu.owed
  have removed : JudgedFrom s (u.giveUpPut .expired y).mluEnd k (dropPut y.pallet l) :=
    ((State.removePut_judgedFrom (s := s.drop (.putExpiry y.pallet)) hk y.pallet).of_lanes
      (State.giveUpPut_lanes _ _ _) (State.giveUpPut_prefix _ _ _)).mluEnd.of_start rfl rfl
  obtain ⟨m, hm, hothers, hitems, hputs, hj⟩ := removed.putRemoved
  refine ⟨_, m, he, hm, hothers, hitems, hputs, hj, fun hs => ?_, fun n hs ho => ?_, fun n hs => ?_⟩
  · rw [State.giveUpPut_self _ _ hs, State.mluEnd_fbi]
    exact ⟨hfbi, (State.mluEnd_prefix _).subset (List.mem_append_right _ List.mem_cons_self)⟩
  · rw [State.mluEnd_fbi, State.giveUpPut_peer _ _ hs, State.mluOffer_fbi_placed (hoffer.trans ho),
      State.placeFrame_fbi_congr hfbi, hserial]
  · rw [State.giveUpPut_peer _ _ hs]
    have refused := u.mluOffer_refused y.asker
      (.release { pallet := y.pallet, asker := y.asker, seq := n, reason := .expired })
    rw [MluFrameRefused, hoffer, hfbi, howed, hserial] at refused
    rw [MluFrameRefused, State.mluEnd_fbi, State.mluEnd_owed]
    exact refused

/-- A GRANT told "send failed" takes the put that carries its sequence out (R136, R22). -/
theorem State.toldFailed_laneGrant {f : OwnedFrame} {g : GrantBody} (ho : f.owner = .mlu) (hb : f.body = .grant g) :
    s.toldFailed f = match s.findPut fun z =>
        decide (z.pallet = g.pallet) && decide (z.asker = g.asker) && decide (z.seq = some g.seq) with
      | some (k, _) => (s.removePut k g.pallet).mluEnd
      | none => s := by
  simp only [State.toldFailed, hb, State.grantFailed, ho]
  rfl

end

/-- Settles O55: the lanes and puts by how they are found, an ASK by the verdict of its checks, a self-put by the lane
it is given, and each way a put is given up by the put it finds. -/
theorem laneAsksAndPutsAreKept : Obligations.LaneAsksAndPutsAreKept := by
  refine ⟨fun p s => s.inLanes_iff p,
    fun k s => ⟨fun l => State.lane?_some, State.lane?_none, fun h l => s.lane?_of_mem h⟩,
    fun dest l => ⟨takesPut_iff dest l, freeForPut_iff l⟩,
    fun c l => ⟨rfl, fun h => if_neg (Nat.not_le.mpr h), fun h => if_pos h⟩, fun q s h => State.firstLane_lowest h q,
    fun q s => ⟨fun k y => State.findPut_some, State.findPut_none⟩,
    fun b x s => ⟨judgeLaneAsk_noLane, fun hs h1 h2 h3 h4 => judgeLaneAsk_valid hs ⟨h1, h2⟩ ⟨h3, h4⟩⟩,
    fun b x reason s hl hj => ?_, fun b k x l s => mluAsk_grants, fun b k x y l s => mluAsk_regrants,
    fun b x s hl ho => ?_, fun p kind n s hl h => ?_, fun p kind n k l s hl hfit hin h hk => ?_,
    fun p k y l s hl hk => ⟨fun h => ?_, fun b x hp hr h => ?_, putExpiry_givesUp hl hk⟩,
    fun b x s hl hr h => ?_, fun p s hl h => ?_, fun p s hl h => ?_,
    fun f g s ho hb => ⟨fun k y l h hk => ?_, fun h => ?_⟩⟩
  · refine ⟨_, exec_mluAsk_refuse hl hj, (State.offerAnswer_lanesKept (s.drop (.mluAsk b x)) _ _ _).mluEnd,
      fun ho => ?_, fun ho => ?_⟩
    · rw [State.mluEnd_fbi]
      exact State.offerAnswer_fbi_placed (s := s.drop (.mluAsk b x)) ho _ _ _
    · rw [State.mluEnd_fbi]
      exact State.offerAnswer_fbi_refused (s := s.drop (.mluAsk b x)) ho _ _ _
  · exact onlyEnd (exec_mluAsk_noRoom hl ho)
  · refine selfPutRequest_refused hl ?_
    rw [selfPutLane_eq]
    obtain h | h := h
    · rw [if_pos h]
    · split
      · rfl
      · exact h
  · refine selfPutRequest_given hl hfit ?_ hk
    rw [selfPutLane_eq, hin]
    exact h
  · exact putTakenOut (by rw [exec_selfPutCancel hl, h]) hk
  · subst hp
    exact putTakenOut (by rw [exec_mluRelease_asker hl hr, h]) hk
  · exact onlyEnd (by rw [exec_mluRelease_asker hl hr, h])
  · exact onlyEnd (by rw [exec_putExpiry hl, h])
  · exact onlyEnd (by rw [exec_selfPutCancel hl, h])
  · rw [State.toldFailed_laneGrant ho hb, h]
    obtain ⟨m, hm, hothers, hitems, hputs, hj⟩ := (State.removePut_judgedFrom hk g.pallet).mluEnd.putRemoved
    refine ⟨m, hm, ?_, hothers, hitems, hputs, hj⟩
    rw [State.mluEnd_fbi, State.removePut_fbi]
  · rw [State.toldFailed_laneGrant ho hb, h]

end Sys2Proof.Machine
end

section
/-! PROOFS. Frames that the marshalling lane unit offers one after the other, and an item put into a lane, with what it
offers and hands on (R137, R138, R147). -/

namespace Sys2Proof.Machine

/-! ## Offers one after the other (R147) -/

/-- From one state to the next the MLU offers frames in order, each numbered as built, and no other block does. -/
structure MluOffers (s t : State) (l : List OwnedFrame) : Prop where
  dcu : t.dcu = s.dcu
  mute : t.fbi.mute = s.fbi.mute
  mark : t.fbi.restartMark = s.fbi.restartMark
  frames : FramesOffered s t s.mlu.owed t.mlu.owed l
  serial : s.fbi.mute = false → t.serial = s.serial + l.length

/-- A state in which the LPU owes what the MLU owes: the way the two blocks' offers are told alike. -/
def State.owingAsMlu (s : State) : State :=
  { s with lpu := { s.lpu with owed := s.mlu.owed, owedClose := none } }

theorem MluOffers.asLpu {s t : State} {l : List OwnedFrame} (h : MluOffers s t l) :
    LpuOffers s.owingAsMlu t.owingAsMlu l :=
  ⟨h.dcu, h.mute, h.mark, rfl, h.frames, h.serial⟩

theorem MluOffers.trans {s t u : State} {l m : List OwnedFrame} (h : MluOffers s t l) (g : MluOffers t u m) :
    MluOffers s u (l ++ m) :=
  have both := h.asLpu.trans g.asLpu
  ⟨both.dcu, both.mute, both.mark, both.frames, both.serial⟩

/-- What touches neither the queue nor what the MLU owes offers nothing. -/
theorem MluOffers.none {s t : State} (hd : t.dcu = s.dcu) (hf : t.fbi = s.fbi) (ho : t.mlu.owed = s.mlu.owed)
    (hs : t.serial = s.serial) : MluOffers s t [] where
  dcu := hd
  mute := by rw [hf]
  mark := by rw [hf]
  frames := ⟨fun _ => ⟨hf, ho⟩, fun _ => by simp [hf, ho]⟩
  serial _ := hs

/-- A PLACED or RELEASE offered (R147). -/
theorem State.mluOffer_offers (s : State) (n : Nat) (b : Body) : MluOffers s (s.mluOffer n b)
    [{ owner := .mlu, built := s.serial, target := n, body := b }] := by
  have dropped (h : s.fbi.mute = false) {P : Prop} (hm : s.fbi.mute = true) : P := by simp [h] at hm
  obtain ⟨ho, e⟩ | ⟨ho, e⟩ | ⟨ho, e⟩ := s.mluOffer_cases n b
  · obtain ⟨hm, hl⟩ := State.offerResult_placed ho
    have hroom : 1 ≤ roomFor s := by
      rw [roomFor, if_pos ho]
      omega
    rw [e]
    refine ⟨rfl, rfl, rfl, ⟨dropped hm, fun _ => ⟨?_, ?_⟩⟩, fun _ => rfl⟩
    · rw [List.take_of_length_le hroom]
      rfl
    · rw [List.drop_of_length_le hroom]
      simp
  · have hm : s.fbi.mute = false := Bool.eq_false_iff.mpr fun hm => by
      rw [State.offerResult_of_muted hm] at ho
      cases ho
    have hroom : roomFor s = 0 := if_neg (by rw [ho]; nofun)
    rw [e]
    obtain ⟨hl, e⟩ | ⟨hl, e⟩ := s.bump.mluOwe_cases { owner := .mlu, built := s.serial, target := n, body := b } <;>
      rw [e] <;> refine ⟨rfl, rfl, rfl, ⟨dropped hm, fun _ => ⟨by simp [hroom], ?_⟩⟩, fun _ => rfl⟩
    · have hl : 1 ≤ 8 - s.mlu.owed.length := Nat.le_sub_of_add_le' hl
      rw [hroom, List.drop_zero, List.take_of_length_le hl]
      rfl
    · have hl : 8 - s.mlu.owed.length = 0 := Nat.sub_eq_zero_of_le hl
      simp [hl]
  · have hm : s.fbi.mute = true := by
      by_contra hm
      rw [State.offerResult_eq, if_neg hm] at ho
      split at ho <;> cases ho
    rw [e]
    exact ⟨rfl, rfl, rfl, ⟨fun _ => ⟨rfl, rfl⟩, fun h => dropped h hm⟩, fun h => dropped h hm⟩

/-! ## A placing announced (R137, R138) -/

/-- The PLACED of a lane's item, as built. -/
def lanePlaced (n pallet asker lane : Nat) : OwnedFrame :=
  { owner := .mlu, built := n, target := 0
    body := .placed { pallet := pallet, asker := asker, place := .lane lane, margin := 0 } }

section
variable (s : State) (p asker k : Nat)

theorem State.announcePut_offers (framed : Bool) : MluOffers s (s.announcePut p asker k framed)
    (if framed then [lanePlaced s.serial p asker k] else []) := by
  cases framed
  · exact .none rfl rfl rfl rfl
  · exact (s.mluOffer_offers 0 _).trans (.none (t := (s.mluOffer 0 _).hand _) rfl rfl rfl rfl)

theorem State.announcePut_note (framed : Bool) :
    .placedNote p asker (.lane k) ∈ (s.announcePut p asker k framed).handed := by
  cases framed <;> exact List.mem_append_right _ List.mem_cons_self

end

/-! ## An item put into a lane (R137, R138) -/

/-- A lane into which a read has put an item: ASSIGNED, and without its newest put where it was full. -/
def readInto (r : LanePut) (i : Item) (l : Lane) : Lane :=
  { l with
    assignment := .assigned
    dest := readDest r l
    puts := if laneFill l = 8 then l.puts.dropLast else l.puts
    items := l.items ++ [i] }

section
variable {s : State} {r : LanePut} {l : Lane} (hl : s.lane? r.lane = some l) (ht : TakesItem l) (hfit : laneFill l ≤ 8)
  (w : Nat) (e : Bool) (h : HeightClass) (st : Bool) (asker : Nat) (framed : Bool)

/-- The lane that a read leaves, within its capacity again. -/
theorem strandOver_appendItem (ht : TakesItem l) (hfit : laneFill l ≤ 8) :
    strandOver (appendItem r w e h st l) = readInto r (readItem r w e h st (readDest r l)) l := by
  have hfill : laneFill (appendItem r w e h st l) = laneFill l + 1 := by
    rw [appendItem_eq ht.known]
    simp only [laneFill, List.length_append, List.length_singleton]
    omega
  rw [strandOver, hfill, appendItem_eq ht.known, readInto]
  by_cases h8 : laneFill l = 8
  · rw [if_neg (by omega), if_pos h8]
    rfl
  · rw [if_pos (by omega), if_neg h8]

/-- The state with the item appended and its placing announced. -/
def State.itemAnnounced (s : State) (r : LanePut) (w : Nat) (e : Bool) (h : HeightClass) (st : Bool) (asker : Nat)
    (framed : Bool) : State :=
  (s.updateLane r.lane (appendItem r w e h st)).announcePut r.pallet asker r.lane framed

include hl ht hfit in
/-- An item put into a lane strands the newest put of a full lane, and no other. -/
theorem State.putItem_eq : s.putItem r w e h st asker framed =
    match strandedPut l with
    | some x => ((s.itemAnnounced r w e h st asker framed).updateLane r.lane dropNewest).giveUpPut .stranded x
    | none => s.itemAnnounced r w e h st asker framed := by
  have hA : (s.itemAnnounced r w e h st asker framed).lane? r.lane = some (appendItem r w e h st l) := by
    rw [State.itemAnnounced, State.lane?_of_lanes (State.announcePut_lanes _ _ _ _ _)]
    exact State.lane?_updateLane_same (appendItem_number r w e h st) hl
  have hfill : laneFill (appendItem r w e h st l) = laneFill l + 1 := by
    rw [appendItem_eq ht.known]
    simp only [laneFill, List.length_append, List.length_singleton]
    omega
  have hputs : (appendItem r w e h st l).puts = l.puts := by
    rw [appendItem_eq ht.known]
  show (s.itemAnnounced r w e h st asker framed).strandNewest r.lane = _
  obtain ⟨m, x, hm, hover, hlast, heq⟩ | ⟨hno, heq⟩ :=
    (s.itemAnnounced r w e h st asker framed).strandNewest_cases r.lane
  · obtain rfl := Option.some.inj (hA.symm.trans hm)
    rw [hputs] at hlast
    have h8 : laneFill l = 8 := by omega
    rw [heq, strandedPut, if_pos h8, hlast]
  · have hnone : strandedPut l = none := by
      unfold strandedPut
      split
      · obtain hle | hnil := hno _ hA
        · omega
        · rw [← hputs, hnil]
          rfl
      · rfl
    rw [heq, hnone]

include hl ht hfit in
/-- The lane of a read, and every other lane, behind it. -/
theorem State.putItem_lane : (s.putItem r w e h st asker framed).lane? r.lane =
    some (readInto r (readItem r w e h st (readDest r l)) l) := by
  rw [State.lane?_putItem, if_pos rfl, hl, ← strandOver_appendItem w e h st ht hfit]
  rfl

theorem State.putItem_other {j : Nat} (hj : j ≠ r.lane) : (s.putItem r w e h st asker framed).lane? j = s.lane? j := by
  rw [State.lane?_putItem, if_neg hj]

theorem State.putItem_scu : (s.putItem r w e h st asker framed).scu = s.scu := by
  have only : Only (allBut .scu) s (s.putItem r w e h st asker framed) := by
    have hf : allBut .scu .fbi = true := by decide
    have hm : allBut .scu .mlu = true := by decide
    simp [State.putItem, hf, hm]
  exact only .scu rfl

/-- The RELEASE of a stranded put of a peer, as built; a self-put has none. -/
def strandRelease (n : Nat) (x : Put) : List OwnedFrame :=
  x.seq.toList.map fun q =>
    { owner := .mlu, built := n, target := x.asker
      body := .release { pallet := x.pallet, asker := x.asker, seq := q, reason := .stranded } }

theorem strandFrames_eq (n : Nat) (l : Lane) : strandFrames n l = (strandedPut l).toList.flatMap (strandRelease n) := rfl

theorem State.giveUpPut_offers (s : State) (x : Put) :
    MluOffers s (s.giveUpPut .stranded x) (strandRelease s.serial x) := by
  rw [strandRelease]
  cases hx : x.seq with
  | none =>
    rw [State.giveUpPut_self _ _ hx]
    exact .none rfl rfl rfl rfl
  | some q =>
    rw [State.giveUpPut_peer _ _ hx]
    exact s.mluOffer_offers _ _

theorem State.itemAnnounced_offers : MluOffers s (s.itemAnnounced r w e h st asker framed)
    (if framed then [lanePlaced s.serial r.pallet asker r.lane] else []) :=
  (MluOffers.none (s := s) (t := s.updateLane r.lane (appendItem r w e h st)) rfl rfl rfl rfl).trans
    (State.announcePut_offers _ r.pallet asker r.lane framed)

theorem MluOffers.congr {t : State} {a b : List OwnedFrame} (h : MluOffers s t a) (e : s.fbi.mute = false → a = b) :
    MluOffers s t b :=
  have both := h.asLpu.congr e
  ⟨both.dcu, both.mute, both.mark, both.frames, both.serial⟩

include hl ht hfit in
/-- The frames of a read: the PLACED of its item, then the RELEASE of the put it strands (R137, R138). -/
theorem State.putItem_offers : MluOffers s (s.putItem r w e h st asker framed)
    (if framed then lanePlaced s.serial r.pallet asker r.lane :: strandFrames (s.serial + 1) l
      else strandFrames s.serial l) := by
  have announced := s.itemAnnounced_offers (r := r) w e h st asker framed
  rw [State.putItem_eq hl ht hfit]
  cases hx : strandedPut l with
  | none => simpa [strandFrames_eq, hx] using announced
  | some x =>
    have gone := (MluOffers.none (s := s.itemAnnounced r w e h st asker framed)
      (t := (s.itemAnnounced r w e h st asker framed).updateLane r.lane dropNewest) rfl rfl rfl rfl).trans
      (State.giveUpPut_offers _ x)
    refine (announced.trans gone).congr fun hm => ?_
    rw [State.updateLane_serial, announced.serial hm]
    cases framed <;> simp [strandFrames_eq, hx]

include hl ht hfit in
theorem State.putItem_note :
    .placedNote r.pallet asker (.lane r.lane) ∈ (s.putItem r w e h st asker framed).handed := by
  have note := State.announcePut_note (s.updateLane r.lane (appendItem r w e h st)) r.pallet asker r.lane framed
  rw [State.putItem_eq hl ht hfit]
  split
  · exact (State.giveUpPut_prefix _ _ _).subset note
  · exact note

include hl ht hfit in
/-- A self-put stranded by a read is given up within the bay (R138). -/
theorem State.putItem_selfRelease {x : Put} (hx : strandedPut l = some x) (hs : x.seq = none) :
    .selfPutRelease x.pallet .stranded ∈ (s.putItem r w e h st asker framed).handed := by
  rw [State.putItem_eq hl ht hfit, hx]
  dsimp only
  rw [State.giveUpPut_self _ _ hs]
  exact List.mem_append_right _ List.mem_cons_self

include hl ht hfit in
/-- Where no put is stranded, the PLACED alone goes out. -/
theorem State.putItem_fbi (hx : strandedPut l = none) :
    (framed = false → (s.putItem r w e h st asker framed).fbi = s.fbi) ∧
    (framed = true → s.offerResult = .placed → (s.putItem r w e h st asker framed).fbi =
      (s.placeFrame (.owned (lanePlaced s.serial r.pallet asker r.lane))).fbi) := by
  rw [State.putItem_eq hl ht hfit, hx]
  refine ⟨fun hf => ?_, fun hf ho => ?_⟩
  · rw [hf]
    rfl
  · rw [hf]
    exact State.mluOffer_fbi_placed (s := s.updateLane r.lane (appendItem r w e h st)) ho _ _

end

/-- The frames of a read, numbered as built: the PLACED of an item that is to be announced, then the RELEASE of the put
it strands (R137, R138). -/
def readFrames (r : LanePut) (asker : Nat) (framed : Bool) (n : Nat) (l : Lane) : List OwnedFrame :=
  if framed then lanePlaced n r.pallet asker r.lane :: strandFrames (n + 1) l else strandFrames n l

/-- From one state to the next a read puts an item into its lane, and nothing else happens to the lanes. -/
structure ItemPut (s v : State) (r : LanePut) (l : Lane) (i : Item) (asker : Nat) (framed : Bool) : Prop where
  lane : v.lane? r.lane = some (readInto r i l)
  other : ∀ j, j ≠ r.lane → v.lane? j = s.lane? j
  scu : v.scu = s.scu
  offers : MluOffers s v (readFrames r asker framed s.serial l)
  note : .placedNote r.pallet asker (.lane r.lane) ∈ v.handed
  selfRelease : ∀ x, strandedPut l = some x → x.seq = none → .selfPutRelease x.pallet .stranded ∈ v.handed
  unframed : strandedPut l = none → framed = false → v.fbi = s.fbi
  placed : strandedPut l = none → framed = true → s.offerResult = .placed →
    v.fbi = (s.placeFrame (.owned (lanePlaced s.serial r.pallet asker r.lane))).fbi

theorem State.putItem_puts {s : State} {r : LanePut} {l : Lane} (hl : s.lane? r.lane = some l) (ht : TakesItem l)
    (hfit : laneFill l ≤ 8) (w : Nat) (e : Bool) (h : HeightClass) (st : Bool) (asker : Nat) (framed : Bool) :
    ItemPut s (s.putItem r w e h st asker framed) r l (readItem r w e h st (readDest r l)) asker framed where
  lane := State.putItem_lane hl ht hfit w e h st asker framed
  other _ hj := State.putItem_other w e h st asker framed hj
  scu := State.putItem_scu w e h st asker framed
  offers := State.putItem_offers hl ht hfit w e h st asker framed
  note := State.putItem_note hl ht hfit w e h st asker framed
  selfRelease _ hx hs := State.putItem_selfRelease hl ht hfit w e h st asker framed hx hs
  unframed hx := (State.putItem_fbi hl ht hfit w e h st asker framed hx).1
  placed hx := (State.putItem_fbi hl ht hfit w e h st asker framed hx).2

/-- From one state to the next a pallet's puts leave one lane, and nothing else happens. -/
structure PutGone (s u : State) (k p : Nat) : Prop where
  lane : ∀ l, s.lane? k = some l → u.lane? k = some (dropPut p l)
  other : ∀ j, j ≠ k → u.lane? j = s.lane? j
  scu : u.scu = s.scu
  dcu : u.dcu = s.dcu
  fbi : u.fbi = s.fbi
  owed : u.mlu.owed = s.mlu.owed
  serial : u.serial = s.serial

theorem State.dropPut_gone (s : State) (c : Instr) (k p : Nat) :
    PutGone s ((s.drop c).updateLane k (dropPut p)) k p where
  lane _ hl := State.lane?_updateLane_same (s := s.drop c) (fun _ => rfl) hl
  other j hj := ((s.drop c).lane?_updateLane k j (dropPut p) fun _ => rfl).trans (if_neg hj)
  scu := rfl
  dcu := rfl
  fbi := rfl
  owed := rfl
  serial := rfl

end Sys2Proof.Machine
end

section
/-! PROOFS. Lane reads (R137, R138), exit events (R143), lamp reports and CLEAR LANE (R145, R146): O56. -/

namespace Sys2Proof.Machine

/-! ## Lane reads (R137, R138) -/

section
variable {s : State} {r : LanePut} {k : Nat} {l o : Lane} {y : Put}

theorem exec_mluLaneRead_ignored (hl : s.resetLine = false) (h : laneReadIgnored s r = true) :
    exec (.mluLaneRead r) s = .next ((s.drop (.mluLaneRead r)).raiseNotice .strayRead).mluEnd := by
  have hd : laneReadIgnored (s.drop (.mluLaneRead r)) r = true := h
  rw [exec, execMluLaneRead, taken_running hl]
  exact congrArg (fun u : State => Host.Outcome.next u.mluEnd) (if_pos hd)

theorem exec_mluLaneRead_taken (hl : s.resetLine = false) (h : laneReadIgnored s r = false) :
    exec (.mluLaneRead r) s = .next (match s.findPut fun z => decide (z.pallet = r.pallet) with
      | some (k, x) => ((s.drop (.mluLaneRead r)).guidedPut r k x).mluEnd
      | none => ((s.drop (.mluLaneRead r)).unguidedPut r).mluEnd) := by
  have hd : ¬ laneReadIgnored (s.drop (.mluLaneRead r)) r = true := Bool.eq_false_iff.mp h
  have hf : (s.drop (.mluLaneRead r)).findPut = s.findPut := rfl
  rw [exec, execMluLaneRead, taken_running hl]
  simp only [if_neg hd, hf]
  cases s.findPut fun z => decide (z.pallet = r.pallet) <;> rfl

/-- A read that is ignored raises STRAY_READ, and no more (R137). -/
theorem laneRead_ignored (hl : s.resetLine = false)
    (h : ∀ l, s.lane? r.lane = some l → l.assignment = .suspect ∨ 8 ≤ l.items.length ∨
      ∃ m ∈ s.mlu.lanes, ∃ i ∈ m.items, i.pallet = r.pallet) :
    ∃ t rest, exec (.mluLaneRead r) s = .next t ∧ t.fbi = s.fbi ∧ LanesKept s t ∧
      t.handed = (s.drop (.mluLaneRead r)).handed ++ .noticeRaise .strayRead :: rest := by
  have hign : laneReadIgnored s r = true := by
    rw [← Bool.not_eq_false, laneReadIgnored_eq_false]
    rintro ⟨l, hl, ⟨hknown, hroom⟩, hnew⟩
    obtain h | h | ⟨m, hm, i, hi, hp⟩ := h l hl
    · exact hknown h
    · omega
    · exact hnew m hm i hi hp
  obtain ⟨rest, hrest⟩ := ((s.drop (.mluLaneRead r)).raiseNotice .strayRead).mluEnd_prefix
  refine ⟨_, rest, exec_mluLaneRead_ignored hl hign, State.mluEnd_fbi _, State.mluEnd_kept _, ?_⟩
  rw [← hrest, State.raiseNotice_handed, List.append_assoc]
  rfl

/-- A lane that a read has put an item into is not emptied. -/
theorem not_laneEmptied_readInto (r : LanePut) (i : Item) (l : Lane) : ¬ LaneEmptied (readInto r i l) :=
  not_laneEmptied_of_items (by simp [readInto])

theorem State.judgeLane_prefix (s : State) (k : Nat) : s.handed <+: (s.judgeLane k).handed := by
  obtain ⟨x, hx⟩ := (s.judgeLane_only k).handed
  exact ⟨x, hx.symm⟩

theorem State.mluEnd_frames {t : State} {owed : List OwnedFrame} {l : List OwnedFrame}
    (h : FramesOffered s t owed t.mlu.owed l) : FramesOffered s t.mluEnd owed t.mluEnd.mlu.owed l := by
  rwa [FramesOffered, State.mluEnd_fbi, State.mluEnd_owed]

theorem State.judgeLane_frames {t : State} {owed : List OwnedFrame} {l : List OwnedFrame}
    (h : FramesOffered s t owed t.mlu.owed l) :
    FramesOffered s (t.judgeLane k) owed (t.judgeLane k).mlu.owed l := by
  rwa [FramesOffered, State.judgeLane_fbi, (t.judgeLane_only k).owed]

/-- What a judged lane is, behind a read into it. -/
theorem JudgedAt.readInto {t : State} {i : Item} (h : JudgedAt s t k (readInto r i l)) :
    ∃ m, t.lane? k = some m ∧ m.assignment = .assigned ∧ m.noPut = l.noPut ∧ m.dest = readDest r l ∧
      m.puts = (if laneFill l = 8 then l.puts.dropLast else l.puts) ∧ m.items = l.items ++ [i] ∧
      LaneJudged s t { l with assignment := .assigned, dest := m.dest, puts := m.puts, items := m.items } m := by
  obtain ⟨m, hm, hj⟩ := h
  obtain ⟨hi, hp, hn⟩ := hj.contents
  obtain ⟨ha, hd, -⟩ := hj.assigned (not_laneEmptied_readInto r i l)
  refine ⟨m, hm, ha, hn, hd, hp, hi, ?_⟩
  rw [hd, hp, hi]
  exact hj

/-- The lane of a read, judged at the end of the event, and what the read has offered and handed on. -/
theorem ItemPut.judgedAt {u v : State} {i : Item} {asker : Nat} {framed : Bool} (h : ItemPut u v r l i asker framed)
    (hc : u.scu = s.scu) : JudgedAt s (v.judgeLane r.lane).mluEnd r.lane (readInto r i l) :=
  (JudgedAt.of_judgeLane h.lane (by rw [h.scu, hc])).mluEnd

theorem exec_laneRead_unguided (hl : s.resetLine = false) (hfill : laneFill l ≤ 8) (hr : ReadTaken s r l)
    (hput : s.findPut (fun z => decide (z.pallet = r.pallet)) = none) :
    ∃ v, exec (.mluLaneRead r) s = .next (v.judgeLane r.lane).mluEnd ∧ ItemPut (s.drop (.mluLaneRead r)) v r l
      (readItem r (classMaxWeight r.height) true r.height r.stackable (readDest r l)) 0 true := by
  refine ⟨_, ?_, State.putItem_puts (s := s.drop (.mluLaneRead r)) hr.found hr.takes hfill _ _ _ _ _ _⟩
  rw [exec_mluLaneRead_taken hl (laneReadIgnored_eq_false.mpr ⟨l, hr⟩), hput]
  rfl

/-- A read without a put appends its pallet (R138). -/
theorem laneRead_unguided (hl : s.resetLine = false) (hfit : LanesFit s.mlu.lanes) (hr : ReadTaken s r l)
    (hput : s.findPut (fun z => decide (z.pallet = r.pallet)) = none) :
    ∃ t m, exec (.mluLaneRead r) s = .next t ∧ t.lane? r.lane = some m ∧ OtherLanesKept s t r.lane ∧
      m.assignment = .assigned ∧ m.noPut = l.noPut ∧ m.dest = readDest r l ∧
      m.puts = (if laneFill l = 8 then l.puts.dropLast else l.puts) ∧
      m.items = l.items ++ [{ pallet := r.pallet, weight := classMaxWeight r.height, estimated := true
                              height := r.height, stackable := r.stackable
                              foreign := !decide (m.dest = some r.dest) }] ∧
      LaneJudged s t { l with assignment := .assigned, dest := m.dest, puts := m.puts, items := m.items } m ∧
      .placedNote r.pallet 0 (.lane r.lane) ∈ t.handed ∧
      (∀ x, strandedPut l = some x → x.seq = none → .selfPutRelease x.pallet .stranded ∈ t.handed) ∧
      FramesOffered s t s.mlu.owed t.mlu.owed (
        { owner := .mlu, built := s.serial, target := 0, body := .placed
            { pallet := r.pallet, asker := 0, place := .lane r.lane, margin := 0 } } ::
        strandFrames (s.serial + 1) l) := by
  obtain ⟨v, he, put⟩ := exec_laneRead_unguided hl (hfit.of_lane? hr.found).1 hr hput
  obtain ⟨m, hm, ha, hn, hd, hp, hi, hj⟩ := (put.judgedAt (s := s) rfl).readInto
  have handed := (v.judgeLane_prefix r.lane).trans (State.mluEnd_prefix _)
  refine ⟨_, m, he, hm, fun j hjr => ?_, ha, hn, hd, hp, hd ▸ hi, hj, handed.subset put.note,
    fun x hx hs => handed.subset (put.selfRelease x hx hs),
    State.mluEnd_frames (State.judgeLane_frames put.offers.frames)⟩
  rw [State.mluEnd_kept _ j, State.judgeLane_other _ hjr, put.other j hjr]
  rfl

theorem exec_laneRead_guided (hl : s.resetLine = false) (hr : ReadTaken s r l)
    (hput : s.findPut (fun z => decide (z.pallet = r.pallet)) = some (k, y)) :
    exec (.mluLaneRead r) s = .next ((s.drop (.mluLaneRead r)).guidedPut r k y).mluEnd := by
  rw [exec_mluLaneRead_taken hl (laneReadIgnored_eq_false.mpr ⟨l, hr⟩), hput]

theorem exec_laneRead_elsewhere (hl : s.resetLine = false) (hfill : laneFill l ≤ 8) (hr : ReadTaken s r l)
    (hne : k ≠ r.lane)
    (hput : s.findPut (fun z => decide (z.pallet = r.pallet)) = some (k, y)) :
    ∃ u v, exec (.mluLaneRead r) s = .next ((v.judgeLane k).judgeLane r.lane).mluEnd ∧ PutGone s u k y.pallet ∧
      ItemPut u v r l (readItem r y.weight y.estimated y.height y.stackable (readDest r l)) y.asker y.seq.isSome := by
  have gone := s.dropPut_gone (.mluLaneRead r) k y.pallet
  refine ⟨_, _, ?_, gone, State.putItem_puts ((gone.other r.lane hne.symm).trans hr.found) hr.takes hfill _ _ _ _ _ _⟩
  rw [exec_laneRead_guided hl hr hput, State.guidedPut_eq]
  dsimp only
  rw [if_neg hne]

/-- A read with its put pending in another lane takes it out there and appends its pallet here (R137). -/
theorem laneRead_guidedElsewhere (hl : s.resetLine = false) (hfit : LanesFit s.mlu.lanes) (hr : ReadTaken s r l)
    (hne : k ≠ r.lane) (hk : s.lane? k = some o)
    (hput : s.findPut (fun z => decide (z.pallet = r.pallet)) = some (k, y)) :
    ∃ t m n, exec (.mluLaneRead r) s = .next t ∧ t.lane? r.lane = some m ∧ t.lane? k = some n ∧
      (∀ j, j ≠ k → j ≠ r.lane → (t.lane? j).map laneCore = (s.lane? j).map laneCore) ∧
      n.items = o.items ∧ n.puts = o.puts.filter (fun z => decide (z.pallet ≠ r.pallet)) ∧
      m.assignment = .assigned ∧ m.noPut = l.noPut ∧ m.dest = readDest r l ∧
      m.puts = (if laneFill l = 8 then l.puts.dropLast else l.puts) ∧
      m.items = l.items ++ [{ pallet := r.pallet, weight := y.weight, estimated := y.estimated
                              height := y.height, stackable := y.stackable
                              foreign := !decide (m.dest = some r.dest) }] ∧
      LaneJudged s t { o with puts := n.puts } n ∧
      LaneJudged s t { l with assignment := .assigned, dest := m.dest, puts := m.puts, items := m.items } m ∧
      .placedNote r.pallet y.asker (.lane r.lane) ∈ t.handed ∧
      (∀ x, strandedPut l = some x → x.seq = none → .selfPutRelease x.pallet .stranded ∈ t.handed) ∧
      (y.seq = none → FramesOffered s t s.mlu.owed t.mlu.owed (strandFrames s.serial l)) ∧
      (y.seq ≠ none → FramesOffered s t s.mlu.owed t.mlu.owed (
        { owner := .mlu, built := s.serial, target := 0, body := .placed
            { pallet := r.pallet, asker := y.asker, place := .lane r.lane, margin := 0 } } ::
        strandFrames (s.serial + 1) l)) := by
  have hy : y.pallet = r.pallet := by simpa using (State.findPut_some hput).1
  obtain ⟨u, v, he, gone, put⟩ := exec_laneRead_elsewhere hl (hfit.of_lane? hr.found).1 hr hne hput
  have handed := ((v.judgeLane_prefix k).trans (State.judgeLane_prefix _ r.lane)).trans (State.mluEnd_prefix _)
  have judgedThere : JudgedAt s _ k (dropPut y.pallet o) :=
    ((JudgedAt.of_judgeLane ((put.other k hne).trans (gone.lane o hk)) (by rw [put.scu, gone.scu])).of_lane
      (State.judgeLane_other (v.judgeLane k) hne) (State.judgeLane_prefix _ r.lane)).mluEnd
  have judgedHere : JudgedAt s _ r.lane (readInto r _ l) :=
    (JudgedAt.of_judgeLane ((v.judgeLane_other hne.symm).trans put.lane)
      (by rw [(v.judgeLane_only k).scu, put.scu, gone.scu])).mluEnd
  obtain ⟨n, hn, hjn⟩ := judgedThere
  obtain ⟨hni, hnp, -⟩ := hjn.contents
  obtain ⟨m, hm, ha, hno, hd, hp, hi, hj⟩ := judgedHere.readInto
  have offered := (MluOffers.none gone.dcu gone.fbi gone.owed gone.serial).trans put.offers
  have frames := State.mluEnd_frames (State.judgeLane_frames (k := r.lane)
    (State.judgeLane_frames (k := k) offered.frames))
  rw [List.nil_append, gone.serial, readFrames] at frames
  refine ⟨_, m, n, he, hm, hn, fun j hjk hjr => ?_, hni, ?_, ha, hno, hd, hp, hd ▸ hi, ?_, hj, handed.subset put.note,
    fun x hx hs => handed.subset (put.selfRelease x hx hs), fun hs => ?_, fun hs => ?_⟩
  · rw [State.mluEnd_kept _ j, State.judgeLane_other _ hjr, State.judgeLane_other _ hjk, put.other j hjr,
      gone.other j hjk]
  · rw [hnp, dropPut_puts, hy]
  · rw [hnp]
    exact hjn
  · rwa [hs] at frames
  · rwa [Option.isSome_iff_ne_none.mpr hs] at frames

theorem exec_laneRead_here (hl : s.resetLine = false) (hr : ReadTaken s r l)
    (hfill : laneFill (dropPut y.pallet l) ≤ 8)
    (hput : s.findPut (fun z => decide (z.pallet = r.pallet)) = some (r.lane, y)) :
    ∃ u v, exec (.mluLaneRead r) s = .next (v.judgeLane r.lane).mluEnd ∧ PutGone s u r.lane y.pallet ∧
      ItemPut u v r (dropPut y.pallet l)
        (readItem r y.weight y.estimated y.height y.stackable (readDest r (dropPut y.pallet l)))
        y.asker y.seq.isSome := by
  have gone := s.dropPut_gone (.mluLaneRead r) r.lane y.pallet
  refine ⟨_, _, ?_, gone, State.putItem_puts (gone.lane l hr.found) ⟨hr.takes.known, hr.takes.room⟩ hfill _ _ _ _ _ _⟩
  rw [exec_laneRead_guided hl hr hput, State.guidedPut_eq]
  dsimp only
  rw [if_pos rfl]

/-- A lane that loses a put has room. -/
theorem laneFill_dropPut_lt (h : y ∈ l.puts) : laneFill (dropPut y.pallet l) < laneFill l := by
  have hlt : (l.puts.filter fun z => decide (z.pallet ≠ y.pallet)).length < l.puts.length :=
    List.length_filter_lt_length_iff_exists.mpr ⟨y, h, by simp⟩
  rw [laneFill, dropPut_puts]
  exact Nat.add_lt_add_left hlt _

/-- A read with its put pending in its own lane consumes it (R137). -/
theorem laneRead_guided (hl : s.resetLine = false) (hfit : LanesFit s.mlu.lanes) (hr : ReadTaken s r l)
    (hput : s.findPut (fun z => decide (z.pallet = r.pallet)) = some (r.lane, y)) :
    ∃ t m, exec (.mluLaneRead r) s = .next t ∧ t.lane? r.lane = some m ∧ OtherLanesKept s t r.lane ∧
      m.assignment = .assigned ∧ m.dest = l.dest ∧ m.noPut = l.noPut ∧
      m.puts = l.puts.filter (fun z => decide (z.pallet ≠ r.pallet)) ∧
      m.items = l.items ++ [{ pallet := r.pallet, weight := y.weight, estimated := y.estimated
                              height := y.height, stackable := y.stackable
                              foreign := !decide (l.dest = some r.dest) }] ∧
      LaneJudged s t { l with puts := m.puts, items := m.items } m ∧
      .placedNote r.pallet y.asker (.lane r.lane) ∈ t.handed ∧ (y.seq = none → t.fbi = s.fbi) ∧
      (y.seq ≠ none → s.offerResult = .placed → t.fbi = (s.placeFrame (.owned
        { owner := .mlu, built := s.serial, target := 0, body := .placed
            { pallet := r.pallet, asker := y.asker, place := .lane r.lane, margin := 0 } })).fbi) := by
  obtain ⟨hmatch, hmem⟩ := State.findPut_some hput
  have hy : y.pallet = r.pallet := by simpa using hmatch
  have hmem : y ∈ l.puts := hfit.found hmem hr.found
  obtain ⟨hfill, hempty⟩ := hfit.of_lane? hr.found
  have hassigned : l.assignment = .assigned := by
    by_contra ha
    obtain ⟨-, hnil⟩ := hempty ha
    exact absurd hmem (by simp [hnil])
  have hless : laneFill (dropPut y.pallet l) < 8 := (laneFill_dropPut_lt hmem).trans_le hfill
  have hdest : readDest r (dropPut y.pallet l) = l.dest := if_neg (by simp [dropPut, hassigned])
  have hkeep : strandedPut (dropPut y.pallet l) = none := if_neg hless.ne
  obtain ⟨u, v, he, gone, put⟩ := exec_laneRead_here hl hr hless.le hput
  obtain ⟨m, hm, ha, hn, hd, hp, hi, hj⟩ := (put.judgedAt gone.scu).readInto
  rw [hdest] at hd hi
  rw [if_neg hless.ne, dropPut_puts, hy] at hp
  have handed := (v.judgeLane_prefix r.lane).trans (State.mluEnd_prefix _)
  have hfbi : (v.judgeLane r.lane).mluEnd.fbi = v.fbi := by rw [State.mluEnd_fbi, State.judgeLane_fbi]
  have hstart : ({ dropPut y.pallet l with
      assignment := .assigned, dest := m.dest, puts := m.puts, items := m.items } : Lane) =
        { l with puts := m.puts, items := m.items } := by
    rw [hd, ← hassigned]
    rfl
  refine ⟨_, m, he, hm, fun j hjr => ?_, ha, hd, hn, hp, hi, hstart ▸ hj, handed.subset put.note, fun hs => ?_,
    fun hs ho => ?_⟩
  · rw [State.mluEnd_kept _ j, State.judgeLane_other _ hjr, put.other j hjr, gone.other j hjr]
  · rw [hfbi, put.unframed hkeep (by rw [hs]; rfl), gone.fbi]
  · rw [hfbi, put.placed hkeep (Option.isSome_iff_ne_none.mpr hs)
      ((State.offerResult_congr gone.fbi gone.dcu).trans ho), State.placeFrame_fbi_congr gone.fbi, gone.serial]
    rfl

end

end Sys2Proof.Machine
end

section
/-! PROOFS. Exit events (R143), lamp reports and CLEAR LANE (R145, R146), and what the end of an event does to the drain
of a lane (R139): O56. -/

namespace Sys2Proof.Machine

/-! ## The drain of a lane over the end of an event (R139) -/

section
variable {s : State} {k : Nat} {l m : Lane}

/-- What the judgement of each lane for a drain keeps, the end of an event keeps. -/
theorem State.mluEnd_induct {P : State → Prop} (hP : ∀ u j, P u → P (u.judgeDrain j)) (h : P s) : P s.mluEnd := by
  unfold State.mluEnd
  generalize laneNumbers = numbers
  induction numbers generalizing s with
  | nil => exact h
  | cons j numbers ih => exact ih (hP s j h)

/-- The end of an event leaves a lane that has a drain record (R139). -/
theorem State.mluEnd_draining (h : s.lane? k = some m) (hd : m.drain ≠ none) : s.mluEnd.lane? k = some m := by
  refine State.mluEnd_induct (P := fun u => u.lane? k = some m) (fun u j hu => ?_) h
  by_cases hj : k = j
  · subst hj
    have stands : u.judgeDrain k = u := by
      unfold State.judgeDrain
      rw [hu]
      dsimp only
      split
      · exact absurd ‹_› hd
      · rfl
    rwa [stands]
  · rwa [u.judgeDrain_other j k hj]

theorem State.beginDrainSearch_lane (h : s.lane? k = some l) : (s.beginDrainSearch k).lane? k =
    some { l with drain := l.drain.map fun d => { d with search := some (freshSearch s.serial) } } := by
  unfold State.beginDrainSearch
  rw [h]
  exact State.lane?_updateLane_same (s := s.bump)
    (f := fun l => { l with drain := l.drain.map fun d => { d with search := some (freshSearch s.serial) } })
    (fun _ => rfl) h

/-- A lane without a drain record has none at the end of the event, or a new one for its head (R139). -/
theorem State.mluEnd_drainCleared (h : s.lane? k = some m) (hd : m.drain = none) :
    ∃ n, s.mluEnd.lane? k = some n ∧ DrainCleared n := by
  refine State.mluEnd_induct (P := fun u => ∃ n, u.lane? k = some n ∧ DrainCleared n) (fun u j hu => ?_)
    ⟨m, h, fun d hm => absurd (hd.symm.trans hm) nofun⟩
  obtain ⟨n, hn, hc⟩ := hu
  by_cases hj : k = j
  · subst hj
    unfold State.judgeDrain
    rw [hn]
    dsimp only
    split
    · rename_i head rest _ hitems hdrain
      split
      · refine ⟨_, State.lane?_updateLane_same (fun _ => rfl) hn, fun d hb => ?_⟩
        exact absurd (hdrain.symm.trans hb) nofun
      · have new := State.lane?_updateLane_same (f := fun l => { l with drain := some (newDrain head.pallet) })
          (fun _ => rfl) hn
        refine ⟨_, State.beginDrainSearch_lane new, fun d hb => ?_⟩
        obtain rfl := Option.some.inj hb
        exact ⟨rfl, rfl, rfl, rfl, by simp [hitems, newDrain]⟩
    · exact ⟨n, hn, hc⟩
  · exact ⟨n, by rwa [u.judgeDrain_other j k hj], hc⟩

/-- The lane that the judgement of a lane leaves (R133). -/
theorem State.judgeLane_lane (h : s.lane? k = some l) :
    (s.judgeLane k).lane? k = some (freedIfEmpty { l with high := highAfter s.scu.config l }) := by
  unfold State.judgeLane
  rw [h]
  dsimp only
  rw [State.lane?_of_lanes (congrArg Mlu.lanes (State.raiseIf_mlu _ _ _))]
  exact State.lane?_updateLane_same (fun l => (KeepsLane.freedIfEmpty s.scu.config l).number) h

theorem freedIfEmpty_drain (l : Lane) : (freedIfEmpty l).drain = l.drain := by
  unfold freedIfEmpty
  split <;> rfl

/-! ## Exit events (R143) -/

/-- Whether the drain of a lane guides its head out: it is GRANTED. -/
def guidesOut : Option Drain → Bool
  | some d => decide (d.state = .granted)
  | none => false

/-- A head that leaves without guidance changes the drain, and the blocked mark (R139). -/
theorem headChanged_eq (l : Lane) (h : guidesOut l.drain = false) :
    ∃ b, headChanged l = { l with drain := drainAfterExit l.drain, blocked := b } := by
  unfold headChanged
  cases hd : l.drain with
  | none => exact ⟨false, by rw [← hd]; simp [drainAfterExit, hd]⟩
  | some d =>
    rw [hd, guidesOut, decide_eq_false_iff_not] at h
    cases hs : d.state with
    | seeking => exact ⟨false, by simp [drainAfterExit, hs]⟩
    | asked => exact ⟨false, by simp [drainAfterExit, hs]⟩
    | granted => exact absurd hs h
    | inTransit => exact ⟨l.blocked, by simp [drainAfterExit, hs, ← hd]⟩

theorem headChanged_number (l : Lane) : (headChanged l).number = l.number :=
  (Lane.mk.inj (laneCore_headChanged l)).1

/-- An exit takes the head and changes the drain, raises UNGUIDED_REMOVAL unless the drain guides it, and is judged. -/
theorem exec_mluExitEvent_head {head : Item} {rest : List Item} (hl : s.resetLine = false) (hk : s.lane? k = some l)
    (hi : l.items = head :: rest) : ∃ (f : Lane → Lane) (b : Bool), (∀ x, (f x).number = x.number) ∧
      f l = { l with items := rest, drain := drainAfterExit l.drain, blocked := b } ∧
      exec (.mluExitEvent k) s = .next (((((s.drop (.mluExitEvent k)).updateLane k f).raiseIf
        (!guidesOut l.drain) .unguidedRemoval).judgeLane k).mluEnd) := by
  have hd : (s.drop (.mluExitEvent k)).lane? k = some l := hk
  have unguided (h : guidesOut l.drain = false) : ∃ b, headChanged { l with items := rest } =
      { l with items := rest, drain := drainAfterExit l.drain, blocked := b } :=
    headChanged_eq { l with items := rest } h
  rw [exec, execMluExitEvent, taken_running hl]
  simp only [hd, hi]
  cases hdr : l.drain with
  | none =>
    obtain ⟨b, hb⟩ := unguided (by rw [hdr]; rfl)
    exact ⟨_, b, fun x => headChanged_number { x with items := rest }, hb.trans (by rw [hdr]), rfl⟩
  | some d =>
    by_cases hg : d.state = .granted
    · have hguides : guidesOut (some d) = true := by simpa [guidesOut] using hg
      refine ⟨fun x => { x with items := rest, drain := some { d with state := .inTransit } }, l.blocked,
        fun _ => rfl, ?_, ?_⟩
      · simp [drainAfterExit, hg]
      · simp [hg, hguides, State.raiseIf]
    · have hguides : guidesOut (some d) = false := by simpa [guidesOut] using hg
      obtain ⟨b, hb⟩ := unguided (by rw [hdr]; exact hguides)
      refine ⟨_, b, fun x => headChanged_number { x with items := rest }, hb.trans (by rw [hdr]), ?_⟩
      simp [hg, hguides, State.raiseIf]

theorem exec_mluExitEvent_empty (hl : s.resetLine = false) (h : ∀ l, s.lane? k = some l → l.items = []) :
    exec (.mluExitEvent k) s = .next (s.drop (.mluExitEvent k)).mluEnd := by
  rw [exec, execMluExitEvent, taken_running hl]
  refine congrArg (fun u : State => Host.Outcome.next u.mluEnd) ?_
  split
  · rfl
  · rename_i l hk
    rw [h l hk]

/-- The blocked mark makes no difference to the judgement of a lane. -/
theorem LaneJudged.of_blocked {t : State} {b : Bool} (h : LaneJudged s t { l with blocked := b } m) :
    LaneJudged s t l m := ⟨h.raised, h.freed, h.kept⟩

/-- An exit event takes the head of its lane (R143). -/
theorem exitEvent_takesHead {head : Item} {rest : List Item} (hl : s.resetLine = false) (hk : s.lane? k = some l)
    (hi : l.items = head :: rest) :
    ∃ t m, exec (.mluExitEvent k) s = .next t ∧ t.fbi = s.fbi ∧ t.lane? k = some m ∧
      OtherLanesKept s t k ∧ m.items = rest ∧ m.puts = l.puts ∧
      (∀ d, l.drain = some d → d.state = .granted → m.drain = some { d with state := .inTransit }) ∧
      (∀ d, l.drain = some d → d.state = .inTransit → m.drain = some d) ∧
      ((∀ d, l.drain = some d → d.state ≠ .granted) → .noticeRaise .unguidedRemoval ∈ t.handed) ∧
      ((∀ d, l.drain = some d → d.state = .seeking ∨ d.state = .asked) → DrainCleared m) ∧
      LaneJudged s t { l with items := rest, drain := drainAfterExit l.drain } m ∧
      (rest = [] → l.puts = [] → l.drain = none → l.assignment = .assigned →
        m.assignment = .free ∧ m.dest = none ∧ m.high = false) := by
  obtain ⟨f, b, hf, hfl, he⟩ := exec_mluExitEvent_head hl hk hi
  generalize hu : ((s.drop (.mluExitEvent k)).updateLane k f).raiseIf (!guidesOut l.drain) .unguidedRemoval = u at he
  have hlanes : u.mlu.lanes = ((s.drop (.mluExitEvent k)).updateLane k f).mlu.lanes := by rw [← hu, State.raiseIf_mlu]
  have hscu : u.scu = s.scu := by
    rw [← hu, (State.raiseIf_only _ _ _).scu]
    rfl
  have hfbi : u.fbi = s.fbi := by
    rw [← hu, State.raiseIf_fbi]
    rfl
  have hlane : u.lane? k = some { l with items := rest, drain := drainAfterExit l.drain, blocked := b } := by
    rw [State.lane?_of_lanes hlanes, ← hfl]
    exact State.lane?_updateLane_same (s := s.drop (.mluExitEvent k)) hf hk
  have hothers : OtherLanesKept s u k :=
    OtherLanesKept.trans (State.updateLane_others (s.drop (.mluExitEvent k)) k hf)
      ((LanesKept.of_lanes hlanes).others k)
  have judged := (JudgedFrom.of_judgeLane hlane hothers (congrArg Scu.config hscu.symm)).mluEnd
  obtain ⟨m, hm, hj⟩ := judged.judged
  have hj : LaneJudged s _ { l with items := rest, drain := drainAfterExit l.drain } m :=
    LaneJudged.of_blocked (b := b) hj
  obtain ⟨hmi, hmp, -⟩ := hj.contents
  have hafter := State.judgeLane_lane hlane
  have hdrain := freedIfEmpty_drain { l with
    items := rest, drain := drainAfterExit l.drain, blocked := b,
    high := highAfter u.scu.config { l with items := rest, drain := drainAfterExit l.drain, blocked := b } }
  have draining (d : Drain) (h : drainAfterExit l.drain = some d) : m.drain = some d := by
    have stands := State.mluEnd_draining hafter (by rw [hdrain, h]; nofun)
    rw [Option.some.inj (hm.symm.trans stands), hdrain, h]
  refine ⟨_, m, he, ?_, hm, judged.others, hmi, hmp, fun d hd hs => draining _ ?_, fun d hd hs => draining _ ?_,
    fun h => ?_, fun h => ?_, hj, fun h1 h2 h3 h4 => ?_⟩
  · rw [State.mluEnd_fbi, State.judgeLane_fbi, hfbi]
  · rw [hd, drainAfterExit, hs]
  · rw [hd, drainAfterExit, hs]
  · have hguides : guidesOut l.drain = false := by
      cases hd : l.drain with
      | none => rfl
      | some d => simpa [guidesOut] using h d hd
    refine ((u.judgeLane_prefix k).trans (State.mluEnd_prefix _)).subset ?_
    rw [← hu, hguides]
    exact List.mem_append_right _ List.mem_cons_self
  · have hcleared : drainAfterExit l.drain = none := by
      cases hd : l.drain with
      | none => rfl
      | some d => obtain hs | hs := h d hd <;> rw [drainAfterExit, hs]
    obtain ⟨n, hn, hc⟩ := State.mluEnd_drainCleared hafter (hdrain.trans hcleared)
    exact Option.some.inj (hn.symm.trans hm) ▸ hc
  · rw [hj.freed ⟨h4, h1, h2, by rw [h3]; rfl⟩]
    exact ⟨rfl, rfl, rfl⟩

/-! ## Lamp reports and CLEAR LANE (R145, R146) -/

/-- The no-put flag set by a lamp report. -/
def withNoPut (b : Bool) (l : Lane) : Lane := { l with noPut := b }

theorem exec_lampFaultReport (hl : s.resetLine = false) (k : Nat) : exec (.lampFaultReport k) s =
    .next ((s.drop (.lampFaultReport k)).updateLane k (withNoPut true)).mluEnd := by
  rw [exec, execLampFaultReport, taken_running hl]
  rfl

theorem exec_lampClearReport (hl : s.resetLine = false) (k : Nat) : exec (.lampClearReport k) s =
    .next ((s.drop (.lampClearReport k)).updateLane k (withNoPut false)).mluEnd := by
  rw [exec, execLampClearReport, taken_running hl]
  rfl

/-- A report for a lane that is not there changes none. -/
theorem State.updateLane_absent (h : s.lane? k = none) (f : Lane → Lane) : s.updateLane k f = s := by
  have lanes : (s.mlu.lanes.map fun l => if l.number = k then f l else l) = s.mlu.lanes :=
    (List.map_congr_left fun l hl => if_neg (State.lane?_none h l hl)).trans (List.map_id' _)
  rw [State.updateLane, lanes]

/-- CLEAR LANE makes a SUSPECT lane FREE and empty, its flags clear but no-put (R146). -/
def freedLane (l : Lane) : Lane := { suspectLane l.number with assignment := .free, noPut := l.noPut }

theorem exec_clearLane_suspect (hr : s.ready = true) (hk : s.lane? k = some l) (ha : l.assignment = .suspect) :
    exec (.clearLane k) s = .next ((s.updateLane k freedLane).mluEnd.answer .clearLane .ok .nothing) := by
  rw [exec, execClearLane, request_ready hr, hk]
  dsimp only
  rw [if_pos ha, s.updateLane_congr (g := freedLane) fun x hx => by rw [freedLane, hx]]

theorem clearLane_frees (hr : s.ready = true) (hk : s.lane? k = some l) (ha : l.assignment = .suspect) :
    ∃ t m, exec (.clearLane k) s = .next t ∧ t.lane? k = some m ∧ OtherLanesKept s t k ∧
      m = { suspectLane k with assignment := .free, noPut := l.noPut } ∧
      t.scu.answer = some { request := .clearLane, code := .ok, data := .nothing } := by
  have hlane := State.lane?_updateLane_same (f := freedLane) (fun _ => rfl) hk
  have hothers := (s.updateLane_others k (f := freedLane) fun _ => rfl).trans ((State.mluEnd_kept _).others k)
  refine ⟨_, _, exec_clearLane_suspect hr hk ha, State.mluEnd_unassigned _ k _ hlane nofun, hothers, ?_, rfl⟩
  rw [freedLane, (State.lane?_some hk).2]

end

/-- Settles O56: a read by whether it is ignored and where its put is pending, an exit by the drain of its lane, a lamp
report by whether its lane is there, CLEAR LANE by the lane's assignment. -/
theorem laneReadsAndExitsMoveItems : Obligations.LaneReadsAndExitsMoveItems := by
  refine ⟨fun k s hl hk => ⟨?_, ?_⟩, fun r s => laneRead_ignored,
    fun r l y s hl hfit hr ha hi hnew hput => laneRead_guided hl hfit ⟨hr, ⟨ha, hi⟩, hnew⟩ hput,
    fun r k l o y s hl hfit hr ha hi hnew hne hk hput =>
      laneRead_guidedElsewhere hl hfit ⟨hr, ⟨ha, hi⟩, hnew⟩ hne hk hput,
    fun r l s hl hfit hr ha hi hnew hput => laneRead_unguided hl hfit ⟨hr, ⟨ha, hi⟩, hnew⟩ hput,
    fun k s hl h => onlyEnd (exec_mluExitEvent_empty hl h), fun k l head rest s => exitEvent_takesHead,
    fun k l s hl hk => ⟨?_, ?_⟩,
    fun k s hr => ⟨fun hk => ?_, fun l hk ha => ?_, fun l hk ha => clearLane_frees hr hk ha⟩⟩
  · exact onlyEnd (by rw [exec_lampFaultReport hl, State.updateLane_absent (s := s.drop (.lampFaultReport k)) hk])
  · exact onlyEnd (by rw [exec_lampClearReport hl, State.updateLane_absent (s := s.drop (.lampClearReport k)) hk])
  · obtain ⟨m, hm, hothers, hc⟩ := State.updateLane_mluEnd (s := s.drop (.lampFaultReport k)) (f := withNoPut true)
      (fun _ => rfl) hk
    exact ⟨_, m, exec_lampFaultReport hl k, hm, hothers, hc⟩
  · obtain ⟨m, hm, hothers, hc⟩ := State.updateLane_mluEnd (s := s.drop (.lampClearReport k)) (f := withNoPut false)
      (fun _ => rfl) hk
    exact ⟨_, m, exec_lampClearReport hl k, hm, hothers, hc⟩
  · rw [exec, execClearLane, request_ready hr, hk]
  · rw [exec, execClearLane, request_ready hr, hk]
    exact congrArg Host.Outcome.next (if_neg ha)

end Sys2Proof.Machine
end

section
/-! PROOFS. Lamp channels (R149, R150, R155): what a change of target, a drive by the current indication and a commit do
to a channel, and what they leave. A step with no command waiting: O2. -/

namespace Sys2Proof.Machine

/-- With nothing handed on either, a millisecond of the lamp timebase passes (R155). -/
theorem step_idle {s : State} (hp : s.pending = []) (hh : s.handed = []) : step s = .next s.idle := by
  rw [step, hp, hh]

/-- Settles O2: a step by what waits on its two lists. -/
theorem stepWithEmptyQueue : Obligations.StepWithEmptyQueue := by
  refine ⟨fun c k l s => ⟨rfl, rfl, rfl, rfl, rfl⟩, fun c rest s hp hh => ?_, fun s hp hh => step_idle hp hh⟩
  rw [step, hp, hh]

/-! ## Channels by their number -/

theorem channelAt_get (g : Gdu) {k : Nat} (h1 : 1 ≤ k) (h12 : k ≤ 12) :
    g.channels[k - 1]? = some (channelAt g k) := by
  have hk : k - 1 < 12 := by omega
  rw [channelAt, Vector.getElem?_eq_getElem hk, Option.getD_some]

/-- The RED substitute goes by the faults of channel 1 (R157). -/
theorem redFaulted_eq (g : Gdu) : redFaulted g = faulted (channelAt g 1) := by
  rw [redFaulted, show g.channels[0]? = some (channelAt g 1) from channelAt_get g (Nat.le_refl 1) (by omega)]

/-! ## A drive at its target or held -/

theorem settled_eq (c : Channel) : settled c = { c with drive := (settled c).drive } := by
  unfold settled
  repeat' split
  all_goals rfl

@[simp] theorem settled_pattern (c : Channel) : (settled c).pattern = c.pattern := by rw [settled_eq]

@[simp] theorem settled_on (c : Channel) : (settled c).on = c.on := by rw [settled_eq]

@[simp] theorem settled_level (c : Channel) : (settled c).level = c.level := by rw [settled_eq]

@[simp] theorem settled_ramp (c : Channel) : (settled c).ramp = c.ramp := by rw [settled_eq]

@[simp] theorem settled_openFault (c : Channel) : (settled c).openFault = c.openFault := by rw [settled_eq]

@[simp] theorem settled_shortFault (c : Channel) : (settled c).shortFault = c.shortFault := by rw [settled_eq]

/-- SHORT holds a drive at 0 (R156). -/
theorem settled_short {c : Channel} (h : c.shortFault = true) : settled c = { c with drive := 0 } := if_pos h

theorem rampless_iff (c : Channel) : rampless c = true ↔ c.ramp = 0 ∨ c.level = 0 := by
  simp [rampless]

theorem settled_rampless {c : Channel} (hs : c.shortFault = false) (h : c.ramp = 0 ∨ c.level = 0) :
    settled c = { c with drive := if c.on then c.level * driveUnits else 0 } := by
  rw [settled, if_neg (Bool.eq_false_iff.mp hs), if_pos ((rampless_iff c).mpr h)]

theorem settled_ramping {c : Channel} (hs : c.shortFault = false) (hr : c.ramp ≠ 0) (hv : c.level ≠ 0) :
    settled c = c := by
  rw [settled, if_neg (Bool.eq_false_iff.mp hs), if_neg (mt (rampless_iff c).mp (not_or.mpr ⟨hr, hv⟩))]

/-! ## A change of target -/

theorem latched_level_taken {g : IntensityGroup} {c : Channel} (h : c.on = true ∨ g.level ≠ 0) :
    (latched g c).level = g.level :=
  if_neg fun ⟨hoff, hv⟩ => h.elim (Bool.eq_false_iff.mp hoff) (· hv)

/-- A channel turned off in a group of level 0 falls from the level it rose to (notes/assumptions/15.md). -/
theorem latched_level_kept {g : IntensityGroup} {c : Channel} (hoff : c.on = false) (hv : g.level = 0) :
    (latched g c).level = c.level := if_pos ⟨hoff, hv⟩

section
variable (g : IntensityGroup) (p : Pattern) (on : Bool) (c : Channel)

@[simp] theorem retarget_pattern : (retarget g p on c).pattern = p := by
  unfold retarget
  split <;> simp [latched]

@[simp] theorem retarget_on : (retarget g p on c).on = on := by
  unfold retarget
  split
  · exact Eq.symm ‹_›
  · simp [latched]

@[simp] theorem retarget_openFault : (retarget g p on c).openFault = c.openFault := by
  unfold retarget
  split <;> simp [latched]

@[simp] theorem retarget_shortFault : (retarget g p on c).shortFault = c.shortFault := by
  unfold retarget
  split <;> simp [latched]

@[simp] theorem faulted_retarget : faulted (retarget g p on c) = faulted c := by
  rw [faulted, retarget_openFault, retarget_shortFault, faulted]

/-- A change of target leaves a drive that SHORT holds at 0. -/
theorem retarget_drive_short (hs : c.shortFault = true) (hd : c.drive = 0) : (retarget g p on c).drive = 0 := by
  unfold retarget
  split
  · exact hd
  · exact congrArg Channel.drive (settled_short (c := latched g { c with pattern := p, on := on }) hs)

/-- A target turned round takes the level and ramp time in force anew (R155). -/
theorem retarget_turned : retarget g c.pattern (!c.on) c = settled (latched g { c with on := !c.on }) := by
  rw [retarget, if_neg (by cases c.on <;> decide)]

end

/-! ## A channel driven by the current indication (R149) -/

/-- A channel as the current indication drives it. -/
def State.drivenChannel (s : State) (k : Nat) : Channel :=
  retarget (s.channelIntensity k) (channelPattern (redFaulted s.gdu) s.gdu.current k)
    (decide (channelPattern (redFaulted s.gdu) s.gdu.current k ≠ .off)) (channelAt s.gdu k)

section
variable (s : State) {j k : Nat}

theorem State.driveChannel_eq : s.driveChannel k = s.setChannel k (s.drivenChannel k) := rfl

theorem channelAt_driveChannel_same (h1 : 1 ≤ k) (h12 : k ≤ 12) :
    channelAt (s.driveChannel k).gdu k = s.drivenChannel k := by
  rw [State.driveChannel_eq, channelAt_setChannel s k k _ h1 h12 h1, if_pos rfl]

theorem channelAt_driveChannel_other (h1 : 1 ≤ j) (h12 : j ≤ 12) (hk : 1 ≤ k) (hn : j ≠ k) :
    channelAt (s.driveChannel j).gdu k = channelAt s.gdu k := by
  rw [State.driveChannel_eq, channelAt_setChannel s j k _ h1 h12 hk, if_neg hn]

/-- A channel driven keeps its faults, so the RED substitute stands (R157). -/
theorem redFaulted_driveChannel (h1 : 1 ≤ j) (h12 : j ≤ 12) :
    redFaulted (s.driveChannel j).gdu = redFaulted s.gdu := by
  rw [redFaulted_eq, redFaulted_eq]
  by_cases hj : j = 1
  · subst hj
    rw [channelAt_driveChannel_same s h1 h12, State.drivenChannel, faulted_retarget]
  · rw [channelAt_driveChannel_other s h1 h12 (Nat.le_refl 1) hj]

theorem State.drivenChannel_driveChannel (h1 : 1 ≤ j) (h12 : j ≤ 12) (hk : 1 ≤ k) (hn : j ≠ k) :
    (s.driveChannel j).drivenChannel k = s.drivenChannel k := by
  rw [State.drivenChannel, redFaulted_driveChannel s h1 h12, channelAt_driveChannel_other s h1 h12 hk hn]
  rfl

end

/-- Each channel of a list is driven once, and no other. -/
theorem channelAt_driveChannels {k : Nat} (hk : 1 ≤ k) (l : List Nat) (hl : l.Nodup)
    (hb : ∀ j ∈ l, 1 ≤ j ∧ j ≤ 12) (s : State) : channelAt (l.foldl State.driveChannel s).gdu k =
      if k ∈ l then s.drivenChannel k else channelAt s.gdu k := by
  induction l generalizing s with
  | nil => rfl
  | cons j l ih =>
    obtain ⟨hj, hl⟩ := List.nodup_cons.mp hl
    obtain ⟨h1, h12⟩ := hb j List.mem_cons_self
    rw [List.foldl_cons, ih hl fun i hi => hb i (List.mem_cons_of_mem j hi)]
    by_cases e : j = k
    · subst e
      rw [if_neg hj, if_pos List.mem_cons_self, channelAt_driveChannel_same s h1 h12]
    · rw [State.drivenChannel_driveChannel s h1 h12 hk e, channelAt_driveChannel_other s h1 h12 hk e]
      simp [Ne.symm e]

/-- Channels driven change the channels alone. -/
theorem driveChannels_eq (l : List Nat) (s : State) :
    l.foldl State.driveChannel s = s.setChannels (l.foldl State.driveChannel s).gdu.channels := by
  induction l generalizing s with
  | nil => rfl
  | cons j l ih => exact ih (s.driveChannel j)

/-! ## A commit (R149, R153) -/

/-- What a commit changes: the current indication, its request, the beat, and the channels. -/
theorem State.commit_eq (s : State) (i : Indication) (r : Option IndicationRequest) :
    ∃ v, s.commit i r = { s with gdu := { s.gdu with
      current := i, request := r, commitBeat := s.now, channels := v } } :=
  ⟨_, driveChannels_eq channelNumbers _⟩

/-- A commit drives each channel by its indication. -/
theorem channelAt_commit (s : State) (i : Indication) (r : Option IndicationRequest) {k : Nat} (h1 : 1 ≤ k)
    (h12 : k ≤ 12) : channelAt (s.commit i r).gdu k =
      retarget (s.channelIntensity k) (channelPattern (redFaulted s.gdu) i k)
        (decide (channelPattern (redFaulted s.gdu) i k ≠ .off)) (channelAt s.gdu k) := by
  have listed : k ∈ channelNumbers := by
    simp only [channelNumbers, List.mem_cons, List.not_mem_nil]
    omega
  refine (channelAt_driveChannels h1 channelNumbers (by decide) (by decide) _).trans ?_
  rw [if_pos listed]
  rfl

end Sys2Proof.Machine
end

section
/-! PROOFS. The requests for indications, the dwell and the show (R151 to R154), and the tables of the head (R149,
R151, R157): O59. -/

namespace Sys2Proof.Machine

/-! ## The tables -/

theorem plainIndication_shows (n : IndicationName) (c : Option Colour) (p : Pattern) (d : Display) :
    Shows (plainIndication n c p d) c p d none none none :=
  ⟨rfl, rfl, rfl, rfl, rfl, rfl, nofun⟩

theorem laneIndication_shows (n : IndicationName) (c : Option Colour) (p q : Pattern) (d : Display) (k : Nat) :
    Shows { plainIndication n c p d with lane := some k, lanePattern := q } c p d none none (some (k, q)) :=
  ⟨rfl, rfl, rfl, rfl, rfl, rfl, fun x hx => by rw [← Option.some.inj hx]⟩

theorem placeIndication_shows (n : IndicationName) (c : Option Colour) (p : Pattern) (d : Display) (sd : Side)
    (t : Nat) : Shows { plainIndication n c p d with side := some sd, tier := some t } c p d (some sd) (some t) none :=
  ⟨rfl, rfl, rfl, rfl, rfl, rfl, nofun⟩

theorem indicationOf_name (own : Nat) (n : IndicationName) : (indicationOf own n).name = n := by
  cases n <;> rfl

theorem patternIf_decide (P : Prop) [Decidable P] (p : Pattern) :
    patternIf (decide P) p = if P then p else .off := by
  by_cases h : P <;> simp [patternIf, h]

section
variable (substitute : Bool) (i : Indication)

/-- Channels 1 to 3 follow the signal driven (R149). -/
theorem channelPattern_signal :
    channelPattern substitute i 1 =
      (if (drivenSignal substitute i).1 = some .red then (drivenSignal substitute i).2 else .off) ∧
    channelPattern substitute i 2 =
      (if (drivenSignal substitute i).1 = some .amber then (drivenSignal substitute i).2 else .off) ∧
    channelPattern substitute i 3 =
      if (drivenSignal substitute i).1 = some .green then (drivenSignal substitute i).2 else .off :=
  ⟨patternIf_decide _ _, patternIf_decide _ _, patternIf_decide _ _⟩

/-- Without the RED substitute each signal lamp follows its colour (R149). -/
theorem channelPattern_ownSignal (h : substitute = false ∨ i.colour ≠ some .red) :
    channelPattern substitute i 1 = (if i.colour = some .red then i.pattern else .off) ∧
    channelPattern substitute i 2 = (if i.colour = some .amber then i.pattern else .off) ∧
    channelPattern substitute i 3 = if i.colour = some .green then i.pattern else .off := by
  have signal : drivenSignal substitute i = (i.colour, i.pattern) := if_neg (by simpa [imp_iff_not_or] using h)
  simpa only [signal] using channelPattern_signal substitute i

/-- The RED substitute drives a RED signal as AMBER FAST (R157). -/
theorem channelPattern_substituted (hs : substitute = true) (h : i.colour = some .red) :
    channelPattern substitute i 1 = .off ∧ channelPattern substitute i 2 = .fast ∧
      channelPattern substitute i 3 = .off := by
  have signal : drivenSignal substitute i = (some .amber, .fast) := if_pos ⟨hs, h⟩
  simpa [signal] using channelPattern_signal substitute i

theorem channelPattern_lane {k : Nat} (h1 : 1 ≤ k) (h4 : k ≤ 4) :
    channelPattern substitute i (k + 3) = if i.lane = some k then i.lanePattern else .off := by
  interval_cases k <;> exact patternIf_decide _ _

theorem channelPattern_tier {k : Nat} (h1 : 1 ≤ k) (h3 : k ≤ 3) :
    channelPattern substitute i (k + 9) = if i.tier = some k then .steady else .off := by
  interval_cases k <;> exact patternIf_decide _ _

end

theorem State.minimumDwell_eq (s : State) :
    s.minimumDwell = if s.dcu.bayState = some .unconfigured then 2 else s.scu.config.minimumDwell := by
  simp only [State.minimumDwell, State.inState, decide_eq_true_eq]

theorem State.showTime_eq (s : State) :
    s.showTime = if s.dcu.bayState = some .unconfigured then 15 else s.scu.config.showTime := by
  simp only [State.showTime, State.inState, decide_eq_true_eq]

/-! ## Reports on a request (R152, R153) -/

@[simp] theorem State.reportRequest_gdu (s : State) (r : IndicationRequest) (f : Nat → Indication → Instr) :
    (s.reportRequest r f).gdu = s.gdu := by
  unfold State.reportRequest
  split <;> rfl

/-- The report follows for a request that names a pallet, and for no other. -/
theorem State.reportRequest_handsOn {s u : State} (h : u.handed = s.handed) (r : IndicationRequest)
    (f : Nat → Indication → Instr) :
    (r.pallet = none → HandsOn s (u.reportRequest r f) []) ∧
      ∀ p, r.pallet = some p → HandsOn s (u.reportRequest r f) [f p r.indication] := by
  refine ⟨fun hr => ?_, fun p hr => ?_⟩
  · rw [HandsOn, State.reportRequest, hr, List.append_nil]
    exact h
  · rw [HandsOn, State.reportRequest, hr, ← h]
    rfl

section
variable {s : State} {r : IndicationRequest}

/-! ## Requests (R152) -/

/-- With the dwell over and the buffer empty a request takes the buffer and the dwell ends at once. -/
theorem exec_indicationRequest_buffers (hl : s.resetLine = false) (hd : s.gdu.dwellRunning = false)
    (hb : s.gdu.buffer = none) : exec (.indicationRequest r) s = .next
      { s.drop (.indicationRequest r) with
        handed := .dwellExpiry :: (s.drop (.indicationRequest r)).handed
        gdu := { s.gdu with buffer := some r, dwell := some s.dcu.beat } } := by
  rw [exec, execIndicationRequest, taken_running hl]
  exact congrArg _ (if_pos (by simp [hd, hb]))

theorem exec_indicationRequest_joins (hl : s.resetLine = false)
    (h : s.gdu.dwellRunning = true ∨ s.gdu.buffer ≠ none) :
    exec (.indicationRequest r) s = .next ((s.drop (.indicationRequest r)).joinFifo r) := by
  rw [exec, execIndicationRequest, taken_running hl]
  refine congrArg _ (if_neg ?_)
  simpa [imp_iff_not_or, Option.isSome_iff_ne_none] using h

theorem State.joinFifo_room (h : s.gdu.fifo.length < 4) :
    s.joinFifo r = { s with gdu := { s.gdu with fifo := s.gdu.fifo ++ [r] } } := if_pos h

theorem State.joinFifo_full {old : IndicationRequest} {rest : List IndicationRequest} (hf : s.gdu.fifo = old :: rest)
    (h : 4 ≤ s.gdu.fifo.length) : s.joinFifo r =
      ({ s with gdu := { s.gdu with fifo := rest ++ [r] } }).reportRequest old .droppedReport := by
  refine (if_neg (Nat.not_lt.mpr h)).trans ?_
  rw [hf]

/-! ## The dwell (R153) -/

theorem exec_dwellExpiry_early (hl : s.resetLine = false) (h : ∀ b, s.gdu.dwell = some b → s.dcu.beat < b) :
    exec .dwellExpiry s = .next (s.drop .dwellExpiry) := by
  rw [exec, execDwellExpiry, taken_running hl]
  exact congrArg _ (if_neg (Bool.eq_false_iff.mp (due_of_ahead h)))

/-- The GDU with the request that waits longest taken: the buffered one, else the head of the FIFO. -/
def withNextTaken (g : Gdu) : Gdu :=
  { g with buffer := none, fifo := if g.buffer = none then g.fifo.tail else g.fifo }

/-- The dwell over, the request that waits longest becomes current. -/
theorem exec_dwellExpiry_commits {b : Nat} (hl : s.resetLine = false) (hd : s.gdu.dwell = some b)
    (hb : b ≤ s.dcu.beat) (h : s.gdu.buffer = some r ∨ s.gdu.buffer = none ∧ s.gdu.fifo.head? = some r) :
    exec .dwellExpiry s =
      .next (State.commitRequest { s.drop .dwellExpiry with gdu := withNextTaken s.gdu } r) := by
  rw [exec, execDwellExpiry, taken_running hl]
  refine congrArg _ ((if_pos (due_of_some hd hb)).trans ?_)
  simp only [State.drop_gdu]
  obtain hr | ⟨hn, hh⟩ := h
  · rw [withNextTaken, hr]
    rfl
  · obtain ⟨rest, hf⟩ := List.head?_eq_some_iff.mp hh
    rw [withNextTaken, hn, hf]
    rfl

/-- With nothing waiting the mark is elapsed. -/
theorem exec_dwellExpiry_elapses {b : Nat} (hl : s.resetLine = false) (hd : s.gdu.dwell = some b)
    (hb : b ≤ s.dcu.beat) (hn : s.gdu.buffer = none) (hf : s.gdu.fifo = []) : exec .dwellExpiry s = .next
      { s.drop .dwellExpiry with gdu := { s.gdu with dwellRunning := false, dwell := none } } := by
  rw [exec, execDwellExpiry, taken_running hl]
  refine congrArg _ ((if_pos (due_of_some hd hb)).trans ?_)
  simp only [State.drop_gdu, hn, hf]

/-- What a request that becomes current sets in the GDU. -/
theorem State.commitRequest_gdu (s : State) (r : IndicationRequest) :
    ∃ v, (s.commitRequest r).gdu = { s.gdu with
      current := r.indication, request := some r, commitBeat := s.now, dwellRunning := true
      dwell := some (s.now + s.minimumDwell), showBy := some (s.now + s.showTime), channels := v } := by
  obtain ⟨v, hv⟩ := s.commit_eq r.indication (some r)
  refine ⟨v, ?_⟩
  rw [State.commitRequest, State.reportRequest_gdu]
  dsimp only
  rw [hv]

theorem channelAt_commitRequest (s : State) (r : IndicationRequest) (k : Nat) :
    channelAt (s.commitRequest r).gdu k = channelAt (s.commit r.indication (some r)).gdu k := by
  rw [State.commitRequest, State.reportRequest_gdu]
  rfl

/-- The GDU reports a pallet whose request has become current (R153). -/
theorem State.commitRequest_handsOn {s u : State} (h : u.handed = s.handed) (r : IndicationRequest) :
    (r.pallet = none → HandsOn s (u.commitRequest r) []) ∧
      ∀ p, r.pallet = some p → HandsOn s (u.commitRequest r) [.shownReport p r.indication] := by
  obtain ⟨v, hv⟩ := u.commit_eq r.indication (some r)
  refine State.reportRequest_handsOn ?_ r .shownReport
  dsimp only
  rw [hv, ← h]

/-! ## The show and the idle indication (R151, R154) -/

theorem exec_showExpiry_early (hl : s.resetLine = false) (h : ∀ b, s.gdu.showBy = some b → s.dcu.beat < b) :
    exec .showExpiry s = .next (s.drop .showExpiry) := by
  rw [exec, execShowExpiry, taken_running hl]
  exact congrArg _ (if_neg (Bool.eq_false_iff.mp (due_of_ahead h)))

theorem requestWaits_eq_false (g : Gdu) : requestWaits g = false ↔ g.buffer = none ∧ g.fifo = [] := by
  simp [requestWaits]

/-- The show over, a named indication with none waiting gives way to the idle one. -/
theorem exec_showExpiry_idles {b : Nat} (hl : s.resetLine = false) (hd : s.gdu.showBy = some b)
    (hb : b ≤ s.dcu.beat) (hn : s.gdu.buffer = none) (hf : s.gdu.fifo = []) (hr : s.gdu.request ≠ none) :
    exec .showExpiry s =
      .next (State.commitIdle { s.drop .showExpiry with gdu := { s.gdu with showBy := none } }) := by
  rw [exec, execShowExpiry, taken_running hl]
  refine congrArg _ ((if_pos (due_of_some hd hb)).trans (if_pos ?_))
  simp [(requestWaits_eq_false s.gdu).mpr ⟨hn, hf⟩, Option.isSome_iff_ne_none, hr]

/-- Otherwise the show deadline is spent (notes/assumptions/3.md). -/
theorem exec_showExpiry_spent {b : Nat} (hl : s.resetLine = false) (hd : s.gdu.showBy = some b)
    (hb : b ≤ s.dcu.beat) (h : s.gdu.buffer ≠ none ∨ s.gdu.fifo ≠ [] ∨ s.gdu.request = none) :
    exec .showExpiry s = .next { s.drop .showExpiry with gdu := { s.gdu with showBy := none } } := by
  rw [exec, execShowExpiry, taken_running hl]
  refine congrArg _ ((if_pos (due_of_some hd hb)).trans (if_neg ?_))
  rw [Bool.and_eq_true, Bool.not_eq_true', State.drop_gdu, requestWaits_eq_false, Option.isSome_iff_ne_none]
  rintro ⟨⟨hn, hf⟩, hr⟩
  exact h.elim (· hn) (·.elim (· hf) hr)

theorem exec_bayStateChange_idles (hl : s.resetLine = false) (hr : s.gdu.request = none) :
    exec .bayStateChange s = .next (s.drop .bayStateChange).commitIdle := by
  rw [exec, execBayStateChange, taken_running hl]
  exact congrArg _ (if_pos (Option.isNone_iff_eq_none.mpr hr))

theorem exec_bayStateChange_named (hl : s.resetLine = false) (hr : s.gdu.request ≠ none) :
    exec .bayStateChange s = .next (s.drop .bayStateChange) := by
  rw [exec, execBayStateChange, taken_running hl]
  exact congrArg _ (if_neg (mt Option.isNone_iff_eq_none.mp hr))

/-- What the idle indication, once current, sets in the bay. -/
theorem State.commitIdle_eq (s : State) : ∃ v, s.commitIdle = { s with gdu := { s.gdu with
    current := indicationOf s.own (idleIndication s.dcu.bayState s.dcu.suspended), request := none
    commitBeat := s.now, channels := v } } :=
  s.commit_eq _ _

/-- The idle indication, once current, gives each channel its pattern. -/
theorem State.commitIdle_pattern (s : State) {k : Nat} (h1 : 1 ≤ k) (h12 : k ≤ 12) :
    (channelAt s.commitIdle.gdu k).pattern = channelPattern (redFaulted s.gdu) s.commitIdle.gdu.current k := by
  rw [State.commitIdle, channelAt_commit _ _ _ h1 h12, retarget_pattern, State.commit_current]

end

/-- Settles O59: the tables, then each command of the head by what waits and what is current. -/
theorem indicationsTakeTheirTurn : Obligations.IndicationsTakeTheirTurn := by
  refine ⟨fun s hl => ⟨exec_dwellExpiry_early hl, exec_showExpiry_early hl⟩, fun g k => channelAt_get g, redFaulted_eq,
    fun own b k r t sd => ?_, fun suspended => ?_, fun substitute i => ?_, fun s => ?_,
    fun r s => exec_indicationRequest_buffers, fun r s hl h => ⟨fun hf => ?_, fun old rest hf hlen => ?_⟩,
    fun b r s hl hd hb h => ?_, fun b s => exec_dwellExpiry_elapses, fun b s hl hd hb hn hf hr => ?_,
    fun b s => exec_showExpiry_spent, fun s hl hr => ?_, fun s => exec_bayStateChange_named⟩
  case refine_1 =>
    have plain := plainIndication_shows
    have lane := laneIndication_shows
    have place := placeIndication_shows
    exact ⟨plain .., plain .., lane .., plain .., plain .., plain .., place .., place .., plain .., lane .., plain ..,
      plain .., plain .., indicationOf_name own⟩
  case refine_2 => exact ⟨rfl, by simp [idleIndication], by simp [idleIndication], by simp [idleIndication], rfl⟩
  case refine_3 =>
    exact ⟨channelPattern_ownSignal substitute i, channelPattern_substituted substitute i,
      fun k => channelPattern_lane substitute i, patternIf_decide _ _, patternIf_decide _ _,
      fun k => channelPattern_tier substitute i⟩
  case refine_4 =>
    rw [State.minimumDwell_eq, State.showTime_eq]
    exact ⟨fun h => ⟨if_pos h, if_pos h⟩, fun h => ⟨if_neg h, if_neg h⟩⟩
  case refine_5 =>
    rw [exec_indicationRequest_joins hl h, State.joinFifo_room (s := s.drop (.indicationRequest r)) hf]
    rfl
  case refine_6 =>
    have full := State.joinFifo_full (s := s.drop (.indicationRequest r)) (r := r) hf hlen
    refine ⟨_, exec_indicationRequest_joins hl h, ?_, ?_⟩ <;> rw [full]
    · exact State.reportRequest_gdu _ _ _
    · exact State.reportRequest_handsOn rfl _ _
  case refine_7 =>
    refine ⟨_, exec_dwellExpiry_commits hl hd hb h, ?_⟩
    obtain ⟨v, gdu⟩ := State.commitRequest_gdu { s.drop .dwellExpiry with gdu := withNextTaken s.gdu } r
    refine ⟨by rw [gdu], by rw [gdu], by rw [gdu]; rfl, by rw [gdu], by rw [gdu]; rfl, by rw [gdu]; rfl,
      by rw [gdu]; rfl, by rw [gdu]; rfl, fun k h1 h12 => ?_, State.commitRequest_handsOn (by rfl) r⟩
    rw [channelAt_commitRequest, channelAt_commit _ _ _ h1 h12]
    exact ⟨retarget_pattern .., retarget_on .., faulted_retarget ..⟩
  case refine_8 =>
    obtain ⟨v, idle⟩ := State.commitIdle_eq { s.drop .showExpiry with gdu := { s.gdu with showBy := none } }
    refine ⟨_, exec_showExpiry_idles hl hd hb hn hf hr, by rw [idle], by rw [idle], by rw [idle]; rfl, by rw [idle],
      by rw [idle], ?_, fun k => State.commitIdle_pattern _⟩
    rw [HandsOn, idle, List.append_nil]
  case refine_9 =>
    obtain ⟨v, idle⟩ := State.commitIdle_eq (s.drop .bayStateChange)
    refine ⟨_, exec_bayStateChange_idles hl hr, by rw [idle], by rw [idle]; rfl, by rw [idle]; rfl, ?_,
      fun k => State.commitIdle_pattern _⟩
    rw [HandsOn, idle, List.append_nil]

end Sys2Proof.Machine
end

section
/-! PROOFS. Lamp faults and CLEAR LAMP (R156 to R158), the halves of a pattern (R150) and the course of a ramp (R155):
O60. -/

namespace Sys2Proof.Machine

/-! ## What is sensed, and by which group (R155, R156) -/

theorem faulted_iff (c : Channel) : faulted c = true ↔ c.openFault = true ∨ c.shortFault = true := by
  simp [faulted]

theorem faulted_eq_false (c : Channel) : faulted c = false ↔ c.openFault = false ∧ c.shortFault = false := by
  simp [faulted]

theorem sensed_iff (c : Channel) : sensed c = true ↔
    c.on = true ∧ c.level ≠ 0 ∧ c.shortFault = false ∧ c.drive = c.level * 600 := by
  simp only [sensed, Bool.and_eq_true, decide_eq_true_eq, Bool.not_eq_true', and_assoc]
  rfl

section
variable {s : State} {k : Nat}

/-- In UNCONFIGURED every channel is in group 1, at level 255 without a ramp (R174). -/
theorem State.channelIntensity_unconfigured (h1 : 1 ≤ k) (h12 : k ≤ 12)
    (h : s.dcu.bayState = some .unconfigured) : s.channelIntensity k = fullGroup := by
  have hs := (s.inState_iff .unconfigured).mpr h
  have group : (State.channelGroups s)[k - 1]? = some 1 := by
    rw [State.channelGroups, if_pos hs, Vector.getElem?_replicate, if_pos (by omega)]
  rw [State.channelIntensity, group, State.intensityGroups, if_pos hs]
  simp

theorem State.channelIntensity_configured {g : Nat} {x : IntensityGroup} (h : s.dcu.bayState ≠ some .unconfigured)
    (hg : s.scu.config.channelGroup[k - 1]? = some g) (hx : s.scu.config.groups[g - 1]? = some x) :
    s.channelIntensity k = x := by
  have hs := mt (s.inState_iff .unconfigured).mp h
  rw [State.channelIntensity, State.channelGroups, if_neg hs, hg, Option.getD_some, State.intensityGroups, if_neg hs,
    hx, Option.getD_some]

/-! ## The RED substitute (R157) -/

/-- The substitute's beginning or end changes channels alone. -/
theorem State.redriveRed_eq (s : State) : ∃ v, s.redriveRed = s.setChannels v := by
  unfold State.redriveRed
  split
  · exact ⟨_, driveChannels_eq [1, 2] s⟩
  · exact ⟨_, rfl⟩

/-- A RED indication's channels 1 and 2 are driven anew, and no other (R157). -/
theorem channelAt_redriveRed (s : State) (h1 : 1 ≤ k) : channelAt s.redriveRed.gdu k =
    if s.gdu.current.colour = some .red ∧ k ≤ 2 then s.drivenChannel k else channelAt s.gdu k := by
  unfold State.redriveRed
  by_cases hc : s.gdu.current.colour = some .red
  · have listed : k ∈ [1, 2] ↔ k ≤ 2 := by
      simp only [List.mem_cons, List.not_mem_nil, or_false]
      omega
    rw [if_pos hc]
    refine (channelAt_driveChannels h1 [1, 2] (by decide) (by decide) s).trans ?_
    simp only [listed, hc, true_and]
  · rw [if_neg hc, if_neg fun h => hc h.1]

/-- A state after the first fault of a channel is set, or its last one cleared: for channel 1 the substitute begins or
ends. -/
def State.substituted (s : State) (k : Nat) : State := if k = 1 then s.redriveRed else s

theorem State.substituted_eq (s : State) (k : Nat) : ∃ v, s.substituted k = s.setChannels v := by
  unfold State.substituted
  split
  · exact s.redriveRed_eq
  · exact ⟨_, rfl⟩

@[simp] theorem State.substituted_handed (s : State) (k : Nat) : (s.substituted k).handed = s.handed := by
  obtain ⟨v, hv⟩ := s.substituted_eq k
  rw [hv, State.setChannels_handed]

@[simp] theorem State.substituted_current (s : State) (k : Nat) :
    (s.substituted k).gdu.current = s.gdu.current := by
  obtain ⟨v, hv⟩ := s.substituted_eq k
  rw [hv, State.setChannels_gdu]

/-- Faults stand over the substitute's beginning or end. -/
theorem hasFault_substituted (s : State) (k : Nat) {j : Nat} (h1 : 1 ≤ j) (f : FaultKind) :
    hasFault (channelAt (s.substituted k).gdu j) f = hasFault (channelAt s.gdu j) f := by
  unfold State.substituted
  split
  · rw [channelAt_redriveRed s h1]
    split
    · cases f
      · exact retarget_openFault ..
      · exact retarget_shortFault ..
    · rfl
  · rfl

theorem faulted_eq_hasFault (c : Channel) : faulted c = (hasFault c .openFault || hasFault c .shortFault) := rfl

theorem faulted_substituted (s : State) (k : Nat) {j : Nat} (h1 : 1 ≤ j) :
    faulted (channelAt (s.substituted k).gdu j) = faulted (channelAt s.gdu j) := by
  simp only [faulted_eq_hasFault, hasFault_substituted s k h1]

theorem channelAt_substituted (s : State) (k : Nat) {j : Nat} (h3 : 3 ≤ j) :
    channelAt (s.substituted k).gdu j = channelAt s.gdu j := by
  unfold State.substituted
  split
  · rw [channelAt_redriveRed s (by omega), if_neg fun h => by omega]
  · rfl

/-! ## Sensing (R156) -/

/-- Only a lane lamp's channel is reported to the MLU. -/
theorem State.reportLamp_eq (s : State) (k : Nat) (f : Nat → Instr) :
    s.reportLamp k f = s.handAll (if 4 ≤ k ∧ k ≤ 7 then [f (k - 3)] else []) := by
  by_cases h : 4 ≤ k ∧ k ≤ 7 <;> simp [State.reportLamp, laneOfChannel, h, State.hand, State.handAll]

theorem exec_lampSensing_sensed {f : LampFinding} (hl : s.resetLine = false) (h1 : 1 ≤ k) (h12 : k ≤ 12)
    (hs : sensed (channelAt s.gdu k) = true) : exec (.lampSensing k f) s = .next (s.senseChannel k f) := by
  rw [exec, execLampSensing, event_running hl]
  exact congrArg _ (if_pos ⟨h1, h12, hs⟩)

theorem exec_lampSensing_ignored {f : LampFinding} (hl : s.resetLine = false)
    (h : ¬(1 ≤ k ∧ k ≤ 12 ∧ sensed (channelAt s.gdu k) = true)) : exec (.lampSensing k f) s = .next s := by
  rw [exec, execLampSensing, event_running hl]
  exact congrArg _ (if_neg h)

theorem State.senseChannel_same {f : LampFinding} (h : flagged (channelAt s.gdu k) f = channelAt s.gdu k) :
    s.senseChannel k f = s := if_pos h

/-- A further flag of a channel raises the notice alone. -/
theorem State.senseChannel_further {f : LampFinding} (h : flagged (channelAt s.gdu k) f ≠ channelAt s.gdu k)
    (hf : faulted (channelAt s.gdu k) = true) :
    s.senseChannel k f = (s.setChannel k (flagged (channelAt s.gdu k) f)).hand (.noticeRaise .lampFault) :=
  (if_neg h).trans (if_pos hf)

/-- The first flag of a channel: the notice, the report on a lane lamp, and for channel 1 the RED substitute. -/
theorem State.senseChannel_first {f : LampFinding} (hn : f ≠ .normal) (hf : faulted (channelAt s.gdu k) = false) :
    s.senseChannel k f = ((s.setChannel k (flagged (channelAt s.gdu k) f)).handAll
      (.noticeRaise .lampFault :: if 4 ≤ k ∧ k ≤ 7 then [.lampFaultReport (k - 3)] else [])).substituted k := by
  obtain ⟨ho, hs⟩ := (faulted_eq_false _).mp hf
  have changed : flagged (channelAt s.gdu k) f ≠ channelAt s.gdu k := fun h => by
    cases f with
    | normal => exact hn rfl
    | tooLow => exact Bool.true_eq_false_eq_False ((congrArg Channel.openFault h).trans ho)
    | tooHigh => exact Bool.true_eq_false_eq_False ((congrArg Channel.shortFault h).trans hs)
  refine (if_neg changed).trans ((if_neg (Bool.eq_false_iff.mp hf)).trans ?_)
  rw [State.reportLamp_eq, State.substituted]
  simp only [State.raiseNotice, State.hand, State.handAll, List.append_assoc, List.singleton_append]

/-- OPEN found on a sensed channel with a fault is found again: SHORT would hold it. -/
theorem flagged_tooLow_same {c : Channel} (hs : sensed c = true) (hf : faulted c = true) : flagged c .tooLow = c := by
  obtain ⟨-, -, hshort, -⟩ := (sensed_iff c).mp hs
  have hopen : c.openFault = true := ((faulted_iff c).mp hf).resolve_right (Bool.eq_false_iff.mp hshort)
  rw [flagged, ← hopen]

theorem flagged_tooHigh_ne {c : Channel} (hs : sensed c = true) : flagged c .tooHigh ≠ c := by
  obtain ⟨-, -, hshort, -⟩ := (sensed_iff c).mp hs
  exact fun h => nomatch (congrArg Channel.shortFault h).trans hshort

/-- A sensed channel with a flag set: OPEN is set already, SHORT is set now (R156). -/
theorem exec_lampSensing_further (hl : s.resetLine = false) (h1 : 1 ≤ k) (h12 : k ≤ 12)
    (hs : sensed (channelAt s.gdu k) = true) (hf : faulted (channelAt s.gdu k) = true) :
    exec (.lampSensing k .tooLow) s = .next s ∧ exec (.lampSensing k .tooHigh) s =
      .next ((s.setChannel k { channelAt s.gdu k with shortFault := true, drive := 0 }).hand
        (.noticeRaise .lampFault)) := by
  rw [exec_lampSensing_sensed hl h1 h12 hs, exec_lampSensing_sensed hl h1 h12 hs,
    State.senseChannel_same (flagged_tooLow_same hs hf), State.senseChannel_further (flagged_tooHigh_ne hs) hf]
  exact ⟨rfl, rfl⟩

/-- The first flag of a channel other than channel 1 (R156). -/
theorem exec_lampSensing_first {f : LampFinding} (hl : s.resetLine = false) (h2 : 2 ≤ k) (h12 : k ≤ 12)
    (hs : sensed (channelAt s.gdu k) = true) (hn : f ≠ .normal) (hf : faulted (channelAt s.gdu k) = false) :
    exec (.lampSensing k f) s = .next ((s.setChannel k (flagged (channelAt s.gdu k) f)).handAll
      (.noticeRaise .lampFault :: if 4 ≤ k ∧ k ≤ 7 then [.lampFaultReport (k - 3)] else [])) := by
  rw [exec_lampSensing_sensed hl (by omega) h12 hs, State.senseChannel_first hn hf, State.substituted,
    if_neg (by omega)]

theorem exec_lampSensing_normal (hl : s.resetLine = false) : exec (.lampSensing k .normal) s = .next s := by
  rw [exec, execLampSensing, event_running hl, State.senseChannel_same rfl, ite_self]

/-- With a flag on channel 1 a RED indication turns channel 1 off and drives channel 2 FAST (R157). -/
theorem substituted_red (hr : redFaulted s.gdu = true) (hc : s.gdu.current.colour = some .red) :
    (channelAt (s.substituted 1).gdu 1).on = false ∧ (channelAt (s.substituted 1).gdu 2).pattern = .fast ∧
      (channelAt (s.substituted 1).gdu 2).on = true := by
  obtain ⟨off, fast, -⟩ := channelPattern_substituted (redFaulted s.gdu) s.gdu.current hr hc
  rw [State.substituted, if_pos rfl, channelAt_redriveRed s (by omega), channelAt_redriveRed s (by omega),
    if_pos ⟨hc, by omega⟩, if_pos ⟨hc, by omega⟩, State.drivenChannel, State.drivenChannel, off, fast, retarget_on,
    retarget_on, retarget_pattern]
  decide

/-- With no flag left on channel 1 a RED indication drives channel 1 by its pattern, and channel 2 not (R157). -/
theorem substituted_red_ends (hr : redFaulted s.gdu = false) (hc : s.gdu.current.colour = some .red) :
    (channelAt (s.substituted 1).gdu 1).pattern = s.gdu.current.pattern ∧
      (channelAt (s.substituted 1).gdu 2).on = false := by
  obtain ⟨red, amber, -⟩ := channelPattern_ownSignal (redFaulted s.gdu) s.gdu.current (.inl hr)
  rw [if_pos hc] at red
  rw [if_neg (by rw [hc]; decide)] at amber
  rw [State.substituted, if_pos rfl, channelAt_redriveRed s (by omega), channelAt_redriveRed s (by omega),
    if_pos ⟨hc, by omega⟩, if_pos ⟨hc, by omega⟩, State.drivenChannel, State.drivenChannel, red, amber,
    retarget_pattern, retarget_on]
  exact ⟨rfl, by decide⟩

/-- A drive that SHORT holds at 0 stays there over the substitute's beginning or end. -/
theorem substituted_held (h1 : 1 ≤ k) (hs : (channelAt s.gdu k).shortFault = true)
    (hd : (channelAt s.gdu k).drive = 0) (n : Nat) : (channelAt (s.substituted n).gdu k).drive = 0 := by
  unfold State.substituted
  split
  · rw [channelAt_redriveRed s h1]
    split
    · exact retarget_drive_short _ _ _ _ hs hd
    · exact hd
  · exact hd

/-- The first flag of channel 1: during a RED indication the substitute takes over (R156, R157). -/
theorem exec_lampSensing_red {f : LampFinding} (hl : s.resetLine = false) (hs : sensed (channelAt s.gdu 1) = true)
    (hn : f ≠ .normal) (hf : faulted (channelAt s.gdu 1) = false) :
    ∃ t, exec (.lampSensing 1 f) s = .next t ∧ redFaulted t.gdu = true ∧
      (channelAt t.gdu 1).openFault = decide (f = .tooLow) ∧
      (channelAt t.gdu 1).shortFault = decide (f = .tooHigh) ∧
      (f = .tooHigh → (channelAt t.gdu 1).drive = 0) ∧
      HandsOn s t [.noticeRaise .lampFault] ∧ t.gdu.current = s.gdu.current ∧
      (∀ k, 3 ≤ k → k ≤ 12 → channelAt t.gdu k = channelAt s.gdu k) ∧
      (s.gdu.current.colour ≠ some .red → channelAt t.gdu 2 = channelAt s.gdu 2) ∧
      (s.gdu.current.colour = some .red → (channelAt t.gdu 1).on = false ∧
        (channelAt t.gdu 2).pattern = .fast ∧ (channelAt t.gdu 2).on = true) := by
  obtain ⟨ho, hshort⟩ := (faulted_eq_false _).mp hf
  have he := (exec_lampSensing_sensed hl (Nat.le_refl 1) (by omega) hs).trans
    (congrArg Host.Outcome.next (State.senseChannel_first hn hf))
  generalize hu : (s.setChannel 1 (flagged (channelAt s.gdu 1) f)).handAll _ = u at he
  have first : channelAt u.gdu 1 = flagged (channelAt s.gdu 1) f := by
    rw [← hu]
    exact channelAt_setChannel s 1 1 _ (by omega) (by omega) (by omega)
  have others : ∀ k, 2 ≤ k → channelAt u.gdu k = channelAt s.gdu k := fun k hk => by
    rw [← hu]
    exact (channelAt_setChannel s 1 k _ (by omega) (by omega) (by omega)).trans (if_neg (by omega))
  have flags : hasFault (channelAt u.gdu 1) .openFault = decide (f = .tooLow) ∧
      hasFault (channelAt u.gdu 1) .shortFault = decide (f = .tooHigh) := by
    rw [first]
    cases f <;> simp [flagged, hasFault, ho, hshort] at hn ⊢
  have red : redFaulted u.gdu = true := by
    rw [redFaulted_eq, faulted_eq_hasFault, flags.1, flags.2]
    cases f <;> simp at hn ⊢
  have handed : u.handed = s.handed ++ [.noticeRaise .lampFault] := by
    rw [← hu]
    rfl
  have current : u.gdu.current = s.gdu.current := by
    rw [← hu]
    rfl
  refine ⟨_, he, ?_, (hasFault_substituted u 1 (Nat.le_refl 1) .openFault).trans flags.1,
    (hasFault_substituted u 1 (Nat.le_refl 1) .shortFault).trans flags.2, fun h => ?_,
    (u.substituted_handed 1).trans handed, (u.substituted_current 1).trans current, fun k h3 _ => ?_, fun hc => ?_,
    fun hc => substituted_red red (by rwa [current])⟩
  · rw [redFaulted_eq, faulted_substituted u 1 (Nat.le_refl 1), ← redFaulted_eq, red]
  · subst h
    exact substituted_held (Nat.le_refl 1) (by rw [first]; rfl) (by rw [first]; rfl) 1
  · rw [channelAt_substituted u 1 h3, others k (by omega)]
  · rw [State.substituted, if_pos rfl, channelAt_redriveRed u (by omega), current, if_neg fun h => hc h.1,
      others 2 (by omega)]

/-! ## CLEAR LAMP (R158) -/

theorem hasFault_withoutFault (c : Channel) (f : FaultKind) : hasFault (withoutFault c f) f = false := by
  cases f
  · rfl
  · exact settled_shortFault _

theorem hasFault_withoutFault_other (c : Channel) {f g : FaultKind} (h : g ≠ f) :
    hasFault (withoutFault c f) g = hasFault c g := by
  cases f <;> cases g
  · exact absurd rfl h
  · rfl
  · exact settled_openFault _
  · exact absurd rfl h

/-- A flag cleared: with another left on the channel nothing follows, else the report on a lane lamp, and for channel 1
the end of the substitute. -/
theorem State.clearFault_eq (s : State) (k : Nat) (f : FaultKind) : s.clearFault k f =
    if faulted (withoutFault (channelAt s.gdu k) f) then s.setChannel k (withoutFault (channelAt s.gdu k) f)
    else ((s.setChannel k (withoutFault (channelAt s.gdu k) f)).handAll
      (if 4 ≤ k ∧ k ≤ 7 then [.lampClearReport (k - 3)] else [])).substituted k := by
  rw [State.clearFault]
  dsimp only
  rw [State.reportLamp_eq]
  rfl

/-- The faults of the channel after one of its flags is cleared. -/
theorem hasFault_clearFault (h1 : 1 ≤ k) (h12 : k ≤ 12) (f g : FaultKind) :
    hasFault (channelAt (s.clearFault k f).gdu k) g = hasFault (withoutFault (channelAt s.gdu k) f) g := by
  have here := (channelAt_setChannel s k k (withoutFault (channelAt s.gdu k) f) h1 h12 h1).trans (if_pos rfl)
  rw [State.clearFault_eq]
  split
  · rw [here]
  · rw [hasFault_substituted _ k h1, State.handAll_gdu, here]

theorem faulted_clearFault (h1 : 1 ≤ k) (h12 : k ≤ 12) (f : FaultKind) :
    faulted (channelAt (s.clearFault k f).gdu k) = faulted (withoutFault (channelAt s.gdu k) f) := by
  simp only [faulted_eq_hasFault, hasFault_clearFault h1 h12]

theorem channelAt_clearFault_other (h1 : 1 ≤ k) (h12 : k ≤ 12) (f : FaultKind) {j : Nat} (h3 : 3 ≤ j) (hj : j ≠ k) :
    channelAt (s.clearFault k f).gdu j = channelAt s.gdu j := by
  have there := (channelAt_setChannel s k j (withoutFault (channelAt s.gdu k) f) h1 h12 (by omega)).trans
    (if_neg (Ne.symm hj))
  rw [State.clearFault_eq]
  split
  · exact there
  · rw [channelAt_substituted _ k h3, State.handAll_gdu, there]

/-- CLEAR LAMP reports a lane lamp that is then without fault, and nothing else. -/
theorem State.clearFault_handsOn (h1 : 1 ≤ k) (h12 : k ≤ 12) (f : FaultKind) : HandsOn s (s.clearFault k f)
    (if faulted (channelAt (s.clearFault k f).gdu k) = false ∧ 4 ≤ k ∧ k ≤ 7 then [.lampClearReport (k - 3)]
      else []) := by
  rw [HandsOn, faulted_clearFault h1 h12, State.clearFault_eq]
  by_cases hf : faulted (withoutFault (channelAt s.gdu k) f) = true <;> simp [hf]

/-- The last flag of channel 1 cleared during a RED indication ends the substitute (R157, R158). -/
theorem clearFault_red (f : FaultKind) (hf : faulted (channelAt (s.clearFault 1 f).gdu 1) = false)
    (hc : s.gdu.current.colour = some .red) :
    (channelAt (s.clearFault 1 f).gdu 1).pattern = s.gdu.current.pattern ∧
      (channelAt (s.clearFault 1 f).gdu 2).on = false := by
  have h1 : (1 : Nat) ≤ 1 := Nat.le_refl 1
  have here := (channelAt_setChannel s 1 1 (withoutFault (channelAt s.gdu 1) f) h1 (by omega) h1).trans (if_pos rfl)
  rw [faulted_clearFault h1 (by omega)] at hf
  rw [State.clearFault_eq, if_neg (Bool.eq_false_iff.mp hf)]
  refine substituted_red_ends ?_ hc
  rw [redFaulted_eq, State.handAll_gdu, here, hf]

theorem exec_clearLamp_set {f : FaultKind} (hr : s.ready = true) (h1 : 1 ≤ k) (h12 : k ≤ 12)
    (h : hasFault (channelAt s.gdu k) f = true) :
    exec (.clearLamp k (some f)) s = .next ((s.clearFault k f).answer .clearLamp .ok .nothing) := by
  rw [exec, execClearLamp, request_ready hr]
  exact congrArg _ ((if_pos ⟨h1, h12⟩).trans (if_pos h))

theorem exec_clearLamp_clear {f : FaultKind} (hr : s.ready = true) (h1 : 1 ≤ k) (h12 : k ≤ 12)
    (h : hasFault (channelAt s.gdu k) f = false) :
    exec (.clearLamp k (some f)) s = .next (s.answer .clearLamp .state .nothing) := by
  rw [exec, execClearLamp, request_ready hr]
  exact congrArg _ ((if_pos ⟨h1, h12⟩).trans (if_neg (Bool.eq_false_iff.mp h)))

theorem exec_clearLamp_range {kind : Option FaultKind} (hr : s.ready = true) (h : k = 0 ∨ 12 < k ∨ kind = none) :
    exec (.clearLamp k kind) s = .next (s.answer .clearLamp .range .nothing) := by
  rw [exec, execClearLamp, request_ready hr]
  cases kind with
  | none => rfl
  | some f =>
    refine congrArg _ (if_neg fun hk => ?_)
    obtain h | h | h := h
    · omega
    · omega
    · cases h

/-! ## The halves of a pattern (R150) -/

theorem alternates_iff (p : Pattern) : alternates p = true ↔ p = .slow ∨ p = .fast := by
  cases p <;> simp [alternates]

theorem exec_patternHalfEnd_turns (hl : s.resetLine = false) (h1 : 1 ≤ k) (h12 : k ≤ 12)
    (hp : (channelAt s.gdu k).pattern = .slow ∨ (channelAt s.gdu k).pattern = .fast) :
    exec (.patternHalfEnd k) s = .next (s.setChannel k (settled (latched (s.channelIntensity k)
      { channelAt s.gdu k with on := !(channelAt s.gdu k).on }))) := by
  rw [exec, execPatternHalfEnd, event_running hl, ← retarget_turned]
  exact congrArg _ (if_pos ⟨h1, h12, (alternates_iff _).mpr hp⟩)

theorem exec_patternHalfEnd_stands (hl : s.resetLine = false)
    (h : ¬(1 ≤ k ∧ k ≤ 12 ∧ alternates (channelAt s.gdu k).pattern = true)) :
    exec (.patternHalfEnd k) s = .next s := by
  rw [exec, execPatternHalfEnd, event_running hl]
  exact congrArg _ (if_neg h)

end

/-! ## The course of a ramp (R155) -/

section
variable {c : Channel}

/-- The ramp times divide the level's drive units, so that a rate is a whole number. -/
theorem ramp_mul_rate (h : c.ramp = 100 ∨ c.ramp = 300 ∨ c.ramp = 600) :
    c.ramp * rampRate c = c.level * driveUnits := by
  have whole : c.ramp ∣ driveUnits := by
    obtain h | h | h := h <;> rw [h] <;> decide
  exact Nat.mul_div_cancel' (whole.mul_left c.level)

/-- A millisecond of a rise that has not yet reached its level. -/
theorem rampChannel_rises (hon : c.on = true) (hs : c.shortFault = false) (hr : c.ramp ≠ 0)
    (room : c.drive + rampRate c ≤ c.level * driveUnits) :
    rampChannel c = { c with drive := c.drive + rampRate c } := by
  by_cases hv : c.level = 0
  · have still : c.drive + rampRate c = 0 := by simpa [hv] using room
    rw [rampChannel, if_pos (by simp [(rampless_iff c).mpr (.inr hv)]), settled_rampless hs (.inr hv), still, hv,
      Nat.zero_mul, ite_self]
  · have ramping := mt (rampless_iff c).mp (not_or.mpr ⟨hr, hv⟩)
    rw [rampChannel, if_neg (by simp [hs, ramping])]
    simp [hon, Nat.le_of_add_right_le room, Nat.min_eq_left room]

/-- A millisecond of a fall. -/
theorem rampChannel_falls (hoff : c.on = false) (hs : c.shortFault = false) (hr : c.ramp ≠ 0)
    (hv : c.level = 0 → c.drive = 0) :
    rampChannel c = { c with drive := c.drive - rampRate c } := by
  by_cases hz : c.level = 0
  · rw [rampChannel, if_pos (by simp [(rampless_iff c).mpr (.inr hz)]), settled_rampless hs (.inr hz), hoff, hv hz]
    simp
  · have ramping := mt (rampless_iff c).mp (not_or.mpr ⟨hr, hz⟩)
    rw [rampChannel, if_neg (by simp [hs, ramping])]
    by_cases hd : c.drive = 0 <;> simp [hoff, hd]

/-- A lit channel rises from 0 by its rate each millisecond. -/
theorem iterate_rampChannel_rises (hon : c.on = true) (hs : c.shortFault = false) (hd : c.drive = 0)
    (hr : c.ramp = 100 ∨ c.ramp = 300 ∨ c.ramp = 600) {n : Nat} (hn : n ≤ c.ramp) :
    rampChannel^[n] c = { c with drive := n * rampRate c } := by
  induction n with
  | zero => rw [Function.iterate_zero_apply, Nat.zero_mul, ← hd]
  | succ n ih =>
    have nonzero : c.ramp ≠ 0 := by omega
    have room : (n + 1) * rampRate c ≤ c.level * driveUnits := by
      rw [← ramp_mul_rate hr]
      exact Nat.mul_le_mul_right _ hn
    rw [Nat.succ_mul] at room ⊢
    rw [Function.iterate_succ_apply', ih (by omega)]
    exact rampChannel_rises (c := { c with drive := n * rampRate c }) hon hs nonzero room

/-- A channel turned off falls from its level by its rate each millisecond, down to 0. -/
theorem iterate_rampChannel_falls (hoff : c.on = false) (hs : c.shortFault = false)
    (hd : c.drive = c.level * driveUnits) (hr : c.ramp ≠ 0) (n : Nat) :
    rampChannel^[n] c = { c with drive := c.level * driveUnits - n * rampRate c } := by
  induction n with
  | zero => rw [Function.iterate_zero_apply, Nat.zero_mul, Nat.sub_zero, ← hd]
  | succ n ih =>
    rw [Function.iterate_succ_apply', ih, Nat.succ_mul, ← Nat.sub_sub]
    exact rampChannel_falls (c := { c with drive := c.level * driveUnits - n * rampRate c }) hoff hs hr fun hv => by
      simp [show c.level = 0 from hv]

/-- A channel whose level is 0 is at 0 after a millisecond. -/
theorem rampChannel_level_zero (h : c.level = 0) : (rampChannel c).drive = 0 := by
  rw [rampChannel, if_pos (by simp [(rampless_iff c).mpr (.inr h)])]
  cases hs : c.shortFault with
  | true => rw [settled_short hs]
  | false => simp [settled_rampless hs (.inr h), h]

end

/-- Settles O60: sensings by the flags of the channel, CLEAR LAMP by its flag, the end of a half by the pattern, and a
ramp by its rate. -/
theorem lampsAreSensedAndRamped : Obligations.LampsAreSensedAndRamped := by
  refine ⟨fun _ _ _ => rfl, fun k f s hl hk => ⟨?_, ?_⟩, ⟨rfl, rfl, rfl, rfl⟩,
    fun c => ⟨faulted_iff c, sensed_iff c, rfl, rfl⟩, fun k g x s h1 h12 => ⟨fun h => ?_, ?_⟩,
    fun k s hl h2 h12 hs => ⟨?_, ?_, ?_⟩, fun k f s hl h => ?_, fun f s => exec_lampSensing_red,
    fun s hl => exec_lampSensing_further hl (by omega) (by omega), fun k f s hr h1 h12 h => ?_,
    fun k kind s hr => ⟨exec_clearLamp_range hr, ?_⟩, fun k s hl h1 h12 hp => ?_, fun k s hl hp => ?_,
    fun c hon hs hd hr => ⟨fun n hn => ?_, ?_⟩, fun c hoff hs hd hr => ⟨fun n hn => ?_, ?_⟩,
    fun c => rampChannel_level_zero⟩
  case refine_1 => exact exec_lampSensing_ignored hl fun h => by omega
  case refine_2 => exact exec_patternHalfEnd_stands hl fun h => by omega
  case refine_3 => rw [State.channelIntensity_unconfigured h1 h12 h]; exact ⟨rfl, rfl⟩
  case refine_4 => exact State.channelIntensity_configured
  case refine_5 => exact exec_lampSensing_first hl h2 h12 hs nofun
  case refine_6 => exact exec_lampSensing_first hl h2 h12 hs nofun
  case refine_7 => exact exec_lampSensing_further hl (by omega) h12 hs
  case refine_8 =>
    obtain rfl | hn := h
    · exact exec_lampSensing_normal hl
    · exact exec_lampSensing_ignored hl fun h => Bool.eq_false_iff.mp hn h.2.2
  case refine_9 =>
    refine ⟨_, exec_clearLamp_set hr h1 h12 h, ?_, fun other hne => ?_, rfl,
      fun j h3 _ hj => channelAt_clearFault_other h1 h12 f h3 hj, State.clearFault_handsOn h1 h12 f, ?_⟩
    · exact (hasFault_clearFault h1 h12 f f).trans (hasFault_withoutFault _ f)
    · exact (hasFault_clearFault h1 h12 f other).trans (hasFault_withoutFault_other _ hne)
    · rintro rfl
      exact clearFault_red f
  case refine_10 =>
    rintro f rfl h1 h12 h
    exact exec_clearLamp_clear hr h1 h12 h
  case refine_11 =>
    refine ⟨_, exec_patternHalfEnd_turns hl h1 h12 hp, ?_⟩
    simp only [settled_on, settled_pattern, settled_openFault, settled_shortFault, settled_level, settled_ramp]
    exact ⟨rfl, rfl, rfl, rfl, fun h => ⟨latched_level_taken h, rfl⟩, fun ho hv => ⟨latched_level_kept ho hv, rfl⟩,
      fun h => by rw [settled_short h], fun hs h => by rw [settled_rampless hs h]; rfl,
      fun hs hr hv => by rw [settled_ramping hs hr hv]; rfl⟩
  case refine_12 =>
    refine exec_patternHalfEnd_stands hl fun ⟨_, _, ha⟩ => ?_
    obtain hp | hp := hp <;> rw [hp] at ha <;> cases ha
  case refine_13 => rw [iterate_rampChannel_rises hon hs hd hr hn]; rfl
  case refine_14 =>
    rw [iterate_rampChannel_rises hon hs hd hr (Nat.le_refl _), ramp_mul_rate hr]
    rfl
  case refine_15 =>
    have room : n * rampRate c ≤ c.level * driveUnits := by
      rw [← ramp_mul_rate hr]
      exact Nat.mul_le_mul_right _ hn
    rw [iterate_rampChannel_falls hoff hs hd (by omega) n]
    exact Nat.sub_add_cancel room
  case refine_16 =>
    rw [iterate_rampChannel_falls hoff hs hd (by omega) c.ramp, ramp_mul_rate hr, Nat.sub_self]

end Sys2Proof.Machine
end

section
/-! PROOFS. The service line (R175, R179): requests discarded, requests answered under their own names, and what a
request leaves of the SCU; and an asserted reset line, under which no event has an effect (O15, O17). -/

namespace Sys2Proof.Machine

/-! ## Requests (R175) -/

theorem State.ready_iff (s : State) :
    s.ready = true ↔ s.resetLine = false ∧ s.reading = false ∧ s.scu.answer = none := by
  simp [State.ready, and_assoc]

/-- A request is a call of `request`, and nothing else. -/
theorem exec_request {c : Instr} (hc : isRequest c = true) : ∃ f, ∀ s, exec c s = request s f := by
  cases c with
  | sensorRead | declareEmpty | readDirectoryEntry _ _ | removeRecord _ | readAskTable | readPlan | clearHold
  | readClosingRecord | clearLane _ | readLanes | clearLamp _ _ | floorReset | sealConfig | writeField _ _ _
  | readField _ _ | readState | readNotices | noticeEnable _ | noticeDisable _ | clearNotice _ | unknown =>
    exact ⟨_, fun _ => rfl⟩
  | _ => cases hc

theorem answer_of_request {c : Instr} {s : State} {f : State → State} (e : ∀ u, exec c u = request u f)
    (h : s.ready = true) : exec c s = .next (f s) := (e s).trans (request_ready h)

theorem exec_request_discarded {c : Instr} {s : State} (hc : isRequest c = true) (h : s.ready = false) :
    exec c s = .next s := by
  obtain ⟨f, e⟩ := exec_request hc
  rw [e, request_not_ready h]

/-- The requests that may set more of the SCU than the answer. -/
def setsScu : Instr → Bool
  | .sealConfig | .writeField _ _ _ | .noticeEnable _ | .noticeDisable _ | .clearNotice _ => true
  | _ => false

@[simp] theorem allBut_scu_dcu : allBut .scu .dcu = true := by decide
@[simp] theorem allBut_scu_fbi : allBut .scu .fbi = true := by decide
@[simp] theorem allBut_scu_dsu : allBut .scu .dsu = true := by decide
@[simp] theorem allBut_scu_lpu : allBut .scu .lpu = true := by decide
@[simp] theorem allBut_scu_mlu : allBut .scu .mlu = true := by decide
@[simp] theorem allBut_scu_gdu : allBut .scu .gdu = true := by decide

theorem Only.scu_eq {s t : State} (h : Only (allBut .scu) s t) : t.scu = s.scu := h .scu rfl

/-- A request carried out: the answer under its own name, upon a state whose SCU is as it was, but for the requests
that set more of it. -/
inductive AnswersTo (c : Instr) (s : State) : State → Prop where
  | intro {v : State} {r : RequestName} (code : AnswerCode) (data : AnswerData) (name : requestName c = some r)
      (kept : setsScu c = false → v.scu = s.scu) : AnswersTo c s (v.answer r code data)

theorem exec_answers {c : Instr} {s : State} (hc : isRequest c = true) (h : s.ready = true) :
    ∃ t, exec c s = .next t ∧ AnswersTo c s t := by
  cases c with
  | readAskTable | readPlan | readClosingRecord | readLanes | readState | readNotices | floorReset | unknown
  | sensorRead => 
    exact ⟨_, answer_of_request (fun _ => rfl) h, .intro _ _ rfl fun _ => rfl⟩
  | readDirectoryEntry _ _ | clearHold | readField _ _ =>
    refine ⟨_, answer_of_request (fun _ => rfl) h, ?_⟩
    repeat' split
    all_goals exact .intro _ _ rfl fun _ => rfl
  | declareEmpty | removeRecord _ | clearLane _ | clearLamp _ _ =>
    refine ⟨_, answer_of_request (fun _ => rfl) h, ?_⟩
    repeat' split
    all_goals exact .intro _ _ rfl fun _ => Only.scu_eq (by simp)
  | sealConfig =>
    refine ⟨_, answer_of_request (fun _ => rfl) h, ?_⟩
    dsimp only
    repeat' split
    all_goals exact .intro _ _ rfl nofun
  | writeField _ _ _ | noticeEnable _ | noticeDisable _ | clearNotice _ =>
    refine ⟨_, answer_of_request (fun _ => rfl) h, ?_⟩
    repeat' split
    all_goals exact .intro _ _ rfl nofun
  | _ => cases hc

theorem exec_serviceAnswerSent {s : State} (hl : s.resetLine = false) (ha : s.scu.answer.isSome = true)
    (hf : answersFloorReset s = false) :
    exec .serviceAnswerSent s = .next { s with scu := { s.scu with answer := none } } := by
  obtain ⟨a, e⟩ := Option.isSome_iff_exists.mp ha
  have hr : a.request ≠ .floorReset := by simpa [answersFloorReset, e] using hf
  rw [exec, execServiceAnswerSent, event_running hl]
  simp only [e, if_neg hr]
  rfl

/-- Settles O17: a request by whether the line is ready for it, and the sending of its answer. -/
theorem serviceLineTakesOneRequest : Obligations.ServiceLineTakesOneRequest := by
  refine ⟨State.ready_iff, fun _ _ _ _ => rfl, fun c s hc h => exec_request_discarded hc h, fun c s hc h => ?_,
    fun s h => by rw [exec, execUnknown, request_ready h], fun s h => by rw [exec, execFloorReset, request_ready h],
    fun s hl ha hf => exec_serviceAnswerSent hl ha hf⟩
  obtain ⟨_, ht, ⟨code, data, name, -⟩⟩ := exec_answers hc h
  exact ⟨_, _, ht, rfl, name⟩

/-! ## The reset line asserted (R179) -/

/-- The commands that act though the reset line is asserted: power-on reset, the end of the power-on read, and the
line's own. -/
def actsHeld : Instr → Bool
  | .powerOnReset | .configurationReadEnd _ | .resetLineAsserted | .resetLineReleased => true
  | _ => false

/-- The commands that set a level at the bay's inputs (R1, R6). -/
def setsLevel : Instr → Bool
  | .doorLineChange _ _ | .exitEvent _ | .beamInterrupted _ => true
  | _ => false

/-- A command that acts only under a released reset line answers, under an asserted one, what its gate gives. -/
theorem answer_of_held {c : Instr} {s a b : State} (e : exec c s = .next (if s.resetLine then a else b))
    (h : s.resetLine = true) : exec c s = .next a := e.trans (congrArg _ (if_pos h))

/-- Under an asserted reset line a hand-over is lost, and no other event has an effect. -/
theorem exec_held {c : Instr} {s : State} (h : s.resetLine = true) (ha : actsHeld c = false)
    (hs : setsLevel c = false) : exec c s = .next s ∨ exec c s = .next (s.drop c) := by
  by_cases hc : isRequest c = true
  · exact .inl (exec_request_discarded hc (by simp [State.ready, h]))
  cases c with
  | attemptStart | frameSent | collision | backoffEnd | fragmentReceived | frameArrival _ | frameTaking
  | lampSensing _ _ | patternHalfEnd _ | beat | doorRead _ | cardRead _ | laneRead _ | floorResetTaken
  | serviceAnswerSent | sealRequest => exact .inl (answer_of_held rfl h)
  | powerOnReset | configurationReadEnd _ | resetLineAsserted | resetLineReleased => cases ha
  | doorLineChange _ _ | exitEvent _ | beamInterrupted _ => cases hs
  | sensorRead | declareEmpty | readDirectoryEntry _ _ | removeRecord _ | readAskTable | readPlan | clearHold
  | readClosingRecord | clearLane _ | readLanes | clearLamp _ _ | floorReset | sealConfig | writeField _ _ _
  | readField _ _ | readState | readNotices | noticeEnable _ | noticeDisable _ | clearNotice _ | unknown =>
    exact absurd rfl hc
  | _ => exact .inr (answer_of_held rfl h)

/-- From one state of the DCU to another only present values of lines and beams differ. -/
structure LevelsOnly (d e : Dcu) : Prop where
  rest : { e with trailerPresent := d.trailerPresent, levellerDown := d.levellerDown, doorOpen := d.doorOpen,
                  closePush := d.closePush, beams := d.beams } = d
  lines : ∀ line, (lineOf e line).lastTaken = (lineOf d line).lastTaken ∧
    (lineOf e line).changed = (lineOf d line).changed
  beams : e.beams.map Beam.lastTaken = d.beams.map Beam.lastTaken

theorem LevelsOnly.refl (d : Dcu) : LevelsOnly d d := ⟨rfl, fun _ => ⟨rfl, rfl⟩, rfl⟩

theorem levelsOnly_withLine (d : Dcu) (line : Line) (value : Bool) :
    LevelsOnly d (withLine d { lineOf d line with current := value } line) := by
  cases line <;> refine ⟨rfl, fun l => ?_, rfl⟩ <;> cases l <;> exact ⟨rfl, rfl⟩

theorem levelsOnly_withBeam (d : Dcu) {lane : Nat} (h : isBeam lane = true) (value : Bool) :
    LevelsOnly d (withBeam d lane { beamOf d lane with current := value }) := by
  refine ⟨rfl, fun _ => ⟨rfl, rfl⟩, Vector.ext fun i hi => ?_⟩
  have hk : lane - 1 < 4 := by
    simp only [isBeam, Bool.and_eq_true, decide_eq_true_eq] at h
    omega
  by_cases hn : lane - 1 = i
  · subst hn
    simp [withBeam, beamOf, hi]
  · simp [withBeam, Vector.getElem_setIfInBounds_ne, hn]

theorem exec_held_level {c : Instr} {s : State} (h : s.resetLine = true) (hs : setsLevel c = true) :
    ∃ d, LevelsOnly s.dcu d ∧ exec c s = .next (s.setDcu d) := by
  cases c with
  | doorLineChange line value =>
    exact ⟨_, levelsOnly_withLine s.dcu line value, by simp [exec, execDoorLineChange, State.changeLine, h]⟩
  | exitEvent lane | beamInterrupted lane =>
    cases hb : isBeam lane with
    | false => exact ⟨s.dcu, .refl _, by simp [exec, execExitEvent, execBeamInterrupted, hb, State.setDcu]⟩
    | true =>
      exact ⟨_, levelsOnly_withBeam s.dcu hb _, by
        simp only [exec, execExitEvent, execBeamInterrupted, hb, h]
        rfl⟩
  | _ => cases hs

/-- Settles O15: an event by whether it sets a level; else it is lost, with the hand-over it may have been. -/
theorem resetLineHoldsBay : Obligations.ResetLineHoldsBay := by
  refine ⟨fun s => ⟨_, rfl, rfl, rfl, fun x hx => ?_, rfl, rfl, rfl, rfl, rfl, rfl, rfl⟩,
    fun c s t h hp ha hr hi he => ?_, fun c s hc h => exec_request_discarded hc (by simp [State.ready, h])⟩
  · simp only [darkChannels, Vector.toList_map, List.mem_map] at hx
    obtain ⟨_, -, rfl⟩ := hx
    rfl
  · have acts : actsHeld c = false := by
      cases c with
      | powerOnReset => exact absurd rfl hp
      | resetLineAsserted => exact absurd rfl ha
      | resetLineReleased => exact absurd rfl hr
      | configurationReadEnd image => exact absurd rfl (hi image)
      | _ => rfl
    cases hs : setsLevel c with
    | true =>
      obtain ⟨d, levels, e⟩ := exec_held_level h hs
      cases e.symm.trans he
      exact ⟨h, rfl, rfl, rfl, rfl, rfl, rfl, rfl, fun _ hx => hx, levels.rest, levels.lines, levels.beams⟩
    | false =>
      have levels := LevelsOnly.refl s.dcu
      obtain e | e := exec_held h acts hs <;> cases e.symm.trans he
      · exact ⟨h, rfl, rfl, rfl, rfl, rfl, rfl, rfl, fun _ hx => hx, levels.rest, levels.lines, levels.beams⟩
      · exact ⟨h, rfl, rfl, rfl, rfl, rfl, rfl, rfl, fun _ hx => List.mem_of_mem_erase hx, levels.rest, levels.lines,
          levels.beams⟩

end Sys2Proof.Machine
end

section
/-! PROOFS. Notices (R180, R181): flags and enables by their places, and the line judged from them (O25). -/

namespace Sys2Proof.Machine

/-! ## Flags by their places -/

theorem noticeIndex_lt (k : NoticeKind) : noticeIndex k < 19 := by cases k <;> decide

theorem noticeIndex_injective {j k : NoticeKind} (h : noticeIndex j = noticeIndex k) : j = k := by
  have kindAt (x : NoticeKind) : NoticeKind.ofNat (noticeIndex x) = x := by cases x <;> rfl
  rw [← kindAt j, h, kindAt]

theorem pendingFlag_iff (u : Scu) (k : NoticeKind) :
    pendingFlag u k = true ↔ u.pending[noticeIndex k]? = some true := by
  have hk : u.pending[noticeIndex k]? = some (u.pending[noticeIndex k]'(noticeIndex_lt k)) :=
    Vector.getElem?_eq_getElem (noticeIndex_lt k)
  simp [pendingFlag, hk]

theorem pendingFlag_set_same (u : Scu) (k : NoticeKind) (b : Bool) :
    pendingFlag { u with pending := u.pending.setIfInBounds (noticeIndex k) b } k = b := by
  simp [pendingFlag, noticeIndex_lt k]

theorem pendingFlag_set_other (u : Scu) {j k : NoticeKind} (h : j ≠ k) (b : Bool) :
    pendingFlag { u with pending := u.pending.setIfInBounds (noticeIndex k) b } j = pendingFlag u j := by
  have hn : noticeIndex k ≠ noticeIndex j := fun e => h (noticeIndex_injective e).symm
  simp [pendingFlag, Vector.getElem?_setIfInBounds_ne hn]

/-- The line goes by the 19 kinds: one has both its flag and its enable set (R180). -/
theorem lineAsserted_iff (pending enabled : Vector Bool 19) : lineAsserted pending enabled = true ↔
    ∃ i, i < 19 ∧ pending[i]? = some true ∧ enabled[i]? = some true := by
  simp only [lineAsserted, List.any_eq_true, Bool.and_eq_true, List.mem_iff_getElem?, List.getElem?_zip_eq_some,
    Vector.getElem?_toList]
  constructor
  · rintro ⟨⟨a, b⟩, ⟨i, ha, hb⟩, rfl, rfl⟩
    exact ⟨i, (Vector.getElem?_eq_some_iff.mp ha).1, ha, hb⟩
  · rintro ⟨i, -, ha, hb⟩
    exact ⟨(true, true), ⟨i, ha, hb⟩, rfl, rfl⟩

/-! ## The commands -/

section
variable {s : State} {k : NoticeKind}

theorem exec_noticeRaise (hl : s.resetLine = false) :
    exec (.noticeRaise k) s = .next ((s.drop (.noticeRaise k)).setScu (noticeRaised s.reading s.scu k)) := by
  rw [exec, execNoticeRaise, taken_running hl]
  rfl

theorem exec_clearNotice_set (h : s.ready = true) (hp : pendingFlag s.scu k = true) : exec (.clearNotice (some k)) s =
    .next ((s.setScu (withPending s.scu k false)).answer .clearNotice .ok .nothing) := by
  rw [exec, execClearNotice, request_ready h]
  exact congrArg _ (if_pos hp)

theorem exec_clearNotice_clear (h : s.ready = true) (hp : pendingFlag s.scu k = false) :
    exec (.clearNotice (some k)) s = .next (s.answer .clearNotice .state .nothing) := by
  rw [exec, execClearNotice, request_ready h]
  exact congrArg _ (if_neg (Bool.eq_false_iff.mp hp))

end

/-- Settles O25: the flags by their places, the line by its kinds, and each command by the flag it finds. -/
theorem noticesFollowTheirFlags : Obligations.NoticesFollowTheirFlags := by
  refine ⟨fun k u => pendingFlag_iff u k, lineAsserted_iff, fun j k => ⟨noticeIndex_lt k, noticeIndex_injective⟩,
    fun k s hl hr => ?_, fun k u => ⟨pendingFlag_set_same u k true, fun j hj => pendingFlag_set_other u hj true⟩,
    fun k s h => ?_, fun k s h => ?_, fun k s h hp => exec_clearNotice_set h hp,
    fun k s h hp => exec_clearNotice_clear h hp, fun s h => ⟨?_, ?_, ?_⟩⟩
  · rw [exec_noticeRaise hl, hr]
    rfl
  · rw [exec, execNoticeEnable, request_ready h]
    rfl
  · rw [exec, execNoticeDisable, request_ready h]
    rfl
  · rw [exec, execNoticeEnable, request_ready h]
  · rw [exec, execNoticeDisable, request_ready h]
  · rw [exec, execClearNotice, request_ready h]

end Sys2Proof.Machine
end

section
/-! PROOFS. The power-on read begins at power-on reset and ends with its own event alone (R8, R172), and every step
keeps the notice line as its flags and enables say (R179, R180, O9). -/

namespace Sys2Proof.Machine

/-! ## Bay states entered once the read has ended -/

section
variable {s t : State} {f : State → State}

theorem State.reading_eq (h : t.dcu.bayState = s.dcu.bayState) : t.reading = s.reading := by
  rw [State.reading, h, State.reading]

@[simp] theorem State.enterDocked_reading (s : State) : s.enterDocked.reading = false := by
  unfold State.enterDocked
  split <;> rfl

@[simp] theorem State.expireAtOnce_reading (s : State) (n : Nat) (c : Instr) :
    (s.expireAtOnce n c).reading = s.reading := State.reading_eq (by simp)

@[simp] theorem State.enterClosing_reading (s : State) : s.enterClosing.reading = false := by
  rw [State.reading, s.enterClosing_dcu]
  rfl

theorem State.reading_of_inState {st : BayState} (h : s.inState st = true) : s.reading = false :=
  State.reading_of_eq ((s.inState_iff st).mp h)

theorem State.undock_reading (s : State) : s.undock.reading = s.reading := by
  unfold State.undock
  split
  case h_7 | h_8 | h_9 | h_10 => rfl
  all_goals exact (State.reading_of_eq ‹_›).symm

theorem State.dockIfBoth_reading (s : State) : s.dockIfBoth.reading = s.reading := by
  unfold State.dockIfBoth
  split
  · rename_i h
    rw [s.enterDocked_reading, State.reading_of_inState (Bool.and_eq_true_iff.mp h).1]
  · rfl

theorem State.levellerUp_reading (s : State) : s.levellerUp.reading = s.reading := by
  unfold State.levellerUp State.suspend
  repeat' split
  · exact (State.reading_of_inState ‹_›).symm
  · exact State.expireAtOnce_reading _ _ _
  · rfl

theorem State.levellerLowered_reading (s : State) : s.levellerLowered.reading = s.reading := by
  obtain ⟨-, e⟩ | ⟨-, -, e⟩ | ⟨-, -, e⟩ := s.levellerLowered_cases <;> rw [e]
  · rfl
  · rfl
  · exact s.dockIfBoth_reading

theorem State.pressClose_reading (s : State) : s.pressClose.reading = s.reading := by
  unfold State.pressClose
  split
  · rw [State.reading_of_eq (s := s) ‹_›]
    split
    · exact State.enterClosing_reading _
    · rfl
  · rw [State.reading_of_eq (s := s) ‹_›, State.enterClosing_reading]
  · exact (State.reading_of_eq ‹_›).symm
  · rfl

theorem State.lineTaken_reading (s : State) (line : Line) (b : Bool) : (s.lineTaken line b).reading = s.reading := by
  unfold State.lineTaken
  split
  · exact s.dockIfBoth_reading
  · exact s.undock_reading
  · exact s.levellerLowered_reading
  · exact s.levellerUp_reading
  · exact s.pressClose_reading
  · rfl
  · rfl

theorem State.changeLine_reading (s : State) (line : Line) (b : Bool) : (s.changeLine line b).reading = s.reading := by
  have line_kept (x : DoorLine) : (s.setDcu (withLine s.dcu x line)).reading = s.reading := by
    cases line <;> rfl
  unfold State.changeLine
  dsimp only
  split
  · exact line_kept _
  · exact (State.lineTaken_reading _ line b).trans (line_kept _)

theorem State.acceptCard_reading (s : State) (r : CardRead) : (s.acceptCard r).reading = false := by
  unfold State.acceptCard State.farCutAtOnce
  dsimp only
  repeat' split
  all_goals first | exact State.expireAtOnce_reading _ _ _ | rfl

/-! ## Commands -/

theorem reading_event (hf : (f s).reading = s.reading) (he : event s f = .next t) : t.reading = s.reading := by
  cases he
  split
  · rfl
  · exact hf

theorem reading_taken {c : Instr} (hf : (f (s.drop c)).reading = (s.drop c).reading) (he : taken c s f = .next t) :
    t.reading = s.reading := by
  cases he
  split
  · rfl
  · exact hf

theorem reading_request (hf : (f s).reading = s.reading) (he : request s f = .next t) : t.reading = s.reading := by
  cases he
  split
  · rfl
  · exact hf

/-- A floor reset leaves the read under way, or over (R179). -/
theorem State.floorReset_keepsReading (s : State) : s.floorReset.reading = s.reading := by
  cases h : s.reading with
  | true => rw [State.floorReset_reading (s.reading_iff.mp h)]; rfl
  | false =>
    obtain ⟨hb, -⟩ := State.floorReset_bay h
    rw [State.reading, hb]
    split <;> rfl

end

/-- The power-on read begins at power-on reset and ends with its own event; no other command touches it. -/
theorem exec_reading {c : Instr} {s t : State} (hp : c ≠ .powerOnReset)
    (hi : ∀ image, c ≠ .configurationReadEnd image) (he : exec c s = .next t) : t.reading = s.reading := by
  by_cases hw : writesDcu c = false
  · exact State.reading_eq (congrArg Dcu.bayState (exec_leaves c s t he .dcu hw))
  cases c with
  | powerOnReset => exact absurd rfl hp
  | configurationReadEnd image => exact absurd rfl (hi image)
  | resetLineReleased =>
    cases he
    split
    · exact State.floorReset_keepsReading _
    · rfl
  | floorResetTaken => exact reading_event s.floorReset_keepsReading he
  | serviceAnswerSent =>
    rw [exec, execServiceAnswerSent] at he
    refine reading_event ?_ he
    repeat' split
    · rfl
    · exact s.floorReset_keepsReading
    · rfl
  | beat =>
    rw [exec, execBeat] at he
    refine reading_event ?_ he
    split <;> rfl
  | doorLineChange line b =>
    cases he
    exact s.changeLine_reading line b
  | cardRead r =>
    rw [exec, execCardRead] at he
    refine reading_event ?_ he
    repeat' split
    · rfl
    · rfl
    · rfl
    · rename_i hr _ _
      rw [s.acceptCard_reading r, Bool.eq_false_iff.mpr hr]
  | exitEvent k | beamInterrupted k =>
    cases he
    repeat' split
    all_goals rfl
  | joinDeadlineExpiry =>
    rw [exec, execJoinDeadlineExpiry] at he
    refine reading_taken ?_ he
    split
    · rename_i h
      exact (State.reading_of_inState (Bool.and_eq_true_iff.mp h).1).symm
    · rfl
  | cutOffExpiry =>
    rw [exec, execCutOffExpiry] at he
    refine reading_taken ?_ he
    dsimp only
    repeat' split
    · rename_i h
      rw [State.enterClosing_reading]
      exact (State.reading_of_inState h).symm
    · rfl
    · rfl
  | farCutExpiry =>
    rw [exec, execFarCutExpiry] at he
    refine reading_taken ?_ he
    dsimp only
    repeat' split
    all_goals rfl
  | levellerGraceExpiry =>
    rw [exec, execLevellerGraceExpiry] at he
    refine reading_taken ?_ he
    dsimp only
    repeat' split
    · exact State.undock_reading _
    · rfl
    · rfl
  | closingGraceExpiry =>
    rw [exec, execClosingGraceExpiry] at he
    refine reading_taken ?_ he
    dsimp only
    repeat' split
    · rename_i h
      exact (State.reading_of_inState h).symm
    · rfl
    · rfl
  | noReservationReport =>
    rw [exec, execNoReservationReport] at he
    refine reading_taken ?_ he
    split
    · exact (State.reading_of_inState ‹_›).symm
    · rfl
  | sensorRead =>
    rw [exec, execSensorRead] at he
    exact reading_request rfl he
  | declareEmpty =>
    rw [exec, execDeclareEmpty] at he
    refine reading_request ?_ he
    split
    · rename_i h
      rw [State.answer_reading, State.reading_of_inState h]
      split
      · exact s.enterDocked_reading
      · rfl
    · rfl
  | sealConfig =>
    by_cases h : s.ready = true
    · obtain ⟨-, hr, -⟩ := s.ready_iff.mp h
      rw [exec, execSealConfig, request_ready h] at he
      cases he
      dsimp only
      repeat' split
      · rfl
      · rfl
      · exact hr.symm
      · rfl
    · cases (exec_request_discarded rfl (Bool.eq_false_iff.mpr h)).symm.trans he
      rfl
  | _ => exact absurd rfl hw

/-! ## The notice line (R180) -/

/-- The notice line stands as its flags and enables say. -/
def LineJudged (u : Scu) : Prop := u.noticeLine = lineAsserted u.pending u.enabled

theorem lineJudged_withPending (u : Scu) (k : NoticeKind) (b : Bool) : LineJudged (withPending u k b) := rfl

theorem lineJudged_withEnable (u : Scu) (k : NoticeKind) (b : Bool) : LineJudged (withEnable u k b) := rfl

/-- Once the read has ended, and the line is released, the notice line is judged. -/
theorem noticeLineFits_iff {s : State} (hl : s.resetLine = false) (hr : s.reading = false) :
    NoticeLineFits s ↔ LineJudged s.scu := by
  simp [NoticeLineFits, LineJudged, hl, hr]

/-- Under an asserted reset line, and during the read, the notice line is deasserted (R179, R180). -/
theorem noticeLineFits_of_quiet {s : State} (h : s.resetLine = true ∨ s.reading = true)
    (hn : s.scu.noticeLine = false) : NoticeLineFits s := by
  obtain h | h := h <;> simp [NoticeLineFits, h, hn]

theorem noticeLineFits_of_eq {s t : State} (h : NoticeLineFits s) (hl : t.resetLine = s.resetLine)
    (hr : t.reading = s.reading) (hp : t.scu.pending = s.scu.pending) (he : t.scu.enabled = s.scu.enabled)
    (hn : t.scu.noticeLine = s.scu.noticeLine) : NoticeLineFits t := by
  rw [NoticeLineFits, hl, hr, hp, he, hn]
  exact h

/-- No flag is pending after a reset, so the line is deasserted. -/
theorem noticeLineFits_of_resetScu {s : State} (hp : s.scu.pending = resetScu.pending)
    (he : s.scu.enabled = resetScu.enabled) (hn : s.scu.noticeLine = false) : NoticeLineFits s := by
  have clear : lineAsserted resetScu.pending resetScu.enabled = false := by decide
  rw [NoticeLineFits, hp, he, hn, clear, Bool.and_false]

theorem State.floorReset_noticeLine (s : State) : NoticeLineFits s.floorReset :=
  noticeLineFits_of_resetScu (by rw [s.floorReset_scu]; rfl) (by rw [s.floorReset_scu]; rfl)
    (by rw [s.floorReset_scu]; rfl)

theorem lineJudged_plugNotices (u : Scu) (r : PlugResult) : LineJudged (plugNotices u r) := by
  unfold plugNotices
  dsimp only
  repeat' split
  all_goals rfl

theorem State.afterRead_scu (s : State) (r : PlugResult) :
    (s.afterRead r).scu = scuAfterRead s.resetLine s.scu r := by
  unfold State.afterRead
  dsimp only
  split <;> rfl

theorem State.afterRead_reading (s : State) (r : PlugResult) : (s.afterRead r).reading = false := by
  unfold State.afterRead
  dsimp only
  split <;> rfl

theorem State.afterRead_resetLine (s : State) (r : PlugResult) : (s.afterRead r).resetLine = s.resetLine := by
  unfold State.afterRead
  dsimp only
  split <;> rfl

theorem State.afterRead_noticeLine (s : State) (r : PlugResult) : NoticeLineFits (s.afterRead r) := by
  cases hl : s.resetLine with
  | true =>
    refine noticeLineFits_of_quiet (.inl ((s.afterRead_resetLine r).trans hl)) ?_
    rw [s.afterRead_scu, hl]
    rfl
  | false =>
    rw [noticeLineFits_iff ((s.afterRead_resetLine r).trans hl) (s.afterRead_reading r), s.afterRead_scu, hl]
    exact lineJudged_plugNotices _ r

/-- A request that is carried out keeps the line judged. -/
theorem exec_request_judged {c : Instr} {s t : State} (hc : isRequest c = true) (h : s.ready = true)
    (hj : LineJudged s.scu) (he : exec c s = .next t) : LineJudged t.scu := by
  by_cases hs : setsScu c = false
  · obtain ⟨_, ht, ⟨code, data, name, kept⟩⟩ := exec_answers hc h
    cases ht.symm.trans he
    rw [State.answer_scu, kept hs]
    exact hj
  cases c with
  | sealConfig =>
    rw [exec, execSealConfig, request_ready h] at he
    cases he
    dsimp only
    repeat' split
    all_goals exact hj
  | writeField f i v =>
    rw [exec, execWriteField, request_ready h] at he
    cases he
    unfold State.writeField
    dsimp only
    repeat' split
    all_goals exact hj
  | noticeEnable k | noticeDisable k =>
    cases k <;> cases (answer_of_request (fun _ => rfl) h).symm.trans he
    · exact hj
    · exact lineJudged_withEnable _ _ _
  | clearNotice k =>
    cases k <;> cases (answer_of_request (fun _ => rfl) h).symm.trans he
    · exact hj
    · dsimp only
      split
      · exact lineJudged_withPending _ _ _
      · exact hj
  | _ => exact absurd rfl hs

theorem NoticeLineFits.exec {c : Instr} {s t : State} (h : NoticeLineFits s) (he : exec c s = .next t) :
    NoticeLineFits t := by
  have leaves := exec_leaves c s t he
  by_cases hw : writesScu c = false
  · have hscu : t.scu = s.scu := leaves .scu hw
    have hl : t.resetLine = s.resetLine := leaves .resetLine (by cases c <;> first | rfl | cases hw)
    have hr := exec_reading (by rintro rfl; cases hw) (by rintro image rfl; cases hw) he
    exact noticeLineFits_of_eq h hl hr (by rw [hscu]) (by rw [hscu]) (by rw [hscu])
  by_cases hc : isRequest c = true
  · by_cases hr : s.ready = true
    · obtain ⟨hl, hd, -⟩ := s.ready_iff.mp hr
      have hlt : t.resetLine = s.resetLine := leaves .resetLine (by cases c <;> first | rfl | cases hc)
      have hdt := exec_reading (by rintro rfl; cases hc) (by rintro image rfl; cases hc) he
      rw [noticeLineFits_iff hl hd] at h
      exact (noticeLineFits_iff (hlt.trans hl) (hdt.trans hd)).mpr (exec_request_judged hc hr h he)
    · cases (exec_request_discarded hc (Bool.eq_false_iff.mpr hr)).symm.trans he
      exact h
  cases c with
  | powerOnReset =>
    cases he
    exact noticeLineFits_of_resetScu rfl rfl rfl
  | resetLineReleased =>
    cases he
    split
    · exact State.floorReset_noticeLine _
    · exact h
  | floorResetTaken =>
    cases he
    split
    · exact h
    · exact s.floorReset_noticeLine
  | serviceAnswerSent =>
    cases he
    dsimp only
    repeat' split
    · exact h
    · exact h
    · exact s.floorReset_noticeLine
    · exact h
  | configurationReadEnd image =>
    cases he
    split
    · exact s.afterRead_noticeLine _
    · exact h
  | resetLineAsserted =>
    cases he
    exact noticeLineFits_of_quiet (.inl rfl) rfl
  | sealRequest =>
    cases he
    dsimp only
    repeat' split
    all_goals exact h
  | noticeRaise k =>
    cases hl : s.resetLine with
    | true =>
      cases (answer_of_held rfl hl).symm.trans he
      exact h
    | false =>
      cases (exec_noticeRaise hl).symm.trans he
      cases hr : s.reading with
      | true => exact noticeLineFits_of_quiet (.inr hr) rfl
      | false =>
        have judged : LineJudged (noticeRaised false s.scu k) := lineJudged_withPending s.scu k true
        exact (noticeLineFits_iff (s := (s.drop _).setScu _) hl hr).mpr judged
  | _ => first | exact absurd rfl hw | exact absurd rfl hc

/-- Settles O9: a step is a command of one of the two queues, or a millisecond of the lamps. -/
theorem noticeLineKept : Obligations.NoticeLineKept := by
  refine fun s t h => step_keeps_of_exec (I := NoticeLineFits) (fun _ => h) ?_ fun _ _ hu he => hu.exec he
  unfold State.idle
  split <;> exact h

end Sys2Proof.Machine
end

section
/-! PROOFS. The fields of the configuration record (section 11.1, R101, R176): where a field stands, and what is read
after a field is written. -/

namespace Sys2Proof.Machine

/-! ## Names and indices (R176) -/

/-- A field stands at an index: 0 where its row has none, else one in the range of its row. -/
def fieldAt (f : FieldName) (i : Nat) : Bool :=
  match f, fieldIndices f with
  | .unknown, _ => false
  | _, none => decide (i = 0)
  | _, some (lo, hi) => decide (lo ≤ i) && decide (i ≤ hi)

theorem fieldNamed_none (f : FieldName) :
    fieldNamed f none = true ↔ f ≠ .unknown ∧ fieldIndices f = none := by
  cases f <;> decide

theorem fieldNamed_some (f : FieldName) (k : Nat) :
    fieldNamed f (some k) = true ↔ ∃ r, fieldIndices f = some r ∧ r.1 ≤ k ∧ k ≤ r.2 := by
  cases f <;> simp [fieldNamed, fieldIndices]

theorem fieldAt_of_named {f : FieldName} {i : Option Nat} (h : fieldNamed f i = true) :
    fieldAt f (i.getD 0) = true := by
  cases i with
  | none =>
    obtain ⟨hu, hr⟩ := (fieldNamed_none f).mp h
    cases f <;> first | rfl | exact absurd rfl hu | cases hr
  | some k =>
    obtain ⟨r, hr, hlo, hhi⟩ := (fieldNamed_some f k).mp h
    cases f <;> cases hr <;> exact Bool.and_eq_true_iff.mpr ⟨decide_eq_true hlo, decide_eq_true hhi⟩

/-- Whether a name takes an index is fixed by the name. -/
theorem getD_injective_of_named {f : FieldName} {i j : Option Nat} (hi : fieldNamed f i = true)
    (hj : fieldNamed f j = true) (h : i.getD 0 = j.getD 0) : i = j := by
  cases i with
  | none =>
    cases j with
    | none => rfl
    | some l =>
      obtain ⟨r, hr, -⟩ := (fieldNamed_some f l).mp hj
      cases ((fieldNamed_none f).mp hi).2.symm.trans hr
  | some k =>
    cases j with
    | none =>
      obtain ⟨r, hr, -⟩ := (fieldNamed_some f k).mp hi
      cases ((fieldNamed_none f).mp hj).2.symm.trans hr
    | some l => exact congrArg some h

/-! ## Ranges -/

theorem fieldInRange_iff (f : FieldName) (v : Int) :
    fieldInRange f v = true ↔ (fieldRange f).1 ≤ v ∧ v ≤ (fieldRange f).2 := by
  simp [fieldInRange]

theorem evenPitch_eq (v : Int) : evenPitch v = if v % 2 = 0 then v else v - 1 := by
  unfold evenPitch
  split <;> omega

/-- What the record holds of a value in range: an odd pitch is written even (R101). -/
def storedValue (f : FieldName) (v : Int) : Int := if f = .classP then evenPitch v else v

theorem codeOfHandling_handlingOfCode {v : Int} (h0 : 0 ≤ v) (h2 : v ≤ 2) : codeOfHandling (handlingOfCode v) = v := by
  unfold handlingOfCode
  split
  · exact Eq.symm ‹_›
  · split
    · exact Eq.symm ‹_›
    · simp only [codeOfHandling]
      omega

/-! ## Elements changed in place -/

section
variable {α β : Type} {n : Nat} (v : Vector α n) {i : Nat} {f : α → α}

theorem vectorUpdate_same (hi : i < n) : (vectorUpdate v i f)[i]? = some (f v[i]) := by
  simp [vectorUpdate, hi]

theorem vectorUpdate_other {j : Nat} (h : i ≠ j) : (vectorUpdate v i f)[j]? = v[j]? := by
  unfold vectorUpdate
  split
  · exact Vector.getElem?_setIfInBounds_ne h
  · rfl

/-- A figure that the change leaves is read as before, at every index. -/
theorem vectorUpdate_map {g : α → β} (hg : ∀ x, g (f x) = g x) (j : Nat) :
    (vectorUpdate v i f)[j]?.map g = v[j]?.map g := by
  by_cases h : i = j
  · subst h
    by_cases hi : i < n
    · rw [vectorUpdate_same v hi, Vector.getElem?_eq_getElem hi, Option.map_some, hg, Option.map_some]
    · simp [vectorUpdate, hi]
  · rw [vectorUpdate_other v h]

end

/-! ## What a row of the record holds -/

/-- The figure of a map entry under a name; 0 under the names of other parts of the record. -/
def mapFigure : FieldName → MapEntry → Int
  | .mapFirst, e => e.first
  | .mapLast, e => e.last
  | .mapHandling, e => codeOfHandling e.handling
  | _, _ => 0

/-- The figure of a trailer class under a name; 0 under the names of other parts of the record. -/
def classFigure : FieldName → TrailerClass → Int
  | .classD, x => x.d
  | .classP, x => x.p
  | .classL, x => x.l
  | .classK0, x => x.k0
  | .classB0, x => x.b0
  | .classKmax, x => x.kmax
  | .classBmax, x => x.bmax
  | .classGmax, x => x.gmax
  | .classKmin, x => x.kmin
  | .classH, x => x.h
  | _, _ => 0

/-- The figure of an intensity group under a name; 0 under the names of other parts of the record. -/
def groupFigure : FieldName → IntensityGroup → Int
  | .groupLevel, x => x.level
  | .slopeClass, x => x.slope
  | _, _ => 0

section
variable (c : ConfigRecord) (g : FieldName) (i j : Nat)

theorem getField_channelGroup : getField c .channelGroup j = c.channelGroup[j - 1]?.map fun n : Nat => (n : Int) := by
  cases h : c.channelGroup[j - 1]? <;> simp [getField, h]

/-- A change of a map entry, class or group leaves a field whose figure it leaves. -/
theorem getField_withMapEntry {u : MapEntry → MapEntry} (hu : ∀ x, mapFigure g (u x) = mapFigure g x) :
    getField (withMapEntry c i u) g j = getField c g j := by
  cases g with
  | mapFirst | mapLast | mapHandling => exact vectorUpdate_map c.map hu _
  | _ => rfl

theorem getField_withClass {u : TrailerClass → TrailerClass} (hu : ∀ x, classFigure g (u x) = classFigure g x) :
    getField (withClass c i u) g j = getField c g j := by
  cases g with
  | classD | classP | classL | classK0 | classB0 | classKmax | classBmax | classGmax | classKmin | classH =>
    exact vectorUpdate_map c.classes hu _
  | _ => rfl

theorem getField_withGroup {u : IntensityGroup → IntensityGroup} (hu : ∀ x, groupFigure g (u x) = groupFigure g x) :
    getField (withGroup c i u) g j = getField c g j := by
  cases g with
  | groupLevel | slopeClass => exact vectorUpdate_map c.groups hu _
  | _ => rfl

end

/-! ## A field read after a field is written -/

section
variable (c : ConfigRecord) {f g : FieldName} {i j : Nat} {v : Int}

/-- A field of another name stands, whatever the indices. -/
theorem getField_setField_name (h : g ≠ f) : getField (setField c f i v) g j = getField c g j := by
  cases f with
  | mapFirst | mapLast | mapHandling =>
    exact getField_withMapEntry c g i j fun _ => by cases g <;> first | rfl | exact absurd rfl h
  | classD | classP | classL | classK0 | classB0 | classKmax | classBmax | classGmax | classKmin | classH =>
    exact getField_withClass c g i j fun _ => by cases g <;> first | rfl | exact absurd rfl h
  | groupLevel | slopeClass =>
    exact getField_withGroup c g i j fun _ => by cases g <;> first | rfl | exact absurd rfl h
  | _ => cases g <;> first | rfl | exact absurd rfl h

/-- The field of the same name at another index stands. -/
theorem getField_setField_index (hi : fieldAt f i = true) (hj : fieldAt f j = true) (h : j ≠ i) :
    getField (setField c f i v) f j = getField c f j := by
  cases f with
  | bayNumber | advertPeriod | ageLimit | answerTimeout | holdBeats | guardMargin | closingGrace | levellerGrace
  | laneCount | highMark | lowMark | minimumDwell | showTime =>
    simp only [fieldAt, fieldIndices, decide_eq_true_eq] at hi hj
    exact absurd (hj.trans hi.symm) h
  | classD | classP | classL | classK0 | classB0 | classKmax | classBmax | classGmax | classKmin | classH =>
    exact congrArg (Option.map _) (vectorUpdate_other _ h.symm)
  | channelGroup =>
    simp only [fieldAt, fieldIndices, Bool.and_eq_true, decide_eq_true_eq] at hi hj
    rw [getField_channelGroup, getField_channelGroup]
    exact congrArg (Option.map _) (vectorUpdate_other _ (by omega))
  | mapFirst | mapLast | mapHandling | groupLevel | slopeClass =>
    simp only [fieldAt, fieldIndices, Bool.and_eq_true, decide_eq_true_eq] at hi hj
    exact congrArg (Option.map _) (vectorUpdate_other _ (by omega))
  | unknown => rfl

theorem getField_setField_other (hi : fieldAt f i = true) (hj : fieldAt g j = true) (h : (g, j) ≠ (f, i)) :
    getField (setField c f i v) g j = getField c g j := by
  by_cases hn : g = f
  · subst hn
    exact getField_setField_index c hi hj fun e => h (by rw [e])
  · exact getField_setField_name c hn

/-- A value in range is read back (R176, R178). -/
theorem getField_setField_same (hi : fieldAt f i = true) (hv : fieldInRange f v = true) :
    getField (setField c f i v) f i = some (storedValue f v) := by
  obtain ⟨hlo, hhi⟩ := (fieldInRange_iff f v).mp hv
  cases f with
  | bayNumber | advertPeriod | ageLimit | answerTimeout | holdBeats | guardMargin | closingGrace | levellerGrace
  | laneCount | highMark | lowMark | minimumDwell | showTime =>
    simp only [fieldRange] at hlo
    exact congrArg some (Int.toNat_of_nonneg (by omega))
  | classD | classP | classL | classK0 | classB0 | classKmax | classBmax | classGmax | classKmin =>
    simp only [fieldAt, fieldIndices, Bool.and_eq_true, decide_eq_true_eq] at hi
    exact congrArg (Option.map _) (vectorUpdate_same _ (by omega))
  | channelGroup =>
    simp only [fieldAt, fieldIndices, Bool.and_eq_true, decide_eq_true_eq] at hi
    simp only [fieldRange] at hlo
    rw [getField_channelGroup]
    refine (congrArg (Option.map _) (vectorUpdate_same _ (by omega))).trans ?_
    exact congrArg some (Int.toNat_of_nonneg (by omega))
  | classH | mapFirst | mapLast | groupLevel | slopeClass =>
    simp only [fieldAt, fieldIndices, Bool.and_eq_true, decide_eq_true_eq] at hi
    simp only [fieldRange] at hlo
    refine (congrArg (Option.map _) (vectorUpdate_same _ (by omega))).trans ?_
    exact congrArg some (Int.toNat_of_nonneg (by omega))
  | mapHandling =>
    simp only [fieldAt, fieldIndices, Bool.and_eq_true, decide_eq_true_eq] at hi
    refine (congrArg (Option.map _) (vectorUpdate_same _ (by omega))).trans ?_
    exact congrArg some (codeOfHandling_handlingOfCode hlo hhi)
  | unknown => cases hi

/-- A field that stands has a value (R178). -/
theorem getField_isSome (hi : fieldAt f i = true) : ∃ v, getField c f i = some v := by
  cases f with
  | bayNumber | advertPeriod | ageLimit | answerTimeout | holdBeats | guardMargin | closingGrace | levellerGrace
  | laneCount | highMark | lowMark | minimumDwell | showTime => exact ⟨_, rfl⟩
  | channelGroup =>
    simp only [fieldAt, fieldIndices, Bool.and_eq_true, decide_eq_true_eq] at hi
    rw [getField_channelGroup]
    exact ⟨_, congrArg (Option.map _) (Vector.getElem?_eq_getElem (by omega))⟩
  | classD | classP | classL | classK0 | classB0 | classKmax | classBmax | classGmax | classKmin | classH
  | mapFirst | mapLast | mapHandling | groupLevel | slopeClass =>
    simp only [fieldAt, fieldIndices, Bool.and_eq_true, decide_eq_true_eq] at hi
    exact ⟨_, congrArg (Option.map _) (Vector.getElem?_eq_getElem (by omega))⟩
  | unknown => cases hi

end

end Sys2Proof.Machine
end

section
/-! PROOFS. WRITE FIELD and READ FIELD (R176, R178): the record read as a whole, the names and indices that are right,
the lanes that a written lane count makes present, and what a write leaves (O23). -/

namespace Sys2Proof.Machine

/-! ## Names and indices (R176) -/

/-- A name is right with an index in the range of its row, or with none where its row has none; `unknown` never. -/
theorem fieldNamed_iff (f : FieldName) (i : Option Nat) : fieldNamed f i = true ↔
    f ≠ .unknown ∧
    (f ∈ [FieldName.mapFirst, .mapLast, .mapHandling] → ∃ k, i = some k ∧ 1 ≤ k ∧ k ≤ 8) ∧
    (f ∈ [FieldName.classD, .classP, .classL, .classK0, .classB0, .classKmax, .classBmax, .classGmax,
      .classKmin, .classH] → ∃ k, i = some k ∧ k ≤ 3) ∧
    (f = .channelGroup → ∃ k, i = some k ∧ 1 ≤ k ∧ k ≤ 12) ∧
    (f = .groupLevel ∨ f = .slopeClass → ∃ k, i = some k ∧ 1 ≤ k ∧ k ≤ 4) ∧
    (f ∈ [FieldName.bayNumber, .advertPeriod, .ageLimit, .answerTimeout, .holdBeats, .guardMargin,
      .closingGrace, .levellerGrace, .laneCount, .highMark, .lowMark, .minimumDwell, .showTime] → i = none) := by
  cases i with
  | none =>
    rw [fieldNamed_none]
    cases f <;> simp [fieldIndices]
  | some k =>
    rw [fieldNamed_some]
    cases f <;> simp [fieldIndices]

/-! ## The record read -/

section
variable (c : ConfigRecord) (k : Nat)

theorem getField_mapEntry {e : MapEntry} (h : c.map[k]? = some e) :
    getField c .mapFirst (k + 1) = some (e.first : Int) ∧ getField c .mapLast (k + 1) = some (e.last : Int) ∧
      (getField c .mapHandling (k + 1) = some 0 ↔ e.handling = .direct) ∧
      (getField c .mapHandling (k + 1) = some 1 ↔ e.handling = .hold) ∧
      (getField c .mapHandling (k + 1) = some 2 ↔ e.handling = .except) := by
  simp only [getField, Nat.add_sub_cancel, h, Option.map_some, Option.some.injEq, true_and]
  cases e.handling <;> decide

theorem getField_trailerClass {x : TrailerClass} (h : c.classes[k]? = some x) :
    [FieldName.classD, .classP, .classL, .classK0, .classB0, .classKmax, .classBmax, .classGmax, .classKmin,
      .classH].map (getField c · k) =
      [x.d, x.p, x.l, x.k0, x.b0, x.kmax, x.bmax, x.gmax, x.kmin, (x.h : Int)].map some := by
  simp [getField, h]

theorem getField_channelGroup_of {g : Nat} (h : c.channelGroup[k]? = some g) :
    getField c .channelGroup (k + 1) = some (g : Int) := by
  rw [getField_channelGroup, Nat.add_sub_cancel, h]
  rfl

theorem getField_intensityGroup {g : IntensityGroup} (h : c.groups[k]? = some g) :
    getField c .groupLevel (k + 1) = some (g.level : Int) ∧ getField c .slopeClass (k + 1) = some (g.slope : Int) := by
  simp [getField, h]

end

/-! ## Lanes made present (R146) -/

theorem laneNumbers_upTo {n : Nat} (h : n ≤ 4) :
    (laneNumbers.filter fun k => decide (k ≤ n)) = (List.range n).map (· + 1) := by
  have all : ∀ n ≤ 4, (laneNumbers.filter fun k => decide (k ≤ n)) = (List.range n).map (· + 1) := by decide
  exact all n h

/-- A lane present stood already, or is new: SUSPECT and empty. -/
theorem mem_lanesFor {old : List Lane} {n : Nat} {l : Lane} (h : l ∈ lanesFor old n) :
    l ∈ old ∨ (∀ o ∈ old, o.number ≠ l.number) ∧ l = suspectLane l.number := by
  obtain ⟨k, -, rfl⟩ := List.mem_map.mp h
  cases hf : old.find? fun l => decide (l.number = k) with
  | none => exact .inr ⟨by simpa [suspectLane] using hf, rfl⟩
  | some l => exact .inl (List.mem_of_find?_eq_some hf)

/-- A lane that stands is kept, where its number is in the count. -/
theorem lanesFor_keeps {old : List Lane} {n : Nat} {l : Lane} (hn : n ≤ 4) (hu : (old.map Lane.number).Nodup)
    (hl : l ∈ old) (h1 : 1 ≤ l.number) (hk : l.number ≤ n) : l ∈ lanesFor old n := by
  refine List.mem_map.mpr ⟨l.number, ?_, ?_⟩
  · rw [laneNumbers_upTo hn]
    exact List.mem_map.mpr ⟨l.number - 1, List.mem_range.mpr (by omega), by omega⟩
  · rw [find?_number_of_nodup hu hl, Option.getD_some]

/-! ## The commands -/

section
variable {f : FieldName} {i : Option Nat} {v : Int} {s : State}

theorem exec_writeField_unnamed (h : s.ready = true) (hn : fieldNamed f i = false) :
    exec (.writeField f i v) s = .next (s.answer .writeField .range .nothing) := by
  rw [exec, execWriteField, request_ready h]
  exact congrArg _ (if_pos hn)

theorem exec_writeField_sealed (h : s.ready = true) (hn : fieldNamed f i = true) (hs : s.scu.sealed = true) :
    exec (.writeField f i v) s = .next (s.answer .writeField .sealed .nothing) := by
  rw [exec, execWriteField, request_ready h]
  simp [hn, hs]

theorem exec_writeField_outOfRange (h : s.ready = true) (hn : fieldNamed f i = true) (hs : s.scu.sealed = false)
    (hv : fieldInRange f v = false) :
    exec (.writeField f i v) s = .next (s.answer .writeField .range .nothing) := by
  rw [exec, execWriteField, request_ready h]
  simp [hn, hs, hv]

theorem exec_writeField (h : s.ready = true) (hn : fieldNamed f i = true) (hs : s.scu.sealed = false)
    (hv : fieldInRange f v = true) :
    exec (.writeField f i v) s = .next ((s.writeField f (i.getD 0) v).answer .writeField .ok .nothing) := by
  rw [exec, execWriteField, request_ready h]
  simp [hn, hs, hv]

theorem exec_readField_unnamed (h : s.ready = true) (hn : fieldNamed f i = false) :
    exec (.readField f i) s = .next (s.answer .readField .range .nothing) := by
  rw [exec, execReadField, request_ready h]
  exact congrArg _ (if_pos hn)

theorem exec_readField (h : s.ready = true) (hn : fieldNamed f i = true)
    (hv : getField s.scu.config f (i.getD 0) = some v) :
    exec (.readField f i) s = .next (s.answer .readField .ok (.field v)) := by
  rw [exec, execReadField, request_ready h]
  simp [hn, hv]

/-- What a write leaves: the record with one field set, and the lanes that a lane count in force makes present. -/
theorem State.writeField_eq (s : State) (f : FieldName) (i : Nat) (v : Int) : s.writeField f i v =
    { s with
      scu := { s.scu with config := setField s.scu.config f i v }
      mlu := if f = .laneCount ∧ s.inState .unconfigured = false then
        { s.mlu with lanes := lanesFor s.mlu.lanes v.toNat } else s.mlu } := by
  unfold State.writeField
  dsimp only
  split <;> rfl

theorem writeField_other {g : FieldName} {j : Option Nat} (c : ConfigRecord) (hn : fieldNamed f i = true)
    (hm : fieldNamed g j = true) (h : (g, j) ≠ (f, i)) :
    getField (setField c f (i.getD 0) v) g (j.getD 0) = getField c g (j.getD 0) := by
  refine getField_setField_other c (fieldAt_of_named hn) (fieldAt_of_named hm) fun e => h ?_
  obtain ⟨rfl, hi⟩ := Prod.mk.inj e
  rw [getD_injective_of_named hm hn hi]

end

/-- Settles O23: the tables, the lanes of a count, then each request by the checks of R176. -/
theorem writeFieldReadsBack : Obligations.WriteFieldReadsBack := by
  refine ⟨fun f v => ⟨fieldInRange_iff f v, evenPitch_eq v⟩, fun c k => ⟨rfl, fun e => getField_mapEntry c k,
      fun x => getField_trailerClass c k, fun g => getField_channelGroup_of c k, fun g => getField_intensityGroup c k⟩,
    fieldNamed_iff, fun old n hn => ⟨?_, fun l hl => mem_lanesFor hl⟩, fun old n l => lanesFor_keeps,
    fun f i v s h hn hs hv => ?_, fun f i v s => exec_writeField_unnamed, fun f i v s => exec_writeField_sealed,
    fun f i v s => exec_writeField_outOfRange, fun f i s h hn => ?_, fun f i s => exec_readField_unnamed⟩
  · rw [numbers_lanesFor, laneNumbers_upTo hn]
  · refine ⟨_, exec_writeField h hn hs hv, ?_⟩
    rw [State.writeField_eq]
    exact ⟨getField_setField_same _ (fieldAt_of_named hn) hv, fun g j hm hg => writeField_other _ hn hm hg, rfl, rfl,
      rfl, rfl, rfl, rfl, rfl, rfl, rfl⟩
  · obtain ⟨v, hv⟩ := getField_isSome s.scu.config (fieldAt_of_named hn)
    exact ⟨v, hv, exec_readField h hn hv⟩

end Sys2Proof.Machine
end

section
/-! PROOFS. The configuration plug (R172, R173): the order of the image, the fields loaded one after the other, and the
state after the power-on read (O22). -/

namespace Sys2Proof.Machine

/-! ## The fields of the image (R172) -/

theorem fieldAt_of_mem_imageFields : ∀ x ∈ imageFields, fieldAt x.1 x.2 = true := by decide

theorem bayNumber_not_mem_imageFields : ∀ x ∈ imageFields, x.1 ≠ .bayNumber := by decide

theorem imageFields_nodup : imageFields.Nodup := by decide

/-- The lowest index of a name's row; 0 where it has none. -/
def lowestIndex (f : FieldName) : Nat := ((fieldIndices f).map Prod.fst).getD 0

/-- The defaults of a name are the same at every index of its row. -/
theorem getField_default {f : FieldName} {i j : Nat} (hi : fieldAt f i = true) (hj : fieldAt f j = true) :
    getField defaultConfig f i = getField defaultConfig f j := by
  have replicate {α : Type} {n a b : Nat} (x : α) (ha : a < n) (hb : b < n) :
      (Vector.replicate n x)[a]? = (Vector.replicate n x)[b]? := by
    rw [Vector.getElem?_replicate, if_pos ha, Vector.getElem?_replicate, if_pos hb]
  cases f with
  | channelGroup =>
    simp only [fieldAt, fieldIndices, Bool.and_eq_true, decide_eq_true_eq] at hi hj
    rw [getField_channelGroup, getField_channelGroup]
    exact congrArg (Option.map _) (replicate _ (by omega) (by omega))
  | classD | classP | classL | classK0 | classB0 | classKmax | classBmax | classGmax | classKmin | classH
  | mapFirst | mapLast | mapHandling | groupLevel | slopeClass =>
    simp only [fieldAt, fieldIndices, Bool.and_eq_true, decide_eq_true_eq] at hi hj
    exact congrArg (Option.map _) (replicate _ (by omega) (by omega))
  | _ => rfl

/-! ## Fields loaded (R173) -/

theorem clampInt_inRange (f : FieldName) (v : Int) :
    fieldInRange f (clampInt (fieldRange f).1 (fieldRange f).2 v) = true := by
  have ordered : (fieldRange f).1 ≤ (fieldRange f).2 := by cases f <;> decide
  rw [fieldInRange_iff]
  unfold clampInt
  split
  · omega
  · split <;> omega

/-- A field named in no number of a list stands. -/
theorem loadFields_other {f : FieldName} {i : Nat} (hi : fieldAt f i = true) {l : List ((FieldName × Nat) × Int)}
    (hl : ∀ x ∈ l, fieldAt x.1.1 x.1.2 = true) (hn : (f, i) ∉ l.map Prod.fst) (c : ConfigRecord) (b : Bool) :
    getField (loadFields l c b).1 f i = getField c f i := by
  induction l generalizing c b with
  | nil => rfl
  | cons x l ih =>
    obtain ⟨⟨g, j⟩, v⟩ := x
    rw [List.map_cons, List.mem_cons, not_or] at hn
    obtain ⟨hne, hn⟩ := hn
    obtain ⟨hj, hl⟩ := List.forall_mem_cons.mp hl
    exact (ih hl hn _ _).trans (getField_setField_other c hj hi hne)

/-- Each field of a list without repetition is taken as its number says. -/
theorem loadFields_field {f : FieldName} {i : Nat} {v : Int} {l : List ((FieldName × Nat) × Int)}
    (hl : ∀ x ∈ l, fieldAt x.1.1 x.1.2 = true) (hu : (l.map Prod.fst).Nodup) (h : ((f, i), v) ∈ l)
    (c : ConfigRecord) (b : Bool) : getField (loadFields l c b).1 f i = some (takenValue f v) := by
  induction l generalizing c b with
  | nil => cases h
  | cons x l ih =>
    obtain ⟨⟨g, j⟩, w⟩ := x
    obtain ⟨hj, hrest⟩ := List.forall_mem_cons.mp hl
    rw [List.map_cons, List.nodup_cons] at hu
    obtain ⟨hnot, hu⟩ := hu
    obtain e | h := List.mem_cons.mp h
    · cases e
      rw [loadFields, loadFields_other hj hrest hnot]
      exact getField_setField_same c hj (clampInt_inRange f v)
    · exact ih hrest hu h _ _

theorem loadFields_clamped (l : List ((FieldName × Nat) × Int)) (c : ConfigRecord) (b : Bool) :
    (loadFields l c b).2 = true ↔ b = true ∨ ∃ x ∈ l, fieldInRange x.1.1 x.2 = false := by
  induction l generalizing c b with
  | nil => simp [loadFields]
  | cons x l ih =>
    obtain ⟨⟨f, i⟩, v⟩ := x
    rw [loadFields, ih]
    simp [or_assoc]

section
variable {rest : List Int}

theorem mem_zip_image {k : Nat} {x : FieldName × Nat} {v : Int} (hf : imageFields[k]? = some x)
    (hv : rest[k]? = some v) : (x, v) ∈ imageFields.zip rest :=
  List.mem_of_getElem? (List.getElem?_zip_eq_some.mpr ⟨hf, hv⟩)

theorem fst_zip_image : ((imageFields.zip rest).map Prod.fst).Nodup := by
  rw [List.zip_eq_zip_take_min, List.map_fst_zip (by simp)]
  exact imageFields_nodup.sublist (List.take_sublist _ _)

theorem fieldAt_of_mem_zip_image {x : (FieldName × Nat) × Int} (h : x ∈ imageFields.zip rest) :
    fieldAt x.1.1 x.1.2 = true := fieldAt_of_mem_imageFields x.1 (List.of_mem_zip h).1

theorem loadImage_clamped : (loadFields (imageFields.zip rest) defaultConfig false).2 = true ↔
    ∃ (k : Nat) (f : FieldName) (i : Nat) (v : Int), imageFields[k]? = some (f, i) ∧ rest[k]? = some v ∧
      fieldInRange f v = false := by
  rw [loadFields_clamped]
  simp only [Bool.false_eq_true, false_or]
  constructor
  · rintro ⟨⟨⟨f, i⟩, v⟩, hx, hv⟩
    obtain ⟨k, hk⟩ := List.mem_iff_getElem?.mp hx
    obtain ⟨hf, hr⟩ := List.getElem?_zip_eq_some.mp hk
    exact ⟨k, f, i, v, hf, hr, hv⟩
  · rintro ⟨k, f, i, v, hf, hr, hv⟩
    exact ⟨_, mem_zip_image hf hr, hv⟩

/-! ## A good image taken (R172) -/

variable {bay : Int}

theorem takeImage_bay (h : 1 ≤ bay ∧ bay ≤ 63) : takeImage (bay :: rest) =
    { config := { (loadFields (imageFields.zip rest) defaultConfig false).1 with bay := bay.toNat }
      fromPlug := true, bad := false
      clamped := (loadFields (imageFields.zip rest) defaultConfig false).2 } := if_pos h

theorem takeImage_noBay (h : ¬ (1 ≤ bay ∧ bay ≤ 63)) : takeImage (bay :: rest) =
    { config := { (loadFields (imageFields.zip rest) defaultConfig false).1 with bay := 0 }
      fromPlug := true, bad := true
      clamped := (loadFields (imageFields.zip rest) defaultConfig false).2 } := if_neg h

variable (bay)

theorem takeImage_fromPlug : (takeImage (bay :: rest)).fromPlug = true := by
  by_cases h : 1 ≤ bay ∧ bay ≤ 63
  · rw [takeImage_bay h]
  · rw [takeImage_noBay h]

theorem takeImage_clamped : (takeImage (bay :: rest)).clamped =
    (loadFields (imageFields.zip rest) defaultConfig false).2 := by
  by_cases h : 1 ≤ bay ∧ bay ≤ 63
  · rw [takeImage_bay h]
  · rw [takeImage_noBay h]

/-- Each number after the bay number is taken as the value of its field, clamped (R172, R173). -/
theorem takeImage_field {k : Nat} {f : FieldName} {i : Nat} {v : Int} (hf : imageFields[k]? = some (f, i))
    (hv : rest[k]? = some v) : getField (takeImage (bay :: rest)).config f i = some (takenValue f v) := by
  have loaded := loadFields_field (fun _ => fieldAt_of_mem_zip_image) fst_zip_image (mem_zip_image hf hv)
    defaultConfig false
  have named : f ≠ .bayNumber := bayNumber_not_mem_imageFields _ (List.mem_of_getElem? hf)
  have bay_apart (c : ConfigRecord) (v : Int) : getField (setField c .bayNumber 0 v) f i = getField c f i :=
    getField_setField_name c named
  by_cases h : 1 ≤ bay ∧ bay ≤ 63
  · rw [takeImage_bay h]
    exact (bay_apart _ bay).trans loaded
  · rw [takeImage_noBay h]
    exact (bay_apart _ 0).trans loaded

end

/-! ## The read that ends -/

theorem imageGood_iff (image : List Byte) : imageGood image = true ↔
    390 ≤ image.length ∧ crcBytes (image.take 388) = (image.drop 388).take 2 := by
  rw [imageGood, Bool.and_eq_true, decide_eq_true_iff, decide_eq_true_iff]
  rfl

theorem readPlug_good {image : List Byte} (h : imageGood image = true) :
    readPlug (some image) = takeImage (signedWords (image.take imageLength)) := if_pos h

theorem readPlug_bad {image : Option (List Byte)} (h : ∀ l, image = some l → imageGood l = false) :
    readPlug image = readPlug none := by
  cases image with
  | none => rfl
  | some l => exact if_neg (Bool.eq_false_iff.mp (h l rfl))

section
variable (held : Bool) (u : Scu) (r : PlugResult)

theorem scuAfterRead_config : (scuAfterRead held u r).config = r.config := by
  unfold scuAfterRead plugNotices
  dsimp only
  repeat' split
  all_goals rfl

theorem scuAfterRead_fromPlug : (scuAfterRead held u r).fromPlug = r.fromPlug := by
  unfold scuAfterRead plugNotices
  dsimp only
  repeat' split
  all_goals rfl

theorem pendingFlag_withPending (k j : NoticeKind) (b : Bool) :
    pendingFlag (withPending u k b) j = if j = k then b else pendingFlag u j := by
  split
  · rename_i e
    subst e
    exact pendingFlag_set_same u j b
  · exact pendingFlag_set_other u ‹_› b

/-- The notices of a read do not go by the reset line, which holds back the notice line alone (R179). -/
theorem pendingFlag_scuAfterRead (k : NoticeKind) : pendingFlag (scuAfterRead held u r) k =
    pendingFlag (plugNotices { u with config := r.config, fromPlug := r.fromPlug } r) k := by
  unfold scuAfterRead
  dsimp only
  split <;> rfl

theorem pendingFlag_judgedLine (k : NoticeKind) : pendingFlag (judgedLine u) k = pendingFlag u k := rfl

theorem pendingFlag_configBad_afterRead :
    pendingFlag (scuAfterRead held u r) .configBad = (r.bad || pendingFlag u .configBad) := by
  rw [pendingFlag_scuAfterRead, plugNotices]
  cases r.bad <;> cases r.clamped <;> simp [pendingFlag_withPending, pendingFlag_judgedLine] <;> rfl

theorem pendingFlag_configClamped_afterRead :
    pendingFlag (scuAfterRead held u r) .configClamped = (r.clamped || pendingFlag u .configClamped) := by
  rw [pendingFlag_scuAfterRead, plugNotices]
  cases r.bad <;> cases r.clamped <;> simp [pendingFlag_withPending, pendingFlag_judgedLine] <;> rfl

end

section
variable {s : State} {r : PlugResult}

/-- A read that gives a bay number brings the bay to LISTEN, with the record's lanes present (R8). -/
theorem State.afterRead_listen (h : r.bad = false) : (s.afterRead r).dcu.bayState = some .listen ∧
    (s.afterRead r).mlu.lanes = lanesFor s.mlu.lanes r.config.laneCount := by
  simp only [State.afterRead, h, Bool.false_eq_true, if_false]
  refine ⟨rfl, ?_⟩
  rw [← scuAfterRead_config s.resetLine s.scu r]
  rfl

/-- Any other leaves it UNCONFIGURED (R9). -/
theorem State.afterRead_unconfigured (h : r.bad = true) : (s.afterRead r).dcu.bayState = some .unconfigured ∧
    (s.afterRead r).dcu.join = s.dcu.join ∧ (s.afterRead r).mlu = s.mlu := by
  simp only [State.afterRead, h, if_true]
  exact ⟨rfl, rfl, rfl⟩

theorem exec_configurationReadEnd {image : Option (List Byte)} (h : s.reading = true) :
    exec (.configurationReadEnd image) s = .next (s.afterRead (readPlug image)) := by
  rw [exec, execConfigurationReadEnd, if_pos h]

end

/-- Settles O22: the tables, then the read by what the plug gives. -/
theorem plugImageTaken : Obligations.PlugImageTaken := by
  refine ⟨imageGood_iff, fun _ _ _ _ _ => rfl, ⟨rfl, rfl⟩, by decide,
    fun x hx i hi => ?_, ⟨rfl, rfl, by decide, by decide, by decide, by decide⟩,
    fun image s bay rest hr hg hw => ?_, fun image s hr hb => ?_, fun image s hr => ?_⟩
  · obtain ⟨hf, hv⟩ : fieldAt x.1 (lowestIndex x.1) = true ∧
        getField defaultConfig x.1 (lowestIndex x.1) = some x.2 := by
      clear hi
      revert x
      decide
    exact (getField_default (fieldAt_of_named hi) hf).trans hv
  · rw [exec_configurationReadEnd hr, readPlug_good hg, hw]
    refine ⟨_, rfl, ?_⟩
    rw [State.afterRead_scu]
    simp only [scuAfterRead_config, scuAfterRead_fromPlug, pendingFlag_configBad_afterRead,
      pendingFlag_configClamped_afterRead]
    refine ⟨takeImage_fromPlug bay, fun k f i v hf hv => takeImage_field bay hf hv, ?_, fun h => ?_, fun h => ?_⟩
    · rw [takeImage_clamped, Bool.or_eq_true, loadImage_clamped, or_comm]
    · have good : (takeImage (bay :: rest)).bad = false := congrArg PlugResult.bad (takeImage_bay h)
      obtain ⟨hb, hl⟩ := State.afterRead_listen (s := s) good
      rw [hb, hl, takeImage_bay h]
      refine ⟨Int.toNat_of_nonneg (by omega), rfl, rfl, rfl, fun he => ?_⟩
      rw [he, lanesFor_nil]
    · have bad : (takeImage (bay :: rest)).bad = true := congrArg PlugResult.bad (takeImage_noBay h)
      obtain ⟨hb, -, hm⟩ := State.afterRead_unconfigured (s := s) bad
      rw [hb, hm, takeImage_noBay h]
      exact ⟨rfl, rfl, rfl, rfl⟩
  · rw [exec_configurationReadEnd hr, readPlug_bad hb]
    obtain ⟨hb, hj, hm⟩ := State.afterRead_unconfigured (s := s) (r := readPlug none) rfl
    refine ⟨_, rfl, ?_⟩
    rw [State.afterRead_scu, scuAfterRead_config, scuAfterRead_fromPlug, pendingFlag_configBad_afterRead]
    exact ⟨rfl, rfl, rfl, hb, hj, hm⟩
  · rw [exec, execConfigurationReadEnd, if_neg (Bool.eq_false_iff.mp hr)]

end Sys2Proof.Machine
end

section
/-! PROOFS. The reads of the service line (R178): each is answered with the state as it stands (O24). -/

namespace Sys2Proof.Machine

section
variable {s : State}

theorem exec_readDirectoryEntry (h : s.ready = true) {set way : Nat} (hs : set ≤ 31) (h1 : 1 ≤ way) (h4 : way ≤ 4) :
    exec (.readDirectoryEntry set way) s =
      .next (s.answer .readDirectoryEntry .ok (.entry (entryAt s.pdr (4 * set + (way - 1))))) := by
  rw [exec, execReadDirectoryEntry, request_ready h]
  exact congrArg _ (if_pos ⟨hs, h1, h4⟩)

theorem exec_readDirectoryEntry_outOfRange (h : s.ready = true) {set way : Nat} (hr : 31 < set ∨ way = 0 ∨ 4 < way) :
    exec (.readDirectoryEntry set way) s = .next (s.answer .readDirectoryEntry .range .nothing) := by
  rw [exec, execReadDirectoryEntry, request_ready h]
  exact congrArg _ (if_neg (by omega))

/-- While no class is bound in the plan, the loads are those of the binding's class, empty (R99). -/
theorem reportedLoads_absent {b : Binding} (h : s.plan.state = .absent) (hb : s.lpu.binding = some b) :
    reportedLoads s = loadsOf (s.trailerClass b.cls) 0 0 := by
  rw [reportedLoads, if_pos h, hb]

/-! ## The intensity settings in force (R155, R160, R174) -/

theorem State.channelGroups_configured (h : s.dcu.bayState ≠ some .unconfigured) :
    s.channelGroups = s.scu.config.channelGroup := if_neg (mt (s.inState_iff _).mp h)

theorem State.intensityGroups_configured (h : s.dcu.bayState ≠ some .unconfigured) :
    s.intensityGroups = s.scu.config.groups := if_neg (mt (s.inState_iff _).mp h)

theorem State.channelGroups_unconfigured (h : s.dcu.bayState = some .unconfigured) {k : Nat} (hk : k < 12) :
    s.channelGroups[k]? = some 1 := by
  rw [State.channelGroups, if_pos ((s.inState_iff _).mpr h), Vector.getElem?_replicate, if_pos hk]

theorem State.intensityGroups_unconfigured (h : s.dcu.bayState = some .unconfigured) :
    s.intensityGroups[0]? = some { level := 255, slope := 0 } := by
  rw [State.intensityGroups, if_pos ((s.inState_iff _).mpr h)]
  simp [fullGroup]

end

/-- Settles O24: what READ STATE gathers, then each read by its answer. -/
theorem readsChangeNothing : Obligations.ReadsChangeNothing := by
  refine ⟨fun s => ⟨rfl, s.channelGroups, s.intensityGroups, rfl,
      fun h => ⟨s.channelGroups_configured h, s.intensityGroups_configured h⟩,
      fun h => ⟨fun k => s.channelGroups_unconfigured h, s.intensityGroups_unconfigured h⟩⟩,
    fun s h => ⟨fun set way => exec_readDirectoryEntry h, fun set way => exec_readDirectoryEntry_outOfRange h,
      ?_, ?_, ?_, ?_, ?_, ?_⟩⟩
  · rw [exec, execReadAskTable, request_ready h]
  · rw [exec, execReadClosingRecord, request_ready h]
  · rw [exec, execReadLanes, request_ready h]
  · rw [exec, execReadState, request_ready h]
  · rw [exec, execReadNotices, request_ready h]
  · rw [exec, execReadPlan, request_ready h]
    exact ⟨_, rfl, rfl, rfl, rfl, rfl, rfl, rfl, rfl, rfl, rfl, rfl, rfl, reportedLoads_of_plan,
      fun b => reportedLoads_absent⟩

end Sys2Proof.Machine
end

section
/-! PROOFS. The seal (R177): SEAL by its table, the record and the seal that stand until power-on, and a seal request
over a floor reset (O14). -/

namespace Sys2Proof.Machine

/-! ## SEAL and the seal request (R177) -/

section
variable {s : State}

theorem exec_sealConfig_sealed (h : s.ready = true) (hs : s.scu.sealed = true) :
    exec .sealConfig s = .next (s.answer .sealConfig .sealed .nothing) := by
  rw [exec, execSealConfig, request_ready h]
  exact congrArg _ (if_pos hs)

theorem exec_sealConfig_unnumbered (h : s.ready = true) (hs : s.scu.sealed = false) (hb : s.scu.config.bay = 0) :
    exec .sealConfig s = .next (s.answer .sealConfig .state .nothing) := by
  rw [exec, execSealConfig, request_ready h]
  simp [hs, hb]

/-- SEAL carried out: an UNCONFIGURED bay enters LISTEN (R9). -/
theorem exec_sealConfig (h : s.ready = true) (hs : s.scu.sealed = false) (hb : 1 ≤ s.scu.config.bay) :
    exec .sealConfig s = .next
      ((if s.inState .unconfigured then (s.setScu { s.scu with sealed := true }).enterListen
        else s.setScu { s.scu with sealed := true }).answer .sealConfig .ok .nothing) := by
  have hb : s.scu.config.bay ≠ 0 := by omega
  rw [exec, execSealConfig, request_ready h]
  simp [hs, hb]

theorem exec_sealRequest (hl : s.resetLine = false) (hr : s.reading = false) : exec .sealRequest s =
    .next { s with handed := s.handed.erase .sealRequest, scu := { s.scu with sealed := true } } := by
  rw [exec, execSealRequest, event_running hl]
  simp only [hr, Bool.false_eq_true, if_false]
  rfl

/-- None is taken during the power-on read (notes/assumptions/18.md). -/
theorem exec_sealRequest_reading (hr : s.reading = true) {t : State} (he : exec .sealRequest s = .next t) :
    t.scu = s.scu := by
  cases he
  dsimp only
  repeat' split
  · rfl
  · rfl

/-- A seal request that waits is not lost at a floor reset (notes/assumptions/35.md). -/
theorem State.floorReset_keepsSealRequest (h : .sealRequest ∈ s.handed) : .sealRequest ∈ s.floorReset.handed := by
  have waits : .sealRequest ∈ sealRequests s.handed := List.mem_filter.mpr ⟨h, rfl⟩
  cases hb : s.dcu.bayState with
  | none =>
    rw [State.floorReset_reading hb]
    exact List.mem_append_right _ waits
  | some st =>
    by_cases hu : st = .unconfigured
    · subst hu
      rw [State.floorReset_unconfigured hb]
      exact List.mem_append_left _ (List.mem_append_right _ waits)
    · rw [State.floorReset_configured hb hu]
      exact List.mem_append_left _ (List.mem_append_right _ waits)

end

/-! ## The record and the seal (R177) -/

section
variable {c : Instr} {s t : State}

/-- Of the commands that are no requests, power-on reset and the end of the power-on read aside, none changes the
record, and only a seal request, once the read has ended, the seal. -/
theorem exec_record (hp : c ≠ .powerOnReset) (hi : ∀ image, c ≠ .configurationReadEnd image)
    (hc : isRequest c = false) (he : exec c s = .next t) : t.scu.config = s.scu.config ∧
      (t.scu.sealed = s.scu.sealed ∨ s.reading = false ∧ t.scu.sealed = true) := by
  have of_eq (h : t.scu = s.scu) : t.scu.config = s.scu.config ∧
      (t.scu.sealed = s.scu.sealed ∨ s.reading = false ∧ t.scu.sealed = true) := by
    rw [h]
    exact ⟨rfl, .inl rfl⟩
  by_cases hw : writesScu c = false
  · exact of_eq (exec_leaves c s t he .scu hw)
  cases c with
  | powerOnReset => exact absurd rfl hp
  | configurationReadEnd image => exact absurd rfl (hi image)
  | resetLineReleased =>
    cases he
    split
    · rw [State.floorReset_scu]
      exact ⟨rfl, .inl rfl⟩
    · exact ⟨rfl, .inl rfl⟩
  | floorResetTaken =>
    cases he
    split
    · exact ⟨rfl, .inl rfl⟩
    · rw [State.floorReset_scu]
      exact ⟨rfl, .inl rfl⟩
  | serviceAnswerSent =>
    cases he
    dsimp only
    repeat' split
    · exact ⟨rfl, .inl rfl⟩
    · exact ⟨rfl, .inl rfl⟩
    · rw [State.floorReset_scu]
      exact ⟨rfl, .inl rfl⟩
    · exact ⟨rfl, .inl rfl⟩
  | resetLineAsserted =>
    cases he
    exact ⟨rfl, .inl rfl⟩
  | sealRequest =>
    cases hr : s.reading with
    | true => rw [exec_sealRequest_reading hr he]; exact ⟨rfl, .inl rfl⟩
    | false =>
      cases hl : s.resetLine with
      | true =>
        cases (answer_of_held rfl hl).symm.trans he
        exact ⟨rfl, .inl rfl⟩
      | false =>
        cases (exec_sealRequest hl hr).symm.trans he
        exact ⟨rfl, .inr ⟨rfl, rfl⟩⟩
  | noticeRaise k =>
    cases hl : s.resetLine with
    | true =>
      cases (answer_of_held rfl hl).symm.trans he
      exact ⟨rfl, .inl rfl⟩
    | false =>
      cases (exec_noticeRaise hl).symm.trans he
      unfold noticeRaised
      split <;> exact ⟨rfl, .inl rfl⟩
  | _ => first | exact absurd rfl hw | cases hc

/-- A request changes neither the record nor the seal of a sealed bay. -/
theorem exec_request_sealed (hc : isRequest c = true) (hs : s.scu.sealed = true) (he : exec c s = .next t) :
    t.scu.config = s.scu.config ∧ t.scu.sealed = true := by
  by_cases h : s.ready = true
  · by_cases hset : setsScu c = false
    · obtain ⟨_, ht, ⟨code, data, name, kept⟩⟩ := exec_answers hc h
      cases ht.symm.trans he
      rw [State.answer_scu, kept hset]
      exact ⟨rfl, hs⟩
    cases c with
    | sealConfig =>
      cases (exec_sealConfig_sealed h hs).symm.trans he
      exact ⟨rfl, hs⟩
    | writeField f i v =>
      cases hn : fieldNamed f i with
      | true =>
        cases (exec_writeField_sealed h hn hs).symm.trans he
        exact ⟨rfl, hs⟩
      | false =>
        cases (exec_writeField_unnamed h hn).symm.trans he
        exact ⟨rfl, hs⟩
    | noticeEnable k | noticeDisable k =>
      cases k <;> cases (answer_of_request (fun _ => rfl) h).symm.trans he <;> exact ⟨rfl, hs⟩
    | clearNotice k =>
      cases (answer_of_request (fun _ => rfl) h).symm.trans he
      repeat' split
      all_goals exact ⟨rfl, hs⟩
    | _ => exact absurd rfl hset
  · cases (exec_request_discarded hc (Bool.eq_false_iff.mpr h)).symm.trans he
    exact ⟨rfl, hs⟩

theorem SealWaits.exec (h : SealWaits s) (he : exec c s = .next t) : SealWaits t := by
  intro ht
  by_cases hp : c = .powerOnReset
  · subst hp
    cases he
    rfl
  by_cases hi : ∃ image, c = .configurationReadEnd image
  · obtain ⟨image, rfl⟩ := hi
    by_cases hr : s.reading = true
    · cases (exec_configurationReadEnd hr).symm.trans he
      cases (s.afterRead_reading _).symm.trans ht
    · rw [exec, execConfigurationReadEnd, if_neg hr] at he
      cases he
      exact h ht
  have hi (image) : c ≠ .configurationReadEnd image := fun e => hi ⟨image, e⟩
  have hr : s.reading = true := (exec_reading hp hi he).symm.trans ht
  cases hc : isRequest c with
  | true =>
    cases (exec_request_discarded hc (by simp [State.ready, hr])).symm.trans he
    exact h hr
  | false =>
    obtain ⟨-, e | ⟨hn, -⟩⟩ := exec_record hp hi hc he
    · exact e.trans (h hr)
    · cases hn.symm.trans hr

/-- Once the seal is set the record and the seal stand until power-on. -/
theorem exec_sealed (h : SealWaits s) (hs : s.scu.sealed = true) (hp : c ≠ .powerOnReset)
    (he : exec c s = .next t) : t.scu.config = s.scu.config ∧ t.scu.sealed = true := by
  by_cases hi : ∃ image, c = .configurationReadEnd image
  · obtain ⟨image, rfl⟩ := hi
    have hr : ¬ s.reading = true := fun hr => by cases (h hr).symm.trans hs
    rw [exec, execConfigurationReadEnd, if_neg hr] at he
    cases he
    exact ⟨rfl, hs⟩
  cases hc : isRequest c with
  | true => exact exec_request_sealed hc hs he
  | false =>
    obtain ⟨record, e | ⟨-, e⟩⟩ := exec_record hp (fun image e => hi ⟨image, e⟩) hc he
    · exact ⟨record, e.trans hs⟩
    · exact ⟨record, e⟩

end

/-- Settles O14: SEAL by its table, then what each command leaves of the record and the seal. -/
theorem sealClosesConfiguration : Obligations.SealClosesConfiguration := by
  refine ⟨fun s => exec_sealConfig_sealed, fun s => exec_sealConfig_unnumbered, fun s h hs hb => ?_,
    fun s => exec_sealRequest, fun c s t => SealWaits.exec, fun c s t => exec_sealed,
    fun s => ⟨_, exec_powerOnReset s, rfl, rfl⟩, fun s h => answer_of_held rfl h, fun c s t hc hw he => ?_⟩
  · refine ⟨_, exec_sealConfig h hs hb, ?_⟩
    cases hu : s.inState .unconfigured with
    | true => exact ⟨rfl, rfl, rfl, rfl, fun _ => ⟨rfl, rfl, fun he => congrArg (lanesFor · _) he⟩, nofun⟩
    | false => exact ⟨rfl, rfl, rfl, rfl, nofun, fun _ => rfl⟩
  · cases (exec_floorReset_taken hc).symm.trans he
    exact ⟨State.floorReset_keepsSealRequest hw, State.floorReset_resetLine _⟩

end Sys2Proof.Machine
end

section
/-! PROOFS. How a step takes a command: the front of the queue (O1), always with a next state (O3), and with the queue
of waiting commands left as it was (O4). -/

namespace Sys2Proof.Machine

/-! ## The queue of waiting commands -/

/-- Settles O1: with a command waiting `step` is by definition the arm that carries it out. -/
theorem stepTakesFrontCommand : Obligations.StepTakesFrontCommand := fun _ _ _ => rfl

/-- Settles O4: the queue is a part that `mayChange` marks for no command. -/
theorem commandsLeaveQueue : Obligations.CommandsLeaveQueue := fun c s t h => exec_leaves c s t h .pending rfl

/-! ## A next state, whatever the way a command is taken -/

section
variable {c : Instr} {s : State} {f : State → State}

theorem safe_next : Safe (.next s) := ⟨s, rfl⟩

theorem safe_of_request (e : ∀ u, exec c u = request u f) : Safe (exec c s) := e s ▸ safe_next

theorem safe_of_event (e : ∀ u, exec c u = event u f) : Safe (exec c s) := e s ▸ safe_next

theorem safe_of_taken (e : ∀ u, exec c u = taken c u f) : Safe (exec c s) := e s ▸ safe_next

end

/-- Every command is taken in one of four ways, and each way answers a next state: a request by `request`, an event
that one block hands another by `taken`, any other event by `event` or, where it is not merely lost under an asserted
reset line, by an arm of its own. -/
theorem exec_safe (c : Instr) (s : State) : Safe (exec c s) := by
  cases c with
  | sensorRead | declareEmpty | readDirectoryEntry _ _ | removeRecord _ | readAskTable | readPlan | clearHold
  | readClosingRecord | clearLane _ | readLanes | clearLamp _ _ | floorReset | sealConfig | writeField _ _ _
  | readField _ _ | readState | readNotices | noticeEnable _ | noticeDisable _ | clearNotice _ | unknown =>
    exact safe_of_request fun _ => rfl
  | floorResetTaken | beat | doorRead _ | cardRead _ | laneRead _ | attemptStart | frameSent | collision
  | backoffEnd | fragmentReceived | frameArrival _ | frameTaking | lampSensing _ _ | patternHalfEnd _
  | sealRequest | serviceAnswerSent => exact safe_of_event fun _ => rfl
  | powerOnReset | configurationReadEnd _ | resetLineAsserted | resetLineReleased | doorLineChange _ _
  | exitEvent _ | beamInterrupted _ => exact safe_next
  | _ =>
    apply safe_of_taken
    intro u
    rw [exec]
    rfl

/-- A step is a command carried out, or a millisecond of the lamp timebase. -/
theorem step_safe (s : State) : Safe (step s) := by
  unfold step
  split
  · exact exec_safe _ _
  · exact exec_safe _ s
  · exact safe_next

/-- Settles O3: `exec_safe` for the commands, `step_safe` for the steps. -/
theorem noCommandStops : Obligations.NoCommandStops := ⟨exec_safe, step_safe⟩

end Sys2Proof.Machine
end
